-- ==== Sys2Proof/Word.lean ====
section
/-! DEFINITION. The bytes and words that frames and the configuration image are made of (chapter 13).

Quantities the manual calculates with (temperatures, flows, counts, times) are `Nat` or `Int`: section 5.2 of
`00_scope.md` says that products are exact and that a value is clamped only where the text names a clamp. -/

namespace Sys2Proof

/-- One byte of a frame. -/
abbrev Byte := BitVec 8

/-- One 16-bit word: of the configuration image (section 13.4), or a frame's check (R149). -/
abbrev Word16 := BitVec 16

end Sys2Proof
end

