-- ==== Sys2Proof/Syntax.lean ====
section
/-! DEFINITION. The commands of the block: one constructor of `Instr` for each row of `spec/opcode_table.json`.

The LB12 is no processor. Its rows are the events that reach it: its pins and its plant (resets, meter pulses,
feedback edges, probe conversions, the line), the ends of its own timers, and the hand-on of the frames that wait in
its receive queue. A row whose event acts on a frame of the receive queue has no operand: R151 hands on the head
frame, so the head frame is its operand. Loops, channels, probes, stations and rooms are named by number; loop,
channel, probe and station numbers count from 0 here (loop 1 of the manual is `0 : Fin 12`). -/

namespace Sys2Proof

/-- The two screed dry-out programs (chapter 9). -/
inductive Prog where
  | one
  | two
deriving DecidableEq, Repr

/-- The end of a frame on the line, as the receiver sees it (R149, section 13.1). A frame that ends carries its whole
identity, since one broken off in arbitration is completed by no node. Then come the length, absent when the line went
idle within it, the content bytes that arrived whole, and the check, absent when the line went idle before it was
whole. `rest` holds the bits that arrived of the field within which the line went idle, in the order sent. -/
structure RxFrame where
  kind : BitVec 4
  sender : BitVec 6
  length : Option (BitVec 6)
  content : List Byte
  check : Option Word16
  rest : List Bool
deriving DecidableEq, Repr

/-- The commands, in the order of `spec/opcode_table.json`. -/
inductive Instr where
  /-- POWER_ON_RESET (R167): the strap pins as a number, and what the serial configuration memory answers with
  (`none`: it does not answer). -/
  | powerOnReset (straps : BitVec 3) (memory : Option (List Word16))
  /-- WARM_RESET (R171): the warm-reset pin; straps and memory are read afresh. -/
  | warmReset (straps : BitVec 3) (memory : Option (List Word16))
  /-- STATION_START (R170). -/
  | stationStart
  /-- PASS_TIMER_EXPIRY (R46). -/
  | passTimerExpiry
  /-- PROBE_HOLD_EXPIRY (R41), of one probe channel. -/
  | probeHoldExpiry (probe : Fin 14)
  /-- PASS_CLOSE (R71). -/
  | passClose
  /-- EXTRA_REPORT_DUE (R154). -/
  | extraReportDue
  /-- REGULAR_REPORT (R153). -/
  | regularReport
  /-- SCAN_ROUND (R34). -/
  | scanRound
  /-- SAMPLE_EVENT (R36): the channel converted and the 12-bit code it yields. -/
  | sampleEvent (probe : Fin 14) (code : BitVec 12)
  /-- FRAME_RECEIVED (R149). -/
  | frameReceived (frame : RxFrame)
  /-- ROOM_REPORT (R25): the head frame of the receive queue. -/
  | roomReport
  /-- MODE_NOTICE (R14): the oldest notice the room table has sent. -/
  | modeNotice
  /-- BOOST_TIMER_EXPIRY (R16). -/
  | boostTimerExpiry (loop : Fin 12)
  /-- ROOM_ENTERS_HELD (R26), by room number. -/
  | roomEntersHeld (room : Nat)
  /-- ROOM_STALE (R27), by room number. -/
  | roomStale (room : Nat)
  /-- STATION_REPORT (R77): the head frame. -/
  | stationReport
  /-- PEER_STALE (R79). -/
  | peerStale (station : Fin 8)
  /-- PEER_REMOVAL (R79). -/
  | peerRemoval (station : Fin 8)
  /-- SOURCE_REPORT (R81): the head frame. -/
  | sourceReport
  /-- SOURCE_STALE (R82). -/
  | sourceStale
  /-- UNUSED_FRAME (R151): the head frame. -/
  | unusedFrame
  /-- READ_LOOP (R157): the head frame. -/
  | readLoop
  /-- READ_FAULTS (R166): the head frame. -/
  | readFaults
  /-- READ_PEERS (R91): the head frame. -/
  | readPeers
  /-- READ_TRIM (R108): the head frame. -/
  | readTrim
  /-- START_DRYOUT (R140): the head frame. -/
  | startDryout
  /-- STOP_DRYOUT (R143): the head frame. -/
  | stopDryout
  /-- RECALIBRATE (R157): the head frame. -/
  | recalibrate
  /-- CLEAR_FAULTS (R162): the head frame. -/
  | clearFaults
  /-- ALERT_MASK (R164): the head frame. -/
  | alertMask
  /-- ALERT_ENABLE (R164): the head frame. -/
  | alertEnable
  /-- UNKNOWN_REQUEST (R157): the head frame. -/
  | unknownRequest
  /-- DRYOUT_HOUR (R141). -/
  | dryoutHour (prog : Prog)
  /-- DRYOUT_STEP_END (R142). -/
  | dryoutStepEnd (prog : Prog)
  /-- METER_PULSE (R97). -/
  | meterPulse
  /-- FEEDBACK_EDGE (R110): the channel and its new phase pair, phase A first; `true` is high. -/
  | feedbackEdge (channel : Fin 12) (phaseA : Bool) (phaseB : Bool)
  /-- STALL (R117). -/
  | stall (channel : Fin 12)
  /-- MOVE_TIMEOUT (R119). -/
  | moveTimeout (channel : Fin 12)
  /-- PHASE_LIMIT_EXPIRY (R125). -/
  | phaseLimitExpiry (channel : Fin 12)
  /-- SETTLING_END (R114). -/
  | settlingEnd (channel : Fin 12)
  /-- CALIBRATION_SETTLING_END (R124). -/
  | calibrationSettlingEnd (channel : Fin 12)
  /-- REVERSING_END (R116). -/
  | reversingEnd (channel : Fin 12)
  /-- CAL_OPEN_DEAD_INTERVAL_END (R124). -/
  | calOpenDeadIntervalEnd (channel : Fin 12)
  /-- TRANSMIT_START (R147). -/
  | transmitStart
  /-- ARBITRATION_LOST (R147). -/
  | arbitrationLost
  /-- ARBITRATION_WON (R148). -/
  | arbitrationWon
  /-- FRAME_SENT (R148). -/
  | frameSent
  /-- FRAME_BROKEN_OFF (R148). -/
  | frameBrokenOff
deriving DecidableEq, Repr

end Sys2Proof
end

