-- ==== Sys2Proof/Decode.lean ====
section
/-! DEFINITION. Words that spell commands. No row of `spec/opcode_table.json` gives bits: the commands are events at
pins, timers and the receive queue, and none is written as a word. So no word spells a command (DEDUCED,
assumption 11). -/

namespace Sys2Proof

/-- The command that a word of the table spells: none. -/
def decodeTableWord (_nbits _w : Nat) : Option Instr := none

end Sys2Proof
end

