-- ==== Sys2Proof/Config.lean ====
section
/-! DEFINITION. The free values: what the manual leaves open, as constants without a body. No proof can see what
they are, so whatever is proved holds for every choice. Each is applied to a counter that the machine advances at every
use, `State.draws` or `State.cuts`, or to what tells two uses apart, so that they need not agree. -/

namespace Sys2Proof.Config

/-- The order in which events that reach a block together are taken, where the manual gives none (R134: requests of
one swap "join the queue in the order in which the arbiter takes them"; R28, R42, R154 and others: "either may be
taken first"). `freeRank k i` is the rank of the `i`-th of the events of draw `k`; lower ranks are taken first.
DESIGN CHOICE (assumption 4, safe). -/
opaque freeRank : Nat → Nat → Nat

/-- A byte of a SERVICE reply that the manual gives no value for: the part number, or the last part number, of a
BAD_ARGUMENT reply whose request named no part or no loop (section 13.3). DESIGN CHOICE (assumption 5,
safe). -/
opaque freeByte : Nat → Byte

/-- How many steps the next piece of the station's own work makes before other events may be taken: R32, R49 and R75 let
events fall between the steps of a pass, R103 and R108 between those of a trim update, R18 between the changes of a mode
notice, R139 and R142 between the steps of an operation of the sequencer, R163 between the placements of ALERTs, R167 between
the faults of a load, and no rule says where. `freeCut k` is the size of the piece that the counter `State.cuts` numbers `k`;
0 lets events fall in before the next step. DESIGN CHOICE (assumption 12, safe). -/
opaque freeCut : Nat → Nat

/-- The demand that a program in IDLE supplies to a pass that reaches a loop on which START_DRYOUT has already pushed its
entry (R140, R51): the program stands at no step, and R51 gives no demand. `freeDemand t n` is that of loop `n` at time `t`,
taken as at most 1000 ‰. DESIGN CHOICE (assumption 46, safe). -/
opaque freeDemand : Nat → Nat → Nat

end Sys2Proof.Config
end

