-- ==== Sys2Proof/Machine/State.lean ====
section
/-! DEFINITION. The state of the station, block by block as section 4 of `00_scope.md` lists the blocks, and its value
right after power-on reset. Plain data throughout. Quantities are `Nat` or `Int` in the manual's own units
(0.01 K, l/h, ‰, counts); ranges are those of the manual's tables. Times are held in milliseconds, with ages in
whole seconds and the milliseconds of the second that has begun (DESIGN CHOICE, assumption 1). -/

namespace Sys2Proof.Machine

open Sys2Proof

/-- A table with exactly `n` entries: the twelve loops, the fourteen probe channels, the sixteen fault kinds. -/
structure Tab (n : Nat) (α : Type) where
  items : List α
  size : items.length = n
deriving DecidableEq, Repr

/-- The entry at `i`. -/
def Tab.get {n : Nat} {α : Type} (t : Tab n α) (i : Fin n) : α :=
  t.items[i.val]'(by rw [t.size]; exact i.isLt)

/-- The table with the entry at `i` replaced. -/
def Tab.set {n : Nat} {α : Type} (t : Tab n α) (i : Fin n) (x : α) : Tab n α :=
  ⟨t.items.set i.val x, by rw [List.length_set]; exact t.size⟩

/-- A table of equal entries. -/
def Tab.fill (n : Nat) {α : Type} (x : α) : Tab n α := ⟨List.replicate n x, List.length_replicate⟩

/-- Every entry changed by `f`. -/
def Tab.map {n : Nat} {α β : Type} (f : α → β) (t : Tab n α) : Tab n β :=
  ⟨t.items.map f, by rw [List.length_map]; exact t.size⟩

/-- The table whose entry at `i` is `f i`. -/
def Tab.tabulate {n : Nat} {α : Type} (f : Fin n → α) : Tab n α := ⟨List.ofFn f, List.length_ofFn⟩

/-- An age: whole seconds, and milliseconds of the second that has begun. The step past a limit is an event of its
own (R26, R79, R82), so an age waits at its limit with `ms = 1000` until that event is taken. -/
structure Age where
  secs : Nat
  ms : Nat
deriving DecidableEq, Repr

/-- A frame that has been checked, or that waits to be sent: identity and content (section 13.1). -/
structure Frame where
  kind : BitVec 4
  sender : BitVec 6
  content : List Byte
deriving DecidableEq, Repr

/-! ## Configuration loader (chapter 12) -/

/-- R167, R170. -/
inductive LoaderState where
  | loading
  | normal
  | fallback
deriving DecidableEq, Repr

/-- R167: the outcome of the whole-image checks. -/
inductive ImageStatus where
  | ok
  | missing
  | badSum
  | badFormat
deriving DecidableEq, Repr

/-- The configuration loader. `image` holds the words of an image that passed the whole-image checks while they are
being judged (in LOADING); `warm` says whether the load in progress, or the last one, began with a warm reset, which
decides what R165 keeps (assumption 28). `reported` counts the CONFIG_FAULTs that the load in progress has reported
(R167). -/
structure Loader where
  state : LoaderState
  station : Fin 8
  imageStatus : ImageStatus
  imageLength : Option Nat
  image : List Word16
  warm : Bool
  reported : Nat
deriving DecidableEq, Repr

/-! ## Records taken from the image (chapters 1, 6, 9) -/

/-- R4. -/
inductive ProfileKind where
  | normal
  | setback
  | frost
  | off
  | boost
  | dryout
deriving DecidableEq, Repr

/-- Section 1.2. -/
inductive SetpointMode where
  | offset
  | absolute
deriving DecidableEq, Repr

/-- R69. -/
inductive ParkMode where
  | hold
  | close
  | park
deriving DecidableEq, Repr

/-- A profile record (section 1.2). -/
structure Profile where
  kind : ProfileKind
  mode : SetpointMode
  setpoint : Int
  fixedDemand : Nat
  dropOverride : Option Nat
  floorMax : Nat
  seed : Nat
  park : ParkMode
  overrides : Bool
  program : Option Prog
deriving DecidableEq, Repr

/-- A loop record (section 1.1), of a present loop. Profiles are named by number 0 to 15. -/
structure LoopInfo where
  room : Nat
  valveType : Fin 4
  qDes : Nat
  dropDes : Nat
  qFull : Nat
  qMax : Nat
  commissioning : Nat
  bypass : Bool
  comfort : Fin 16
  eco : Fin 16
  away : Fin 16
  off : Fin 16
  boostEntry : Fin 16
  expectedStroke : Nat
deriving DecidableEq, Repr

/-- One step of a dry-out program (R138): demand in ‰ and duration in hours. -/
structure DryStep where
  demand : Nat
  hours : Nat
deriving DecidableEq, Repr

/-- The definition of a usable dry-out program (R138). -/
structure ProgramDef where
  profile : Fin 16
  loops : List (Fin 12)
  steps : List DryStep
deriving DecidableEq, Repr

/-- A characteristic table that the image holds (R93): F_0 to F_10, the minimum opening, and the validity. A field
that the image's record lacks is held as 65535. -/
structure ValveTable where
  valid : Bool
  fractions : List Nat
  minOpening : Nat
deriving DecidableEq, Repr

/-- The station-wide values (section 1 of the image), profiles 1 to 15 (`profiles.get k` is profile `k + 1`) and
the two program definitions, absent when the program is not usable. -/
structure StationConfig where
  kp : Nat
  ki : Nat
  countTime : Nat
  fallbackSrc : Nat
  fallbackMin : Nat
  profiles : Tab 15 (Option Profile)
  programOne : Option ProgramDef
  programTwo : Option ProgramDef
deriving DecidableEq, Repr

/-! ## Loop table (chapter 1) -/

/-- Who placed a chain entry (section 1.4). -/
inductive Owner where
  | base
  | boost
  | dryout (p : Prog)
deriving DecidableEq, Repr

/-- A chain entry. Chains are lists, bottom entry first, so an entry's backlink is the entry before it in the list
(none for the first). -/
structure Entry where
  profile : Fin 16
  owner : Owner
deriving DecidableEq, Repr

/-- A present loop: its record and the run-time state that the loop table holds (section 1.3). The boost timer is
`none` when stopped (it then holds 0 min), else the milliseconds left of its 60 min. -/
structure Loop where
  info : LoopInfo
  chain : List Entry
  stale : Bool
  boost : Option Nat
deriving DecidableEq, Repr

/-! ## Room table (chapter 2) -/

/-- Room modes. -/
inductive RoomMode where
  | comfort
  | eco
  | away
  | off
  | boost
deriving DecidableEq, Repr

/-- R26. -/
inductive RoomState where
  | never
  | fresh
  | held
  | orphan
deriving DecidableEq, Repr

/-- A room record (section 2.1). -/
structure Room where
  room : Nat
  state : RoomState
  age : Age
  temperature : Option Int
  setpoint : Option Int
  mode : RoomMode
  floor : Option Int
deriving DecidableEq, Repr

/-- A mode notice on its way to the loop table (R29). Its origin is always FRAME. -/
structure Notice where
  room : Nat
  before : RoomMode
  after : RoomMode
  frame : Frame
deriving DecidableEq, Repr

/-- A change that a mode notice asks for on one loop (R14). -/
inductive NoticeChange where
  | push
  | withdraw
  | switch
deriving DecidableEq, Repr

/-- A mode notice that the loop table is carrying out (R14, R18): the changes that it has still to make, each with its loop,
in the order in which they are made. -/
structure NoticeVisit where
  notice : Notice
  todo : List (Fin 12 × NoticeChange)
deriving DecidableEq, Repr

/-- The room table: its records in the order they were built (R20), its two counters, and the notices that the loop
table has not yet taken, oldest first (R29; DEDUCED, assumption 12). -/
structure RoomTable where
  records : List Room
  ignored : Nat
  refused : Nat
  notices : List Notice
deriving DecidableEq, Repr

/-! ## Probe scanner (chapter 3) -/

/-- Section 3.4. -/
inductive ProbeState where
  | unused
  | starting
  | good
  | held
  | failed
deriving DecidableEq, Repr

/-- R36. -/
inductive ProbeCause where
  | open
  | shorted
deriving DecidableEq, Repr

/-- One probe channel. -/
structure Probe where
  state : ProbeState
  lastCode : Option Nat
  lastCause : Option ProbeCause
  samples : List Int
  filtered : Option Int
  outRun : Nat
  held : Option Int
  holdCount : Nat
deriving DecidableEq, Repr

/-- The scanner: fourteen channels, the implausible flag of channel 14, the time to the next scan round (`none`
before the scanner's start), and the channels that the present round has still to convert, in order. -/
structure Scanner where
  probes : Tab 14 Probe
  implausible : Bool
  timer : Option Nat
  round : List (Fin 14)
deriving DecidableEq, Repr

/-! ## Source and peer table (chapter 5) -/

/-- The source's states. -/
inductive SourceState where
  | heating
  | defrost
  | standby
  | fault
deriving DecidableEq, Repr

/-- R82. -/
inductive Validity where
  | never
  | fresh
  | stale
deriving DecidableEq, Repr

/-- The source record. -/
structure SourceRecord where
  validity : Validity
  age : Age
  state : Option SourceState
  fSrc : Option Nat
  fMin : Option Nat
  setpoint : Option Int
deriving DecidableEq, Repr

/-- The core of a STATION report: what a peer record takes from it (R77, R90). -/
structure CoreValues where
  r : Nat
  b : Nat
  g : Nat
  m : Nat
  calling : Nat
  outOfService : Nat
  capable : Bool
  duty : Bool
  fallback : Bool
  source : SourceState
deriving DecidableEq, Repr

/-- A peer record. -/
structure Peer where
  station : Fin 8
  core : CoreValues
  age : Age
  fresh : Bool
deriving DecidableEq, Repr

/-- The peer table: peer records in station-number order, the source record and two counters. -/
structure PeerTable where
  peers : List Peer
  source : SourceRecord
  foreignReports : Nat
  refusedReports : Nat
deriving DecidableEq, Repr

/-! ## Balancing engine (chapters 4 and 5) -/

/-- What the engine holds for each present loop. -/
structure EngineLoop where
  integrator : Nat
  dLast : Option Nat
  reported : Nat
  scaled : Bool
  openSettled : Nat
  inService : Bool
  qReq : Nat
  qAlloc : Nat
  dropEff : Option Nat
  dropValid : Bool
  lastTarget : Option Nat
deriving DecidableEq, Repr

/-- R85. -/
inductive SharingCase where
  | scaling
  | fullGrant
  | deficit
deriving DecidableEq, Repr

/-- The station-wide results of one pass. -/
structure PassResult where
  r : Nat
  b : Nat
  g : Nat
  rTot : Nat
  case : Option SharingCase
  deficit : Option Nat
  calling : Nat
  outOfService : Nat
  capable : Bool
  duty : Bool
deriving DecidableEq, Repr

/-- What the opening reading supplies of a FRESH peer (R84). -/
structure PeerView where
  station : Nat
  r : Nat
  capable : Bool
deriving DecidableEq, Repr

/-- What the pass reads at its opening (R47, R49, R84): the probe values, the source values, the FRESH peers and the
trim factor. -/
structure Opening where
  probes : Tab 14 (ProbeState × Option Int)
  source : SourceState
  fSrc : Nat
  fMin : Nat
  peers : List PeerView
  trim : Nat
deriving DecidableEq, Repr

/-- What stage 1 reads of a loop in service that later stages use again (R48, R49): its active profile and its
channel's stroke. -/
structure LoopReading where
  loop : Fin 12
  profile : Profile
  stroke : Nat
deriving DecidableEq, Repr

/-- A bypass addition (R88). -/
structure Addition where
  loop : Fin 12
  flow : Nat
deriving DecidableEq, Repr

/-- What stage 3 leaves for stage 4 and the close (R62, R63): the request sum, the bypass additions, and the station-wide
results. -/
structure PassGrant where
  sum : Nat
  additions : List Addition
  work : PassResult
deriving DecidableEq, Repr

/-- What a pass in progress makes next (R47). `read`: stages 1 and 2 of the first of the loops still to be read, or, when
none is left, stage 3 on what was read of the loops in service. `allocate`: stage 4 of the first of the loops in service that
have none yet, or, when none is left, the end of the stages. `target`: stages 5 and 6 of the loop that has had stage 4. -/
inductive PassStage where
  | read (todo : List (Fin 12)) (readings : List LoopReading)
  | allocate (grant : PassGrant) (todo : List LoopReading)
  | target (grant : PassGrant) (loop : LoopReading) (todo : List LoopReading)
deriving DecidableEq, Repr

/-- A pass between its opening and the end of stage 6 (R32, R49, R75): what the opening read, and what comes next. -/
structure PassVisit where
  opening : Opening
  stage : PassStage
deriving DecidableEq, Repr

/-- The balancing engine. `result` and `demands` are what the last close handed on (R73), with the source state read
there; `visit` is present while a pass makes its stages; `work` holds the station-wide results of a pass between its
stages and its close (R49: the other blocks see the results at the close and not before). Both are `none` when no pass
is in progress. -/
structure Engine where
  timer : Option Nat
  loops : Tab 12 EngineLoop
  buffer : Tab 12 (Option Nat)
  visit : Option PassVisit
  work : Option PassResult
  result : PassResult
  demands : Tab 12 Nat
  sourceSeen : SourceState
deriving DecidableEq, Repr

/-! ## Valve tables and flow meter counter (chapter 6) -/

/-- R106. -/
inductive Judgment where
  | updated
  | notQuiet
  | meterNotGood
  | lowFlow
  | noSample
deriving DecidableEq, Repr

/-- R98. -/
inductive SampleClass where
  | none
  | inWindow
  | discarded
deriving DecidableEq, Repr

/-- Section 6.3. -/
inductive MeterState where
  | good
  | suspect
  | unconfigured
deriving DecidableEq, Repr

/-- What a trim update in progress makes next (R103): step 1, the predicted flow, which is kept as the last P; step 2, the
measurement; step 3, the judgment, with the meter state and the in-window flow that the measurement has returned. -/
inductive TrimStage where
  | predict
  | measure
  | judge (state : MeterState) (flow : Option Nat)
deriving DecidableEq, Repr

/-- The valve tables: `tables.get t` is type `t + 1`, absent when the image does not hold it. `update`
is the trim update in progress, or none (R103). -/
structure ValveTables where
  tables : Tab 4 (Option ValveTable)
  trim : Nat
  activity : Bool
  lastP : Nat
  lastJudgment : Judgment
  lastTarget : Option Nat
  update : Option TrimStage
deriving DecidableEq, Repr

/-- The flow meter counter. `counting` is false from a reset to the station's start (R97). -/
structure Meter where
  counting : Bool
  pulses : Nat
  old : Nat
  new : Nat
  sub : Nat
  flow : Nat
  sample : SampleClass
  state : MeterState
  zeroRun : Nat
  recoveryRun : Nat
  total : Nat
  remainder : Nat
  pitch : Option Nat
  maximum : Option Nat
deriving DecidableEq, Repr

/-! ## Actuator channels and drive arbiter (chapters 7 and 8) -/

/-- Table 7.2. -/
inductive ChannelState where
  | uncalibrated
  | idle
  | queued
  | drivingOpen
  | drivingClose
  | reversing
  | settling
  | calClose
  | calOpen
  | disabled
deriving DecidableEq, Repr

/-- What a slot is wanted for. -/
inductive OpKind where
  | move
  | calibrate
deriving DecidableEq, Repr

/-- The direction of a drive. -/
inductive Direction where
  | open
  | close
deriving DecidableEq, Repr

/-- Table 7.1. `stall` is the stall timer in ms (it runs while `direction` is present); `limit` is the time left
before the move or the calibration phase expires, in ms. -/
structure MoveRecord where
  kind : OpKind
  direction : Option Direction
  stall : Nat
  limit : Option Nat
  against : Nat
  illegal : Nat
deriving DecidableEq, Repr

/-- An actuator channel. `wait` is the time left, in ms, of the 200 ms dead interval (REVERSING, CAL_OPEN) or of the
300 ms settling; absent in the other states. -/
structure Channel where
  state : ChannelState
  counter : Int
  stroke : Option Nat
  calibrated : Bool
  live : Option Nat
  rest : Int
  move : Option MoveRecord
  blocked : Nat
  seatError : Option Int
  illegalTotal : Nat
  remembered : Bool
  wait : Option Nat
deriving DecidableEq, Repr

/-- The feedback pins of one channel as last seen; `true` is high. -/
structure PhasePair where
  a : Bool
  b : Bool
deriving DecidableEq, Repr

/-- An entry of the drive queue, or the holder of a drive slot. -/
structure DriveEntry where
  channel : Fin 12
  kind : OpKind
deriving DecidableEq, Repr

/-- The drive arbiter. `defrost` is the source view. -/
structure Arbiter where
  queue : List DriveEntry
  slots : Tab 3 (Option DriveEntry)
  defrost : Bool
deriving DecidableEq, Repr

/-! ## Dry-out sequencer (chapter 9) -/

/-- Section 9.2. -/
inductive DryState where
  | idle
  | running
  | paused
  | done
  | aborted
deriving DecidableEq, Repr

/-- A program instance. The part hour is an age that waits at 3599 s for DRYOUT_HOUR. -/
structure DryInstance where
  state : DryState
  step : Option Nat
  hours : Nat
  part : Age
  members : List (Fin 12)
deriving DecidableEq, Repr

/-- What an operation of the sequencer gives for its SERVICE reply (R140, R143). `tried` says whether a start that no push
was taken for had a loop to visit. -/
inductive DryResult where
  | started
  | refused (tried : Bool)
  | stopped
deriving DecidableEq, Repr

/-- What an operation of the sequencer makes next. `push`: the push on the first of the loops that a start has still to visit,
or, when none is left, its result (R140). `withdraw`: the withdrawal from the first of the loops that a program in DONE or
ABORTED has still to leave, or, when none is left, the emptying of its member set (R142, R143). `abort`: the report of
DRYOUT_ABORTED (R143). `reply`: the SERVICE reply. A request is held with its frame. -/
inductive DryStage where
  | push (request : Frame) (profile : Fin 16) (tried : Bool) (todo : List (Fin 12))
  | withdraw (request : Option Frame) (todo : List (Fin 12))
  | abort (request : Frame)
  | reply (request : Frame) (result : DryResult)
deriving DecidableEq, Repr

/-- An operation of the sequencer in progress (R140, R142, R143): its program, the instance as it was before the operation
began, which a warm reset falls back on (R139), and what comes next. -/
structure DryOperation where
  prog : Prog
  before : DryInstance
  stage : DryStage
deriving DecidableEq, Repr

/-! ## Bus interface (chapter 10) -/

/-- The transmit slots, in the order of their identities (R147). -/
inductive TxSlot where
  | report
  | alert
  | reply
deriving DecidableEq, Repr

/-- The transmitter. ARBITRATING names the slot whose frame is offered; SENDING holds the frame on the line. -/
inductive TxState where
  | idle
  | waiting
  | arbitrating (slot : TxSlot)
  | sending (slot : TxSlot) (frame : Frame)
deriving DecidableEq, Repr

/-- The optional section the next report carries. -/
inductive Rotation where
  | faults
  | dryout
  | trim
deriving DecidableEq, Repr

/-- The bus interface. `placing` holds the ALERT frames that the recorder has built and that are still to be placed in the
alert transmit slot, oldest first: each placement is an event of its own (R163). `lastReportAt` and `extraDue` are moments
of the clock `State.now`. -/
structure Bus where
  tx : TxState
  rx : List Frame
  report : Option Frame
  alert : Option Frame
  placing : List Frame
  reply : Option Frame
  frameCheck : Nat
  overflow : Nat
  unused : Nat
  dropped : Nat
  reportTimer : Option Nat
  lastR : Nat
  lastReportAt : Option Nat
  extraDue : Option Nat
  rotation : Rotation
deriving DecidableEq, Repr

/-! ## Fault recorder (chapter 11) -/

/-- Fault kinds (Table 11.1). -/
inductive FaultKind where
  | probeFault
  | meterFault
  | stallBlocked
  | moveTimeout
  | feedbackError
  | calibrationFailed
  | profileRefused
  | roomStale
  | sourceStale
  | addressClash
  | frameCheck
  | rxOverflow
  | bypassShort
  | configFault
  | sourceMalformed
  | dryoutAborted
deriving DecidableEq, Repr

/-- Severities. -/
inductive Severity where
  | advisory
  | degraded
  | serious
deriving DecidableEq, Repr

/-- Origins. -/
inductive Origin where
  | internal
  | frame
deriving DecidableEq, Repr

/-- The frame part of an error record: identity and up to 8 content bytes. -/
structure Captured where
  kind : BitVec 4
  sender : BitVec 6
  bytes : List Byte
deriving DecidableEq, Repr

/-- The error record (Table 11.2). -/
structure ErrorRecord where
  kind : FaultKind
  severity : Severity
  origin : Origin
  item : Nat
  first : Int
  second : Int
  frame : Option Captured
deriving DecidableEq, Repr

/-- What an alert slot keeps of the last fault that found it masked. -/
structure LatestPending where
  kind : FaultKind
  origin : Origin
  item : Nat
deriving DecidableEq, Repr

/-- An alert slot (Table 11.3). The kind set is a word, bit `k - 1` for kind `k` (section 13.4). -/
structure AlertSlot where
  kinds : Word16
  tag : Nat
  masked : Bool
  pending : Bool
  latest : Option LatestPending
deriving DecidableEq, Repr

/-- What the recorder holds for one kind. -/
structure KindRecord where
  status : Bool
  masked : Bool
  severity : Severity
deriving DecidableEq, Repr

/-- The fault recorder; `kinds.get k` is kind `k + 1`, `slots.get k` is alert slot `k + 1`. -/
structure Recorder where
  kinds : Tab 16 KindRecord
  pointer : Option FaultKind
  record : Option ErrorRecord
  overflow : Bool
  slots : Tab 4 AlertSlot
  enable : Bool
deriving DecidableEq, Repr

/-! ## The station -/

/-- The station. `visiting` is the mode notice that the loop table is carrying out (R14), `operation` the operation that the
dry-out sequencer is carrying out (chapter 9). `phases` are feedback pins, not memory. `now` is the station's clock in ms and `draws`
counts the free values used; both are the model's own (DESIGN CHOICE, assumptions 1 and 4). So is `cuts`, which counts the
pieces of the station's own work whose size has been drawn (DESIGN CHOICE, assumption 12). `pending` is the queue of
commands. -/
structure State where
  loader : Loader
  config : StationConfig
  loops : Tab 12 (Option Loop)
  visiting : Option NoticeVisit
  rooms : RoomTable
  scanner : Scanner
  engine : Engine
  peers : PeerTable
  valves : ValveTables
  meter : Meter
  channels : Tab 12 Channel
  phases : Tab 12 PhasePair
  arbiter : Arbiter
  programOne : DryInstance
  programTwo : DryInstance
  operation : Option DryOperation
  bus : Bus
  recorder : Recorder
  now : Nat
  draws : Nat
  cuts : Nat
  pending : List Instr
deriving DecidableEq, Repr

/-- What stops the machine. There is no constructor: the manual gives every event of the table an effect, so no step
of this model faults. -/
inductive Fault where
deriving DecidableEq, Repr

/-- Refusals. -/
inductive Refusal where
  /-- Raised by `exec` for a command without a meaning yet; safe. No arm raises it: every command is modelled. -/
  | notModelled (mnemonic : String)
deriving DecidableEq, Repr

/-! ## Values after power-on reset -/

/-- Default severities (Table 11.1). -/
def defaultSeverity : FaultKind → Severity
  | .probeFault | .stallBlocked | .moveTimeout | .calibrationFailed => .degraded
  | .addressClash | .configFault => .serious
  | .meterFault | .feedbackError | .profileRefused | .roomStale | .sourceStale | .frameCheck | .rxOverflow
  | .bypassShort | .sourceMalformed | .dryoutAborted => .advisory

/-- Default masks (Table 11.1): FRAME_CHECK alone is masked. -/
def defaultMasked : FaultKind → Bool
  | .frameCheck => true
  | .probeFault | .stallBlocked | .moveTimeout | .calibrationFailed | .addressClash | .configFault | .meterFault
  | .feedbackError | .profileRefused | .roomStale | .sourceStale | .rxOverflow | .bypassShort | .sourceMalformed
  | .dryoutAborted => false

/-- The kinds in code order (Table 11.1). -/
def FaultKind.all : List FaultKind :=
  [.probeFault, .meterFault, .stallBlocked, .moveTimeout, .feedbackError, .calibrationFailed, .profileRefused,
   .roomStale, .sourceStale, .addressClash, .frameCheck, .rxOverflow, .bypassShort, .configFault, .sourceMalformed,
   .dryoutAborted]

/-- R165. -/
def Recorder.reset : Recorder where
  kinds := ⟨FaultKind.all.map fun k => ⟨false, defaultMasked k, defaultSeverity k⟩, rfl⟩
  pointer := none
  record := none
  overflow := false
  slots := Tab.fill 4 ⟨0, 0, false, false, none⟩
  enable := true

/-- R152. -/
def Bus.reset : Bus where
  tx := .idle
  rx := []
  report := none
  alert := none
  placing := []
  reply := none
  frameCheck := 0
  overflow := 0
  unused := 0
  dropped := 0
  reportTimer := none
  lastR := 0
  lastReportAt := none
  extraDue := none
  rotation := .faults

/-- R139. -/
def DryInstance.reset : DryInstance := ⟨.idle, none, 0, ⟨0, 0⟩, []⟩

/-- R129. -/
def Arbiter.reset : Arbiter := ⟨[], Tab.fill 3 none, false⟩

/-- R127. -/
def Channel.reset : Channel where
  state := .uncalibrated
  counter := 0
  stroke := none
  calibrated := false
  live := none
  rest := 0
  move := none
  blocked := 0
  seatError := none
  illegalTotal := 0
  remembered := false
  wait := none

/-- R97. The meter state between a reset and the start, which the manual does not give, is UNCONFIGURED
(DESIGN CHOICE, assumption 2, unsafe). -/
def Meter.reset : Meter where
  counting := false
  pulses := 0
  old := 0
  new := 0
  sub := 0
  flow := 0
  sample := .none
  state := .unconfigured
  zeroRun := 0
  recoveryRun := 0
  total := 0
  remainder := 0
  pitch := none
  maximum := none

/-- R93, R107. -/
def ValveTables.reset : ValveTables where
  tables := Tab.fill 4 none
  trim := 1000
  activity := true
  lastP := 0
  lastJudgment := .notQuiet
  lastTarget := none
  update := none

/-- R76. -/
def PeerTable.reset : PeerTable := ⟨[], ⟨.never, ⟨0, 0⟩, none, none, none, none⟩, 0, 0⟩

/-- R50. -/
def EngineLoop.reset : EngineLoop where
  integrator := 0
  dLast := none
  reported := 0
  scaled := false
  openSettled := 0
  inService := false
  qReq := 0
  qAlloc := 0
  dropEff := none
  dropValid := false
  lastTarget := none

/-- R50, R89. -/
def PassResult.reset : PassResult := ⟨0, 0, 0, 0, none, none, 0, 0, false, false⟩

/-- R50. The source state seen before the first close, which the manual does not give, is HEATING
(DESIGN CHOICE, assumption 2, unsafe). -/
def Engine.reset : Engine where
  timer := none
  loops := Tab.fill 12 EngineLoop.reset
  buffer := Tab.fill 12 none
  visit := none
  work := none
  result := PassResult.reset
  demands := Tab.fill 12 0
  sourceSeen := .heating

/-- R35, before the scanner's start. -/
def Probe.reset : Probe := ⟨.unused, none, none, [], none, 0, none, 0⟩

/-- R35. -/
def Scanner.reset : Scanner := ⟨Tab.fill 14 Probe.reset, false, none, []⟩

/-- R21. -/
def RoomTable.reset : RoomTable := ⟨[], 0, 0, []⟩

/-- The values R168 substitutes; in force until a load ends (DESIGN CHOICE, assumption 2, unsafe). -/
def StationConfig.reset : StationConfig where
  kp := 250
  ki := 5
  countTime := 100
  fallbackSrc := 0
  fallbackMin := 0
  profiles := Tab.fill 15 none
  programOne := none
  programTwo := none

/-- R167: LOADING. The straps read 0 and the memory does not answer, until a reset command says what they are
(DESIGN CHOICE, assumption 3, unsafe). -/
def Loader.reset : Loader := ⟨.loading, 0, .missing, none, [], false, 0⟩

/-- The station right after power-on reset, with its load begun and nothing in its command queue. The feedback pins are
seen low-low, and the model's own counters begin at 0 (DESIGN CHOICE, assumption 2, unsafe). -/
def State.reset : State where
  loader := Loader.reset
  config := StationConfig.reset
  loops := Tab.fill 12 none
  visiting := none
  rooms := RoomTable.reset
  scanner := Scanner.reset
  engine := Engine.reset
  peers := PeerTable.reset
  valves := ValveTables.reset
  meter := Meter.reset
  channels := Tab.fill 12 Channel.reset
  phases := Tab.fill 12 ⟨false, false⟩
  arbiter := Arbiter.reset
  programOne := DryInstance.reset
  programTwo := DryInstance.reset
  operation := none
  bus := Bus.reset
  recorder := Recorder.reset
  now := 0
  draws := 0
  cuts := 0
  pending := []

end Sys2Proof.Machine
end

