-- ==== Sys2Proof/Machine/Operands.lean ====
section
/-! DEFINITION. Reading and writing the fields of frames and replies (chapter 13), the frame check (R149, R172), the
arithmetic of section 5.2 of `00_scope.md`, and the codes that named values have in frames, replies and the image. -/

namespace Sys2Proof.Machine

open Sys2Proof

/-! ## Arithmetic -/

/-- "x raised to a or lowered to b when outside a to b" (section 5.2). -/
def clampInt (x a b : Int) : Int := if x < a then a else if b < x then b else x

/-- A counter that stops at its highest value (R22, R77, R110, chapter 10). -/
def bump (cap n : Nat) : Nat := if n < cap then n + 1 else cap

/-! ## Bytes, most significant first (chapter 13) -/

/-- A value in one byte. -/
def u8 (n : Nat) : Byte := BitVec.ofNat 8 n

/-- An unsigned value in two bytes. -/
def u16 (n : Nat) : List Byte := [BitVec.ofNat 8 (n / 256), BitVec.ofNat 8 n]

/-- A signed value in two bytes, two's complement. -/
def s16 (z : Int) : List Byte := u16 (BitVec.ofInt 16 z).toNat

/-- An unsigned value in four bytes. -/
def u32 (n : Nat) : List Byte := u16 (n / 65536) ++ u16 n

/-- A signed value in four bytes. -/
def s32 (z : Int) : List Byte := u32 (BitVec.ofInt 32 z).toNat

/-- A flag: 1 for yes, set or on, 0 otherwise (section 13.3). -/
def flagByte (b : Bool) : Byte := if b then 1 else 0

/-- An unsigned value in two bytes, or 0xFFFF when absent (section 13.3). -/
def u16? : Option Nat → List Byte
  | some n => u16 n
  | none => u16 0xFFFF

/-- A signed value in two bytes, or 0x8000 when absent (section 13.3). -/
def s16? : Option Int → List Byte
  | some z => s16 z
  | none => u16 0x8000

/-- An unsigned value in four bytes, or all bits set when absent (section 13.3). -/
def u32? : Option Nat → List Byte
  | some n => u32 n
  | none => u32 0xFFFFFFFF

/-- A named value in one byte by its code, or all bits set when absent (section 13.3). -/
def code? {α : Type} (code : α → Nat) : Option α → Byte
  | some x => u8 (code x)
  | none => 0xFF

/-- The unsigned value of two bytes. -/
def readU16 (hi lo : Byte) : Nat := hi.toNat * 256 + lo.toNat

/-- The signed value of two bytes, two's complement. -/
def readS16 (hi lo : Byte) : Int := (BitVec.ofNat 16 (readU16 hi lo)).toInt

/-- A set of numbers as a word: bit `n - 1` for number `n`; members count from 0 here (section 13.3). -/
def setWord {n : Nat} (members : List (Fin n)) : Nat :=
  (List.finRange n).foldl (fun acc i => if members.contains i then acc + 2 ^ i.val else acc) 0

/-! ## The frame check (R149, R172) -/

/-- One bit of the CRC-16: polynomial x^16 + x^12 + x^5 + 1, most significant bit first. -/
def crcBit (crc : Word16) (bit : Bool) : Word16 :=
  if crc.getLsbD 15 == bit then crc <<< 1 else (crc <<< 1) ^^^ 0x1021

/-- The check of a bit sequence in the order sent: from all ones, no final inversion (R172). -/
def crcBits (bits : List Bool) : Word16 := bits.foldl crcBit 0xFFFF

/-- The bits of a field, most significant first, as they are sent (section 13.1). -/
def fieldBits {w : Nat} (x : BitVec w) : List Bool := ((List.range w).map x.getLsbD).reverse

/-- The bits of a byte sequence, in the order sent. -/
def byteBits (bytes : List Byte) : List Bool := bytes.flatMap fieldBits

/-- The check of a byte sequence. -/
def crc16 (bytes : List Byte) : Word16 := crcBits (byteBits bytes)

/-- The first two bytes of a frame: 4-bit kind, 6-bit sender, 6-bit length (section 13.1). -/
def envelope (kind : BitVec 4) (sender length : BitVec 6) : List Byte :=
  u16 (kind.toNat * 4096 + sender.toNat * 64 + length.toNat)

/-- The bits of identity, length and content that arrived, to the last one before the line went idle (R149). The
bits of an unfinished field count among them unless that field is the check. -/
def bitsReceived (f : RxFrame) : List Bool :=
  fieldBits f.kind ++ fieldBits f.sender ++
  match f.length with
  | none => f.rest
  | some n => fieldBits n ++ byteBits f.content ++ (if f.content.length < n.toNat then f.rest else [])

/-- The check formed over the identity, length and content that arrived (R149). -/
def checkFormed (f : RxFrame) : Word16 := crcBits (bitsReceived f)

/-- A received frame is good (R149): length 0 to 60, the whole content and check carried, and the check right. -/
def frameGood (f : RxFrame) : Bool :=
  match f.length with
  | some n => decide (n.toNat ≤ 60) && decide (f.content.length = n.toNat) && (f.check == some (checkFormed f))
  | none => false

/-- The frame as its owner and the error record see it: identity and the bytes received (R161). -/
def rxToFrame (f : RxFrame) : Frame := ⟨f.kind, f.sender, f.content⟩

/-- The bytes that a frame of the station has on the line: identity and length, content, check (section 13.1). -/
def frameWire (f : Frame) : List Byte :=
  let body := envelope f.kind f.sender (BitVec.ofNat 6 f.content.length) ++ f.content
  body ++ u16 (crc16 body).toNat

/-! ## Codes -/

/-- Fault kind codes (Table 11.1). -/
def kindCode : FaultKind → Nat
  | .probeFault => 1
  | .meterFault => 2
  | .stallBlocked => 3
  | .moveTimeout => 4
  | .feedbackError => 5
  | .calibrationFailed => 6
  | .profileRefused => 7
  | .roomStale => 8
  | .sourceStale => 9
  | .addressClash => 10
  | .frameCheck => 11
  | .rxOverflow => 12
  | .bypassShort => 13
  | .configFault => 14
  | .sourceMalformed => 15
  | .dryoutAborted => 16

/-- The place of a kind in the recorder's table. -/
def kindIndex : FaultKind → Fin 16
  | .probeFault => 0
  | .meterFault => 1
  | .stallBlocked => 2
  | .moveTimeout => 3
  | .feedbackError => 4
  | .calibrationFailed => 5
  | .profileRefused => 6
  | .roomStale => 7
  | .sourceStale => 8
  | .addressClash => 9
  | .frameCheck => 10
  | .rxOverflow => 11
  | .bypassShort => 12
  | .configFault => 13
  | .sourceMalformed => 14
  | .dryoutAborted => 15

/-- The kind of a code 1 to 16. -/
def kindOfCode (code : Nat) : Option FaultKind := if code = 0 then none else FaultKind.all[code - 1]?

/-- The pointer in one byte: 0 when empty, else the kind's code (section 13.2). -/
def pointerByte : Option FaultKind → Byte
  | none => 0
  | some k => u8 (kindCode k)

/-- Severity codes (section 13.2). -/
def severityCode : Severity → Nat
  | .advisory => 0
  | .degraded => 1
  | .serious => 2

/-- Origin codes (section 13.2). -/
def originCode : Origin → Nat
  | .internal => 0
  | .frame => 1

/-- Profile kinds, in the order of section 1.2 (the image's codes of section 13.4 are the same). -/
def profileKindCode : ProfileKind → Nat
  | .normal => 0
  | .setback => 1
  | .frost => 2
  | .off => 3
  | .boost => 4
  | .dryout => 5

/-- Owners, in the order of section 1.4: BASE, BOOST, DRYOUT 1, DRYOUT 2. -/
def ownerCode : Owner → Nat
  | .base => 0
  | .boost => 1
  | .dryout .one => 2
  | .dryout .two => 3

/-- Room states, in the order of section 2.1. -/
def roomStateCode : RoomState → Nat
  | .never => 0
  | .fresh => 1
  | .held => 2
  | .orphan => 3

/-- Room modes (R172). -/
def roomModeCode : RoomMode → Nat
  | .comfort => 0
  | .eco => 1
  | .away => 2
  | .off => 3
  | .boost => 4

/-- The room mode of a ROOM report's mode byte (R172). -/
def roomModeOf (code : Nat) : Option RoomMode :=
  match code with
  | 0 => some .comfort
  | 1 => some .eco
  | 2 => some .away
  | 3 => some .off
  | 4 => some .boost
  | _ => none

/-- Probe states, in the order of chapter 3's state table. -/
def probeStateCode : ProbeState → Nat
  | .unused => 0
  | .starting => 1
  | .good => 2
  | .held => 3
  | .failed => 4

/-- Causes, in the order of chapter 3's state table. -/
def probeCauseCode : ProbeCause → Nat
  | .open => 0
  | .shorted => 1

/-- Source states (R172). -/
def sourceStateCode : SourceState → Nat
  | .heating => 0
  | .defrost => 1
  | .standby => 2
  | .fault => 3

/-- The source state of a code (R172). -/
def sourceStateOf (code : Nat) : Option SourceState :=
  match code with
  | 0 => some .heating
  | 1 => some .defrost
  | 2 => some .standby
  | 3 => some .fault
  | _ => none

/-- Validities, in the order of chapter 5's table. -/
def validityCode : Validity → Nat
  | .never => 0
  | .fresh => 1
  | .stale => 2

/-- Cases, in the order of chapter 4's state table. -/
def caseCode : SharingCase → Nat
  | .scaling => 0
  | .fullGrant => 1
  | .deficit => 2

/-- Judgments, in the order of chapter 6's state table. -/
def judgmentCode : Judgment → Nat
  | .updated => 0
  | .notQuiet => 1
  | .meterNotGood => 2
  | .lowFlow => 3
  | .noSample => 4

/-- Sample classes, in the order of chapter 6's state table. -/
def sampleCode : SampleClass → Nat
  | .none => 0
  | .inWindow => 1
  | .discarded => 2

/-- Meter states, in the order of chapter 6's state table. -/
def meterStateCode : MeterState → Nat
  | .good => 0
  | .suspect => 1
  | .unconfigured => 2

/-- Channel states, in the order of Table 7.2. -/
def channelStateCode : ChannelState → Nat
  | .uncalibrated => 0
  | .idle => 1
  | .queued => 2
  | .drivingOpen => 3
  | .drivingClose => 4
  | .reversing => 5
  | .settling => 6
  | .calClose => 7
  | .calOpen => 8
  | .disabled => 9

/-- MOVE, CALIBRATE, in the order of Table 7.1. -/
def opKindCode : OpKind → Nat
  | .move => 0
  | .calibrate => 1

/-- OPEN, CLOSE, in the order of Table 7.1. -/
def directionCode : Direction → Nat
  | .open => 0
  | .close => 1

/-- Program instance states (section 13.2). -/
def dryStateCode : DryState → Nat
  | .idle => 0
  | .running => 1
  | .paused => 2
  | .done => 3
  | .aborted => 4

/-! ## Report contents (section 13.2) -/

/-- A ROOM report's fields. -/
structure RoomFields where
  room : Nat
  temperature : Int
  setpoint : Int
  mode : Nat
  floor : Option Int
deriving DecidableEq, Repr

/-- A ROOM report's content; the floor temperature is carried when the content holds 8 bytes or more (R172). -/
def readRoom : List Byte → Option RoomFields
  | room :: t1 :: t0 :: s1 :: s0 :: mode :: more =>
    some ⟨room.toNat, readS16 t1 t0, readS16 s1 s0, mode.toNat,
      match more with
      | f1 :: f0 :: _ => some (readS16 f1 f0)
      | _ => none⟩
  | _ => none

/-- A SOURCE report's fields. -/
structure SourceFields where
  state : Nat
  fSrc : Nat
  fMin : Nat
  setpoint : Int
deriving DecidableEq, Repr

/-- A SOURCE report's content. -/
def readSource : List Byte → Option SourceFields
  | st :: a1 :: a0 :: b1 :: b0 :: c1 :: c0 :: _ => some ⟨st.toNat, readU16 a1 a0, readU16 b1 b0, readS16 c1 c0⟩
  | _ => none

/-- A STATION report's core as it stands on the line. -/
structure CoreFields where
  r : Nat
  b : Nat
  g : Nat
  m : Nat
  calling : Nat
  outOfService : Nat
  capable : Bool
  duty : Bool
  stationState : Nat
  sourceState : Nat
deriving DecidableEq, Repr

/-- A STATION report's core (section 13.2). -/
def readCore : List Byte → Option CoreFields
  | r1 :: r0 :: b1 :: b0 :: g1 :: g0 :: m1 :: m0 :: counts :: flags :: _ =>
    some ⟨readU16 r1 r0, readU16 b1 b0, readU16 g1 g0, readU16 m1 m0, counts.toNat / 16, counts.toNat % 16,
      flags.getLsbD 7, flags.getLsbD 6, flags.toNat / 16 % 4, flags.toNat % 16⟩
  | _ => none

/-- Check 3 of R77: every core value in its range, the coded fields defined (R172). -/
def coreOk (c : CoreFields) : Option CoreValues :=
  match sourceStateOf c.sourceState with
  | none => none
  | some src =>
    if c.r ≤ 20000 ∧ c.b ≤ 60000 ∧ c.g ≤ 60000 ∧ c.m ≤ 60000 ∧ c.calling ≤ 12 ∧ c.outOfService ≤ 12 ∧
        c.stationState ≤ 1 then
      some ⟨c.r, c.b, c.g, c.m, c.calling, c.outOfService, c.capable, c.duty, decide (c.stationState = 1), src⟩
    else none

/-- The ten bytes of core values (section 13.2): in the STATION report and in a READ_PEERS peer record. -/
def coreBytes (c : CoreValues) : List Byte :=
  u16 c.r ++ u16 c.b ++ u16 c.g ++ u16 c.m ++
  [u8 (c.calling * 16 + c.outOfService),
   u8 ((if c.capable then 128 else 0) + (if c.duty then 64 else 0) + (if c.fallback then 16 else 0) +
     sourceStateCode c.source)]

end Sys2Proof.Machine
end

