-- ==== Sys2Proof/Machine/Flags.lean ====
section
/-! DEFINITION. What is read off the state: the station number and address, which loops, channels and probes are in
use, the effective source values, the state classes of a channel, the records by number. -/

namespace Sys2Proof.Machine

open Sys2Proof

/-- The station number 1 to 8 (R167). -/
def stationNumber (s : State) : Nat := s.loader.station.val + 1

/-- The station's own sender address: its number (section 5.4). -/
def ownAddress (s : State) : BitVec 6 := BitVec.ofNat 6 (stationNumber s)

/-- The station has been brought into service: not in LOADING. -/
def inServiceStation (s : State) : Bool := s.loader.state != .loading

/-- A loop is present (R1). -/
def loopPresent (s : State) (n : Fin 12) : Bool := (s.loops.get n).isSome

/-- The present loops in loop-number order. -/
def presentLoops (s : State) : List (Fin 12) := (List.finRange 12).filter (loopPresent s)

/-- The built-in profile 0 (R3). -/
def frostProfile : Profile where
  kind := .frost
  mode := .absolute
  setpoint := 700
  fixedDemand := 0
  dropOverride := none
  floorMax := 2900
  seed := 150
  park := .hold
  overrides := true
  program := none

/-- Profile `k`: the built-in profile 0, or the image's record when it is defined (R3). -/
def profileAt (s : State) (k : Fin 16) : Option Profile :=
  if h : k.val = 0 then some frostProfile else s.config.profiles.get ⟨k.val - 1, by omega⟩

/-- The number named by the top entry of a chain (R7). -/
def activeNumber (chain : List Entry) : Fin 16 :=
  match chain.getLast? with
  | some e => e.profile
  | none => 0

/-- The active profile of a chain (R7). A chain names defined profiles; the built-in profile stands in where one does not
(assumption 32). -/
def activeProfile (s : State) (chain : List Entry) : Profile :=
  match profileAt s (activeNumber chain) with
  | some p => p
  | none => frostProfile

/-- Base kinds (R4). -/
def baseKind : ProfileKind → Bool
  | .normal | .setback | .frost | .off => true
  | .boost | .dryout => false

/-- The kinds under control: NORMAL, SETBACK, FROST (R52). -/
def controlKind : ProfileKind → Bool
  | .normal | .setback | .frost => true
  | .off | .boost | .dryout => false

/-- The definition of a program, when it is usable (R138). -/
def programDef (s : State) : Prog → Option ProgramDef
  | .one => s.config.programOne
  | .two => s.config.programTwo

/-- The instance of a program. -/
def instanceOf (s : State) : Prog → DryInstance
  | .one => s.programOne
  | .two => s.programTwo

/-- The program number. -/
def progNumber : Prog → Nat
  | .one => 1
  | .two => 2

/-- The program of a number 1 or 2. -/
def progOfNumber (n : Nat) : Option Prog :=
  match n with
  | 1 => some .one
  | 2 => some .two
  | _ => none

/-- The step an instance stands at, or stood at last, as its program's definition gives it. -/
def currentStep (s : State) (p : Prog) : Option DryStep :=
  match programDef s p, (instanceOf s p).step with
  | some d, some k => if k = 0 then none else d.steps[k - 1]?
  | _, _ => none

/-- The record of a room. -/
def roomRecord (s : State) (room : Nat) : Option Room := s.rooms.records.find? fun r => r.room == room

/-- The age up to which a room record stays in its state, in seconds (R26). -/
def roomLimit : RoomState → Nat
  | .fresh => 300
  | .held | .never => 900
  | .orphan => 65535

/-! ## Source (R83) -/

/-- Effective source state. -/
def effectiveState (s : State) : SourceState :=
  match s.peers.source.validity, s.peers.source.state with
  | .fresh, some st => st
  | _, _ => .heating

/-- Effective F_src. -/
def effectiveSrc (s : State) : Nat :=
  match s.peers.source.validity, s.peers.source.fSrc with
  | .fresh, some f => f
  | _, _ => s.config.fallbackSrc

/-- Effective F_min. -/
def effectiveMin (s : State) : Nat :=
  match s.peers.source.validity, s.peers.source.fMin with
  | .fresh, some f => f
  | _, _ => s.config.fallbackMin

/-- The age up to which the source record keeps its validity (R82). -/
def sourceLimit : Validity → Nat
  | .never | .fresh => 60
  | .stale => 65535

/-- The age up to which a peer record keeps its state (R79). -/
def peerLimit (fresh : Bool) : Nat := if fresh then 60 else 600

/-! ## Channels -/

/-- The states that set the activity flag when entered (R105, R109). -/
def activeState : ChannelState → Bool
  | .queued | .drivingOpen | .drivingClose | .reversing | .settling | .calClose | .calOpen => true
  | .uncalibrated | .idle | .disabled => false

/-- The states that hold a drive slot (Table 7.2). -/
def slotState : ChannelState → Bool
  | .drivingOpen | .drivingClose | .reversing | .settling | .calClose | .calOpen => true
  | .uncalibrated | .idle | .queued | .disabled => false

/-- A channel is in use (R109): it serves a present loop, or the station is in FALLBACK. -/
def channelInUse (s : State) (n : Fin 12) : Bool :=
  match s.loader.state with
  | .loading => false
  | .normal => loopPresent s n
  | .fallback => true

/-- A usable channel: calibrated and not DISABLED. -/
def channelUsable (c : Channel) : Bool := c.calibrated && c.state != .disabled

/-- The expected stroke: the loop record's, or 1000 counts in FALLBACK (R123, R124). -/
def expectedStroke (s : State) (n : Fin 12) : Nat :=
  match s.loader.state, s.loops.get n with
  | .normal, some l => l.info.expectedStroke
  | _, _ => 1000

/-- A counted stroke is accepted (R124): 200 to 4000 counts and in the tolerance band. -/
def strokeAccepted (s : State) (n : Fin 12) (count : Int) : Bool :=
  let e := expectedStroke s n
  let low := if s.loader.state = .fallback then 1000 * 100 / 1000 else e * 900 / 1000
  let high := if s.loader.state = .fallback then 1000 * 1900 / 1000 else e * 1100 / 1000
  decide (200 ≤ count) && decide (count ≤ 4000) && decide ((low : Int) ≤ count) && decide (count ≤ (high : Int))

/-- The open drive line of a channel (R109); the pins are read off the state (DEDUCED, assumption 33). -/
def driveOpen (c : Channel) : Bool :=
  match c.state, c.move with
  | .drivingOpen, _ => true
  | .calOpen, some m => m.direction == some .open
  | _, _ => false

/-- The close drive line of a channel (R109). -/
def driveClose (c : Channel) : Bool := c.state == .drivingClose || c.state == .calClose

/-- A channel's position in ‰ of its stroke (R96): truncated toward zero, clamped to 0 to 1000; 0 without a stroke
(R128). -/
def positionShare (c : Channel) : Nat :=
  match c.stroke with
  | some stroke => (clampInt (Int.tdiv (c.counter * 1000) stroke) 0 1000).toNat
  | none => 0

/-- The slot a channel holds. -/
def slotOf (s : State) (n : Fin 12) : Option (Fin 3 × OpKind) :=
  (List.finRange 3).findSome? fun i =>
    match s.arbiter.slots.get i with
    | some e => if e.channel = n then some (i, e.kind) else none
    | none => none

/-- The queue entry of a channel. -/
def entryOf (s : State) (n : Fin 12) : Option DriveEntry := s.arbiter.queue.find? fun e => e.channel == n

/-- A channel is QUEUED with an entry of this kind. -/
def queuedFor (s : State) (n : Fin 12) (kind : OpKind) : Bool :=
  (s.channels.get n).state == .queued &&
    match entryOf s n with
    | some e => e.kind == kind
    | none => false

/-- The characteristic table of a valve type, when it is VALID. -/
def validTable (s : State) (t : Fin 4) : Option ValveTable :=
  match s.valves.tables.get t with
  | some v => if v.valid then some v else none
  | none => none

/-! ## Transmit slots -/

/-- The frame in a transmit slot. -/
def txFrame (b : Bus) : TxSlot → Option Frame
  | .report => b.report
  | .alert => b.alert
  | .reply => b.reply

/-- Some transmit slot holds a frame. -/
def txOccupied (b : Bus) : Bool := b.report.isSome || b.alert.isSome || b.reply.isSome

end Sys2Proof.Machine
end

