-- ==== Sys2Proof/Machine/Ops.lean ====
section
/-! DEFINITION. Operations that several blocks share: placing a frame in a transmit slot (R147, R152), recording a
fault and raising its alerts (R160, R161, R163), and taking events in an order the manual leaves open. -/

namespace Sys2Proof.Machine

open Sys2Proof

/-! ## Updating one item of a block -/

/-- The loop `n` changed to `l`. -/
def setLoop (s : State) (n : Fin 12) (l : Loop) : State := { s with loops := s.loops.set n (some l) }

/-- The channel `n` changed to `c`. -/
def setChannel (s : State) (n : Fin 12) (c : Channel) : State := { s with channels := s.channels.set n c }

/-- The instance of program `p` changed to `i`. -/
def setInstance (s : State) (p : Prog) (i : DryInstance) : State :=
  match p with
  | .one => { s with programOne := i }
  | .two => { s with programTwo := i }

/-- The probe channel `n` changed to `p`. -/
def setProbe (s : State) (n : Fin 14) (p : Probe) : State :=
  { s with scanner := { s.scanner with probes := s.scanner.probes.set n p } }

/-! ## Open orders and open values -/

/-- A ranked event put among events in rising rank; equal ranks keep their order. -/
def insertRanked {α : Type} (x : Nat × α) : List (Nat × α) → List (Nat × α)
  | [] => [x]
  | y :: ys => if x.1 ≤ y.1 then x :: y :: ys else y :: insertRanked x ys

/-- The events of a draw, each with its rank. -/
def rankFrom {α : Type} (draw : Nat) : Nat → List α → List (Nat × α)
  | _, [] => []
  | i, x :: xs => (Config.freeRank draw i, x) :: rankFrom draw (i + 1) xs

/-- Events that reach a block together, in the free order of draw `draw` (DESIGN CHOICE, assumption 4). -/
def freeOrder {α : Type} (draw : Nat) (events : List α) : List α :=
  match events with
  | [] => []
  | [x] => [x]
  | xs => (((rankFrom draw 0 xs).reverse).foldl (fun acc x => insertRanked x acc) []).map Prod.snd

/-- The state after a free value has been used. -/
def drawn (s : State) : State := { s with draws := s.draws + 1 }

/-! ## Work in steps -/

/-- `k` steps of the station's own work. -/
def times (step : State → State) : Nat → State → State
  | 0, s => s
  | k + 1, s => times step k (step s)

/-- A piece of work: its next `k` steps, counted by `cuts` (DESIGN CHOICE, assumption 12). -/
def piece (step : State → State) (k : Nat) (s : State) : State := { times step k s with cuts := s.cuts + 1 }

/-- A piece of free size, which may be none of the steps or all that are left (DESIGN CHOICE, assumption 12). -/
def freePiece (step : State → State) (s : State) : State := piece step (Config.freeCut s.cuts) s

/-! ## Transmit slots -/

/-- The bus with a transmit slot set. -/
def setTxFrame (b : Bus) (slot : TxSlot) (f : Option Frame) : Bus :=
  match slot with
  | .report => { b with report := f }
  | .alert => { b with alert := f }
  | .reply => { b with reply := f }

/-- A frame placed in a transmit slot replaces an unsent one (R152) and takes an idle transmitter to WAITING
(R147). -/
def placeFrame (s : State) (slot : TxSlot) (f : Frame) : State :=
  let b := setTxFrame s.bus slot (some f)
  { s with bus := { b with tx := if b.tx = .idle then .waiting else b.tx } }

/-- The oldest of the ALERTs that wait for it is placed in the alert transmit slot: one event (R163). -/
def placeAlert (s : State) : State :=
  match s.bus.placing with
  | [] => s
  | f :: more => placeFrame { s with bus := { s.bus with placing := more } } .alert f

/-- ALERTs that the recorder has built go to the alert transmit slot in turn (R163, R164): the first at once when none waits,
and each of the others in an event of its own, so that the one before it may have entered SENDING in between
(DEDUCED, assumption 42). -/
def raiseAlerts (s : State) (frames : List Frame) : State :=
  let s1 := { s with bus := { s.bus with placing := s.bus.placing ++ frames } }
  if s.bus.placing.isEmpty then placeAlert s1 else s1

/-! ## Replies (R156, section 13.3) -/

/-- Results (R157). -/
inductive Result where
  | ok
  | busy
  | badArgument
  | refusedState
deriving DecidableEq, Repr

/-- Result codes (section 13.3). -/
def resultCode : Result → Nat
  | .ok => 0
  | .busy => 1
  | .badArgument => 2
  | .refusedState => 3

/-- What a request is answered with: result, part number, last part number and data. -/
structure Answer where
  result : Result
  part : Byte
  last : Byte
  data : List Byte
deriving DecidableEq, Repr

/-- An answer of a request that has one part: part 0 of 0 (DEDUCED, assumption 14). -/
def single (result : Result) (data : List Byte) : Answer := ⟨result, 0, 0, data⟩

/-- A reply (section 13.3): the requester's address, the request code, the result, the parts and the data. -/
def replyFrame (s : State) (requester : BitVec 6) (code : Byte) (a : Answer) : Frame where
  kind := 6
  sender := ownAddress s
  content := [u8 requester.toNat, code, u8 (resultCode a.result), a.part, a.last] ++ a.data

/-- The reply to a request is placed in the reply slot (R156). -/
def sendReply (s : State) (request : Frame) (code : Byte) (a : Answer) : State :=
  placeFrame s .reply (replyFrame s request.sender code a)

/-! ## Faults -/

/-- A fault event. Its origin is FRAME exactly when it carries the frame that caused it. -/
structure FaultEvent where
  kind : FaultKind
  item : Nat
  first : Int
  second : Int
  frame : Option Frame
deriving DecidableEq, Repr

/-- The origin of a fault event. -/
def faultOrigin (e : FaultEvent) : Origin := if e.frame.isSome then .frame else .internal

/-- What the error record captures of the frame: its identity and its content from the first byte up to the eighth
(R161). -/
def captureFrame (f : Frame) : Captured := ⟨f.kind, f.sender, f.content.take 8⟩

/-- An ALERT frame (section 13.2), from alert slot `slot`. -/
def alertFrame (s : State) (slot : Fin 4) (tag : Nat) (kind : FaultKind) (origin : Origin) (item : Nat) : Frame where
  kind := 4
  sender := ownAddress s
  content :=
    [u8 (slot.val + 1), u8 tag, u8 (kindCode kind), u8 (severityCode (s.recorder.kinds.get (kindIndex kind)).severity),
     u8 (originCode origin), u8 item]

/-- The alert slot's kind set holds the kind. -/
def listens (a : AlertSlot) (kind : FaultKind) : Bool := a.kinds.getLsbD (kindIndex kind).val

/-- The alert slot acts on a fault of the kind: it listens for it and the enable is on (R163). -/
def hears (r : Recorder) (kind : FaultKind) (a : AlertSlot) : Bool := listens a kind && r.enable

/-- A masked alert slot that hears an unmasked fault holds it as its latest pending (R163). -/
def pendAlert (r : Recorder) (e : FaultEvent) (a : AlertSlot) : AlertSlot :=
  if hears r e.kind a && a.masked then { a with pending := true, latest := some ⟨e.kind, faultOrigin e, e.item⟩ } else a

/-- The ALERT that an unmasked alert slot sends for an unmasked fault that it hears (R163). -/
def alertFor (s : State) (e : FaultEvent) (slot : Fin 4) : Option Frame :=
  let a := s.recorder.slots.get slot
  if hears s.recorder e.kind a && !a.masked then some (alertFrame s slot a.tag e.kind (faultOrigin e) e.item) else none

/-- Alert slots 1 to 4 meet an unmasked fault in slot-number order (R163): what pends, pends in the fault's own event, and the
ALERTs go on their way. -/
def offerAlerts (s : State) (e : FaultEvent) : State :=
  raiseAlerts { s with recorder := { s.recorder with slots := s.recorder.slots.map (pendAlert s.recorder e) } }
    ((List.finRange 4).filterMap (alertFor s e))

/-- The recorder after a fault event has set its status and, when unmasked, acted on the pointer (R160, R161). -/
def recordFault (r : Recorder) (e : FaultEvent) : Recorder :=
  let k := r.kinds.get (kindIndex e.kind)
  let r1 := { r with kinds := r.kinds.set (kindIndex e.kind) { k with status := true } }
  if k.masked then r1
  else
    match r.pointer with
    | some _ => { r1 with overflow := true }
    | none =>
      { r1 with
        pointer := some e.kind
        record := some ⟨e.kind, k.severity, faultOrigin e, e.item, e.first, e.second, e.frame.map captureFrame⟩ }

/-- A fault event taken whole (R160): recorded, then, when its kind is unmasked, offered to alert slots 1 to 4 in
order (R163). -/
def report (s : State) (e : FaultEvent) : State :=
  let masked := (s.recorder.kinds.get (kindIndex e.kind)).masked
  let s1 := { s with recorder := recordFault s.recorder e }
  if masked then s1 else offerAlerts s1 e

/-- Several fault events, taken one after the other. -/
def reportAll (s : State) (events : List FaultEvent) : State := events.foldl report s

end Sys2Proof.Machine
end

