-- ==== Sys2Proof/Machine/Clock.lean ====
section
/-! DEFINITION. Time. Every clock of the station runs in milliseconds (DESIGN CHOICE, assumption 1). `elapse d s` lets `d` ms pass:
ages rise, timers fall, and each waits at its end until the command that stands for its event is taken. A command
that is the end of a timer first lets the time pass that its timer still has; `…Left` says how long that is. -/

namespace Sys2Proof.Machine

open Sys2Proof

/-- An age `d` ms later, waiting at the step past `limit` seconds. -/
def Age.after (a : Age) (limit d : Nat) : Age :=
  let t := a.secs * 1000 + a.ms + d
  if t < (limit + 1) * 1000 then ⟨t / 1000, t % 1000⟩ else ⟨limit, 1000⟩

/-- The time to the step past `limit` seconds. -/
def Age.left (a : Age) (limit : Nat) : Nat := (limit + 1) * 1000 - (a.secs * 1000 + a.ms)

/-- A channel `d` ms later: its stall timer runs while it drives (R117), its time limit while it is armed (R119,
R123), its dead interval or settling while present. -/
def channelAfter (d : Nat) (c : Channel) : Channel :=
  { c with
    move := c.move.map fun m =>
      { m with stall := if m.direction.isSome then min 400 (m.stall + d) else m.stall
               limit := m.limit.map (· - d) }
    wait := c.wait.map (· - d) }

/-- A program instance `d` ms later: only RUNNING counts (R141). A second that falls due is counted as the time passes, so
before a change out of HEATING that comes at that same moment; only the hour's last waits for its event, and may come after
(DESIGN CHOICE, assumption 31). -/
def instanceAfter (d : Nat) (i : DryInstance) : DryInstance :=
  if i.state = .running then { i with part := i.part.after 3599 d } else i

/-- A loop `d` ms later (R15). -/
def loopAfter (d : Nat) (l : Option Loop) : Option Loop :=
  l.map fun l => { l with boost := l.boost.map (· - d) }

/-- A room record `d` ms later (R26). -/
def roomAfter (d : Nat) (r : Room) : Room := { r with age := r.age.after (roomLimit r.state) d }

/-- A peer record `d` ms later (R79). -/
def peerAfter (d : Nat) (p : Peer) : Peer := { p with age := p.age.after (peerLimit p.fresh) d }

/-- `d` ms pass. While the loader is in LOADING only the clock runs: no block has been brought into service
(DEDUCED, assumption 34). -/
def elapse (d : Nat) (s : State) : State :=
  if d = 0 then s
  else if s.loader.state = .loading then { s with now := s.now + d }
  else
    { s with
      now := s.now + d
      loops := s.loops.map (loopAfter d)
      rooms := { s.rooms with records := s.rooms.records.map (roomAfter d) }
      scanner := { s.scanner with timer := s.scanner.timer.map (· - d) }
      engine := { s.engine with timer := s.engine.timer.map (· - d) }
      peers := { s.peers with
        peers := s.peers.peers.map (peerAfter d)
        source := { s.peers.source with age := s.peers.source.age.after (sourceLimit s.peers.source.validity) d } }
      channels := s.channels.map (channelAfter d)
      programOne := instanceAfter d s.programOne
      programTwo := instanceAfter d s.programTwo
      bus := { s.bus with reportTimer := s.bus.reportTimer.map (· - d) } }

/-! ## Time left to an event -/

/-- To the expiry of the pass timer (R46). -/
def passLeft (s : State) : Nat := s.engine.timer.getD 0

/-- To the expiry of the report timer (R153). -/
def reportLeft (s : State) : Nat := s.bus.reportTimer.getD 0

/-- To the due time of a deferred extra report (R154). -/
def extraLeft (s : State) : Nat := s.bus.extraDue.getD 0 - s.now

/-- To the next scan round (R34). -/
def scanLeft (s : State) : Nat := s.scanner.timer.getD 0

/-- To the expiry of a loop's boost timer (R16). -/
def boostLeft (s : State) (n : Fin 12) : Nat := ((s.loops.get n).bind (·.boost)).getD 0

/-- To the next change of state of a room record (R26). -/
def roomLeft (s : State) (room : Nat) : Nat :=
  match roomRecord s room with
  | some r => r.age.left (roomLimit r.state)
  | none => 0

/-- To the next ageing event of a peer record (R79). -/
def peerLeft (s : State) (station : Fin 8) : Nat :=
  match s.peers.peers.find? fun p => p.station == station with
  | some p => p.age.left (peerLimit p.fresh)
  | none => 0

/-- To the step of the source record into STALE (R82). -/
def sourceLeft (s : State) : Nat := s.peers.source.age.left (sourceLimit s.peers.source.validity)

/-- To the next whole hour of a program (R141). -/
def hourLeft (s : State) (p : Prog) : Nat := (instanceOf s p).part.left 3599

/-- To a channel's stall (R117). -/
def stallLeft (s : State) (n : Fin 12) : Nat :=
  match (s.channels.get n).move with
  | some m => 400 - m.stall
  | none => 0

/-- To the expiry of a channel's time limit or phase limit (R119, R125). -/
def limitLeft (s : State) (n : Fin 12) : Nat := ((s.channels.get n).move.bind (·.limit)).getD 0

/-- To the end of a channel's dead interval or settling (R114, R116, R124). -/
def waitLeft (s : State) (n : Fin 12) : Nat := (s.channels.get n).wait.getD 0

end Sys2Proof.Machine
end

