-- ==== Sys2Proof/Machine/Drive.lean ====
section
/-! DEFINITION. The operations of the actuator channels and of the drive arbiter (chapters 7 and 8): joining the
queue, granting and freeing slots, driving, reversing, settling, ending a move, calibrating, disabling. The two
blocks act on each other (a grant starts a channel, a channel that ends at its grant frees its slot), so they stand
in one file. -/

namespace Sys2Proof.Machine

open Sys2Proof

/-! ## Channels -/

/-- A channel takes a new value; entering one of the states of R105 sets the activity flag of the valve tables
(R109). -/
def putChannel (s : State) (n : Fin 12) (c : Channel) : State :=
  let entered := activeState c.state && c.state != (s.channels.get n).state
  { s with
    channels := s.channels.set n c
    valves := if entered then { s.valves with activity := true } else s.valves }

/-- Where the live target lies against the counter: more than 8 counts above, more than 8 below, or within the
deadband or absent (R112, R113). -/
def aim (c : Channel) : Option Direction :=
  match c.live with
  | none => none
  | some t =>
    if c.counter + 8 < (t : Int) then some .open
    else if (t : Int) + 8 < c.counter then some .close
    else none

/-- The time limit of a move: 2 × distance × nominal count time + 2 s (R119), in ms. -/
def moveLimit (s : State) (c : Channel) : Nat :=
  match c.live with
  | some t => 2 * (c.counter - (t : Int)).natAbs * s.config.countTime + 2000
  | none => 2000

/-- The phase limit of a calibration: 2 × expected stroke × nominal count time + 2 s (R123), in ms. -/
def phaseLimit (s : State) (n : Fin 12) : Nat := 2 * expectedStroke s n * s.config.countTime + 2000

/-- The driving state of a direction. -/
def drivingState : Direction → ChannelState
  | .open => .drivingOpen
  | .close => .drivingClose

/-- A move's drive starts: stall timer and against count at 0, time limit armed (R113, R116, R119). -/
def startDrive (s : State) (n : Fin 12) (m : MoveRecord) (d : Direction) : State :=
  let c := s.channels.get n
  putChannel s n { c with
    state := drivingState d
    move := some { m with direction := some d, stall := 0, limit := some (moveLimit s c), against := 0 }
    wait := none }

/-- The drive goes off: direction absent, stall timer and time limit disarmed. -/
def driveOff (m : MoveRecord) : MoveRecord := { m with direction := none, stall := 0, limit := none }

/-- Arrival: the drive goes off and the channel settles for 300 ms (R114). -/
def settle (s : State) (n : Fin 12) : State :=
  let c := s.channels.get n
  putChannel s n { c with state := .settling, move := c.move.map driveOff, wait := some 300 }

/-- Entry into REVERSING: the drive goes off for a dead interval of 200 ms (R115). -/
def reverse (s : State) (n : Fin 12) : State :=
  let c := s.channels.get n
  putChannel s n { c with state := .reversing, move := c.move.map driveOff, wait := some 200 }

/-- A live target written by the swap reaches a channel (R71, R112, R115). A target equal to the one held changes
nothing. A driving move keeps on with its limit re-armed, arrives, or reverses; in the other states the new target
replaces the old one. -/
def takeTarget (s : State) (n : Fin 12) (target : Nat) : State :=
  let c := s.channels.get n
  if c.live = some target then s
  else
    let c1 := { c with live := some target }
    let s1 := setChannel s n c1
    match c.state, c.move with
    | .drivingOpen, some m =>
      match aim c1 with
      | some .open => setChannel s1 n { c1 with move := some { m with limit := some (moveLimit s1 c1) } }
      | some .close => reverse s1 n
      | none => settle s1 n
    | .drivingClose, some m =>
      match aim c1 with
      | some .close => setChannel s1 n { c1 with move := some { m with limit := some (moveLimit s1 c1) } }
      | some .open => reverse s1 n
      | none => settle s1 n
    | _, _ => s1

/-! ## Arbiter: grants (R133 to R135) -/

/-- An entry may start: MOVE always, CALIBRATE while the source view is NOT_DEFROST (R135). -/
def mayStart (a : Arbiter) (e : DriveEntry) : Bool := e.kind == .move || !a.defrost

/-- The next grant, if one is due: the lowest-numbered free slot and the oldest entry that may start (R134). -/
def nextGrant (a : Arbiter) : Option (Fin 3 × DriveEntry) :=
  match (List.finRange 3).find? fun i => (a.slots.get i).isNone, a.queue.find? (mayStart a) with
  | some slot, some e => some (slot, e)
  | _, _ => none

/-- The arbiter after a grant: the entry leaves the queue and the slot is held. -/
def granted (a : Arbiter) (slot : Fin 3) (e : DriveEntry) : Arbiter :=
  { a with queue := a.queue.erase e, slots := a.slots.set slot (some e) }

/-- The arbiter with a channel's slot free (R133). -/
def released (a : Arbiter) (n : Fin 12) : Arbiter :=
  { a with slots := a.slots.map fun e =>
      match e with
      | some h => if h.channel = n then none else some h
      | none => none }

/-- A MOVE is granted (R113): the channel drives toward its live target, or ends at once and frees its slot. -/
def moveGranted (s : State) (n : Fin 12) : State :=
  let c := s.channels.get n
  match aim c with
  | some d => startDrive s n ⟨.move, none, 0, none, 0, 0⟩ d
  | none =>
    let s1 := putChannel s n { c with state := .idle, move := none, wait := none, rest := c.counter }
    { s1 with arbiter := released s1.arbiter n }

/-- A CALIBRATE is granted (R123): live target absent, remembered request cleared, CAL_CLOSE with the phase limit
armed. -/
def calibrationGranted (s : State) (n : Fin 12) : State :=
  let c := s.channels.get n
  putChannel s n { c with
    state := .calClose
    live := none
    remembered := false
    move := some ⟨.calibrate, some .close, 0, some (phaseLimit s n), 0, 0⟩
    wait := none }

/-- The channel is told of its grant. -/
def grantTo (s : State) (slot : Fin 3) (e : DriveEntry) : State :=
  let s1 := { s with arbiter := granted s.arbiter slot e }
  match e.kind with
  | .move => moveGranted s1 e.channel
  | .calibrate => calibrationGranted s1 e.channel

/-- Grants repeated while one is due (R134); every grant takes an entry out of the queue, so `fuel` entries bound
them. -/
def grantLoop : Nat → State → State
  | 0, s => s
  | fuel + 1, s =>
    match nextGrant s.arbiter with
    | some (slot, e) => grantLoop fuel (grantTo s slot e)
    | none => s

/-- The grant that follows every request, every freed slot and every change of the source view out of DEFROST. -/
def grants (s : State) : State := grantLoop s.arbiter.queue.length s

/-- A channel frees its slot, and the grant follows (R133, R134). -/
def freeSlot (s : State) (n : Fin 12) : State := grants { s with arbiter := released s.arbiter n }

/-! ## Arbiter: requests (R130, R131) -/

/-- The channel has an entry or holds a slot. -/
def engaged (s : State) (n : Fin 12) : Bool := (entryOf s n).isSome || (slotOf s n).isSome

/-- The queue after a MOVE request (R130). -/
def joinMove (s : State) (n : Fin 12) : State :=
  if engaged s n then s
  else { s with arbiter := { s.arbiter with queue := s.arbiter.queue ++ [⟨n, .move⟩] } }

/-- The queue after a CALIBRATE request (R131): a MOVE entry of the channel changes its kind in its place; a channel
without entry and slot joins at the tail. -/
def joinCalibrate (s : State) (n : Fin 12) : State :=
  if (entryOf s n).isSome then
    { s with arbiter := { s.arbiter with
        queue := s.arbiter.queue.map fun e => if e.channel = n then ⟨n, .calibrate⟩ else e } }
  else if (slotOf s n).isSome then s
  else { s with arbiter := { s.arbiter with queue := s.arbiter.queue ++ [⟨n, .calibrate⟩] } }

/-- A channel requests a move and enters QUEUED (R112, R130). -/
def requestMove (s : State) (n : Fin 12) : State :=
  let s1 := putChannel s n { s.channels.get n with state := .queued }
  grants (joinMove s1 n)

/-- The comparison of R112, at the end of a settling: an IDLE channel whose live target differs by more than the
deadband requests a move. -/
def compareTarget (s : State) (n : Fin 12) : State :=
  let c := s.channels.get n
  if c.state = .idle ∧ (aim c).isSome then requestMove s n else s

/-- A calibration request that goes to the arbiter: calibrated flag cleared, the channel QUEUED (R122). -/
def sendCalibrate (s : State) (n : Fin 12) : State :=
  let c := s.channels.get n
  let s1 := putChannel s n { c with state := .queued, calibrated := false }
  grants (joinCalibrate s1 n)

/-- A calibration request of a channel in use (R122), by the channel's state. `service` says that the cause is
RECALIBRATE, which alone takes a channel out of DISABLED. A remembered request stays remembered until its grant
(DEDUCED, assumption 20). -/
def requestCalibration (s : State) (n : Fin 12) (service : Bool) : State :=
  if !channelInUse s n then s
  else
    let c := s.channels.get n
    match c.state with
    | .uncalibrated | .idle => sendCalibrate s n
    | .queued => if queuedFor s n .move then sendCalibrate s n else s
    | .drivingOpen | .drivingClose | .reversing => setChannel s n { c with remembered := true }
    | .settling =>
      match c.move with
      | some m => if m.kind = .move then setChannel s n { c with remembered := true } else s
      | none => s
    | .calClose | .calOpen => s
    | .disabled => if service then sendCalibrate s n else s

/-! ## Ends of operations -/

/-- The move record is removed, the channel is IDLE and its slot is freed (R119, R120); the rest position stays
(DEDUCED, assumption 19). -/
def dropMove (s : State) (n : Fin 12) : State :=
  let c := s.channels.get n
  freeSlot (putChannel s n { c with state := .idle, move := none, wait := none }) n

/-- Entry into DISABLED (R126, R136). The rest position, which neither R125 nor R126 names, stands as it was
(DESIGN CHOICE, assumption 40): after a failed calibration it is that of the last rest before the calibration. -/
def disable (s : State) (n : Fin 12) : State :=
  let c := s.channels.get n
  let s1 := putChannel s n
    { c with state := .disabled, move := none, wait := none, remembered := false, live := none }
  freeSlot { s1 with arbiter := { s1.arbiter with queue := s1.arbiter.queue.filter fun e => e.channel != n } } n

/-- A live target as a fault value: -32768 when absent, as a signed value is carried (section 13.3). A channel that
drives a move has a live target (assumption 21). -/
def liveValue (c : Channel) : Int :=
  match c.live with
  | some t => (t : Int)
  | none => -32768

/-- The channel number of a fault's details. -/
def channelItem (n : Fin 12) : Nat := n.val + 1

/-- FEEDBACK_ERROR ends a driving move and requests a calibration (R120). -/
def feedbackError (s : State) (n : Fin 12) (cause : Int) (count : Nat) : State :=
  let s1 := report s ⟨.feedbackError, channelItem n, cause, count, none⟩
  requestCalibration (dropMove s1 n) n false

/-- A calibration fails (R125): `cause` 1 CAL_CLOSE limit, 2 CAL_OPEN limit, 3 stroke out of tolerance. The rest position
stands (DESIGN CHOICE, assumption 40). -/
def failCalibration (s : State) (n : Fin 12) (cause : Int) : State :=
  disable (report s ⟨.calibrationFailed, channelItem n, cause, (s.channels.get n).counter, none⟩) n

/-- Seat found (R117): the counter becomes the seat error and 0, and the move ends as an arrival. -/
def seatFound (s : State) (n : Fin 12) : State :=
  let c := s.channels.get n
  settle (setChannel s n { c with seatError := some c.counter, counter := 0 }) n

/-- A blocked stall (R118). -/
def blockedStall (s : State) (n : Fin 12) : State :=
  let c := s.channels.get n
  let s1 := report s ⟨.stallBlocked, channelItem n, c.counter, liveValue c, none⟩
  let c1 := { c with state := .idle, move := none, wait := none, rest := c.counter }
  if c.blocked = 0 then
    let s2 := freeSlot (putChannel s1 n { c1 with blocked := 1 }) n
    if c.remembered then requestCalibration s2 n false else s2
  else disable (freeSlot (putChannel s1 n { c1 with blocked := 0 }) n) n

/-- The stall that ends CAL_CLOSE (R123): the seat is at 0, and CAL_OPEN begins with a dead interval of 200 ms
(R124). -/
def calibrationSeat (s : State) (n : Fin 12) : State :=
  let c := s.channels.get n
  putChannel s n { c with
    state := .calOpen
    seatError := some c.counter
    counter := 0
    move := c.move.map driveOff
    wait := some 200 }

/-- The stall that ends CAL_OPEN (R124): the counter is judged as a stroke. -/
def calibrationStroke (s : State) (n : Fin 12) : State :=
  let c := s.channels.get n
  if strokeAccepted s n c.counter then
    putChannel s n { c with
      state := .settling
      stroke := some c.counter.toNat
      calibrated := true
      blocked := 0
      move := c.move.map driveOff
      wait := some 300 }
  else failCalibration s n 3

end Sys2Proof.Machine
end

