-- ==== Sys2Proof/Machine/ChannelEvents.lean ====
section
/-! DEFINITION. The events of the actuator channels (chapter 7): feedback edges, stalls, the ends of time limits,
settlings and dead intervals. A channel that is not in the state an event belongs to has no such event, and the
command changes nothing (DESIGN CHOICE, assumption 6). -/

namespace Sys2Proof.Machine

open Sys2Proof

/-! ## Feedback (R110, R120, R121) -/

/-- The phase pair after the next in the open order: low-low, low-high, high-high, high-low (R110). -/
def nextPhase : PhasePair → PhasePair
  | ⟨false, false⟩ => ⟨false, true⟩
  | ⟨false, true⟩ => ⟨true, true⟩
  | ⟨true, true⟩ => ⟨true, false⟩
  | ⟨true, false⟩ => ⟨false, false⟩

/-- How a change of the phase pair is judged. -/
inductive Edge where
  | unchanged
  | legal (d : Direction)
  | illegal
deriving DecidableEq, Repr

/-- A change to the next pair of the open order is legal toward open, one to the next pair of the close order legal
toward closed, and a change of both phases illegal (R110). -/
def judgeEdge (old new : PhasePair) : Edge :=
  if new = old then .unchanged
  else if new = nextPhase old then .legal .open
  else if old = nextPhase new then .legal .close
  else .illegal

/-- A channel after a legal edge: the counter steps, held at −1024 and 5119; while the drive is on the stall timer
restarts and an edge against the drive is counted (R110). -/
def legalEdge (c : Channel) (d : Direction) : Channel :=
  let step : Int := match d with
    | .open => 1
    | .close => -1
  { c with
    counter := clampInt (c.counter + step) (-1024) 5119
    move := c.move.map fun m =>
      match m.direction with
      | some drive => { m with stall := 0, against := if drive = d then m.against else bump 255 m.against }
      | none => m }

/-- A channel after an illegal transition (R110). -/
def illegalEdge (c : Channel) : Channel :=
  { c with
    illegalTotal := bump 65535 c.illegalTotal
    move := c.move.map fun m => { m with illegal := bump 255 m.illegal } }

/-- A driving move has reached its live target (R114). -/
def arrived (c : Channel) : Bool :=
  match c.state, c.live with
  | .drivingOpen, some t => decide ((t : Int) ≤ c.counter)
  | .drivingClose, some t => decide (c.counter ≤ (t : Int))
  | _, _ => false

/-- The channel has strayed more than 16 counts from its rest position (R121). -/
def drifted (c : Channel) : Bool := decide (16 < (c.counter - c.rest).natAbs)

/-- What the channel judges at an edge: feedback and arrival while a move drives (R114, R120), drift while it is
IDLE or QUEUED with MOVE (R121). The order of the judgments of one edge is DEDUCED (assumption 18). -/
def judgeChannel (s : State) (n : Fin 12) : State :=
  let c := s.channels.get n
  match c.state with
  | .drivingOpen | .drivingClose =>
    match c.move with
    | some m =>
      if 4 ≤ m.illegal then feedbackError s n 1 m.illegal
      else if 9 ≤ m.against then feedbackError s n 3 m.against
      else if arrived c then settle s n
      else s
    | none => s
  | .idle | .queued =>
    if channelInUse s n && (c.state == .idle || queuedFor s n .move) && drifted c then
      requestCalibration (report s ⟨.feedbackError, channelItem n, 2, c.counter - c.rest, none⟩) n false
    else s
  | .uncalibrated | .reversing | .settling | .calClose | .calOpen | .disabled => s

/-- FEEDBACK_EDGE (R110). -/
def feedbackEdge (s : State) (n : Fin 12) (a b : Bool) : State :=
  let s1 := { s with phases := s.phases.set n ⟨a, b⟩ }
  let c := s.channels.get n
  match judgeEdge (s.phases.get n) ⟨a, b⟩ with
  | .unchanged => s
  | .legal d => judgeChannel (setChannel s1 n (legalEdge c d)) n
  | .illegal => judgeChannel (setChannel s1 n (illegalEdge c)) n

/-- FEEDBACK_EDGE. -/
def execFeedbackEdge (n : Fin 12) (a b : Bool) (s : State) : Host.Outcome State Fault Refusal :=
  .next (feedbackEdge s n a b)

/-! ## Stall (R117, R118, R123, R124) -/

/-- The drive of a channel is on: its move record has a direction. -/
def driving (c : Channel) : Bool :=
  match c.move with
  | some m => m.direction.isSome
  | none => false

/-- The counter is at or below stroke / 16 (R117). -/
def nearSeat (c : Channel) : Bool :=
  match c.stroke with
  | some stroke => decide (c.counter ≤ ((stroke / 16 : Nat) : Int))
  | none => false

/-- The outcome of a stall, by the channel's state. -/
def stallTaken (s : State) (n : Fin 12) : State :=
  let c := s.channels.get n
  match c.state with
  | .drivingClose => if nearSeat c then seatFound s n else blockedStall s n
  | .drivingOpen => blockedStall s n
  | .calClose => calibrationSeat s n
  | .calOpen => calibrationStroke s n
  | .uncalibrated | .idle | .queued | .reversing | .settling | .disabled => s

/-- STALL (R117): the stall timer of a driving channel reaches 400 ms. -/
def execStall (n : Fin 12) (s : State) : Host.Outcome State Fault Refusal :=
  .next (if driving (s.channels.get n) then stallTaken (elapse (stallLeft s n) s) n else s)

/-! ## Time limits (R119, R125) -/

/-- A move times out: reported, ended, and a calibration requested (R119). -/
def timeoutTaken (s : State) (n : Fin 12) : State :=
  let c := s.channels.get n
  let s1 := report s ⟨.moveTimeout, channelItem n, c.counter, liveValue c, none⟩
  requestCalibration (dropMove s1 n) n false

/-- A move drives. -/
def moveDriving (c : Channel) : Bool := c.state == .drivingOpen || c.state == .drivingClose

/-- MOVE_TIMEOUT (R119). -/
def execMoveTimeout (n : Fin 12) (s : State) : Host.Outcome State Fault Refusal :=
  .next (if moveDriving (s.channels.get n) then timeoutTaken (elapse (limitLeft s n) s) n else s)

/-- A calibration phase runs with its limit armed, and the cause its expiry has (R125). -/
def phaseCause (c : Channel) : Option Int :=
  if driving c then
    match c.state with
    | .calClose => some 1
    | .calOpen => some 2
    | _ => none
  else none

/-- PHASE_LIMIT_EXPIRY (R125). -/
def execPhaseLimitExpiry (n : Fin 12) (s : State) : Host.Outcome State Fault Refusal :=
  .next (match phaseCause (s.channels.get n) with
    | some cause => failCalibration (elapse (limitLeft s n) s) n cause
    | none => s)

/-! ## Settling and dead intervals (R114, R116, R124) -/

/-- The channel settles after an operation of this kind. -/
def settlingOf (c : Channel) (kind : OpKind) : Bool :=
  c.state == .settling &&
    match c.move with
    | some m => m.kind == kind
    | none => false

/-- A move completes (R114): record removed, slot freed, rest position and blocked count set; then the remembered
calibration is requested, or the comparison of R112 made. -/
def moveCompleted (s : State) (n : Fin 12) : State :=
  let c := s.channels.get n
  let s1 := freeSlot
    (putChannel s n { c with state := .idle, move := none, wait := none, rest := c.counter, blocked := 0 }) n
  if c.remembered then requestCalibration s1 n false else compareTarget s1 n

/-- SETTLING_END (R114). -/
def execSettlingEnd (n : Fin 12) (s : State) : Host.Outcome State Fault Refusal :=
  .next (if settlingOf (s.channels.get n) .move then moveCompleted (elapse (waitLeft s n) s) n else s)

/-- An accepted calibration completes (R124). -/
def calibrationCompleted (s : State) (n : Fin 12) : State :=
  let c := s.channels.get n
  let s1 := freeSlot (putChannel s n { c with state := .idle, move := none, wait := none, rest := c.counter }) n
  compareTarget s1 n

/-- CALIBRATION_SETTLING_END (R124). -/
def execCalibrationSettlingEnd (n : Fin 12) (s : State) : Host.Outcome State Fault Refusal :=
  .next (if settlingOf (s.channels.get n) .calibrate then calibrationCompleted (elapse (waitLeft s n) s) n else s)

/-- The end of REVERSING (R116): the move drives again, its illegal count kept, or ends as an arrival. -/
def reversingEnded (s : State) (n : Fin 12) : State :=
  let c := s.channels.get n
  match aim c, c.move with
  | some d, some m => startDrive s n m d
  | _, _ => settle s n

/-- REVERSING_END (R116). -/
def execReversingEnd (n : Fin 12) (s : State) : Host.Outcome State Fault Refusal :=
  .next (if (s.channels.get n).state = .reversing then reversingEnded (elapse (waitLeft s n) s) n else s)

/-- The driving part of CAL_OPEN begins (R124): stall timer at 0, phase limit armed afresh, against count from the
start of the drive (Table 7.1). -/
def calOpenDriven (s : State) (n : Fin 12) : State :=
  let c := s.channels.get n
  putChannel s n { c with
    move := c.move.map fun m => { m with direction := some .open, stall := 0, limit := some (phaseLimit s n), against := 0 }
    wait := none }

/-- CAL_OPEN_DEAD_INTERVAL_END (R124). -/
def execCalOpenDeadIntervalEnd (n : Fin 12) (s : State) : Host.Outcome State Fault Refusal :=
  .next (if (s.channels.get n).state = .calOpen ∧ driving (s.channels.get n) = false then
      calOpenDriven (elapse (waitLeft s n) s) n
    else s)

end Sys2Proof.Machine
end

