-- ==== Sys2Proof/Machine/Probes.lean ====
section
/-! DEFINITION. The probe scanner (chapter 3). -/

namespace Sys2Proof.Machine

open Sys2Proof

/-- The temperatures of the 33 points, k = 0 to 32 (R37). -/
def probeTable : List Int :=
  [9000, 7540, 6710, 6120, 5660, 5280, 4950, 4660, 4390, 4150, 3920] ++
  [3700, 3490, 3290, 3090, 2900, 2710, 2520, 2330, 2140, 1950, 1750] ++
  [1550, 1340, 1120, 890, 640, 370, 60, -300, -740, -1300, -2000]

/-- The temperature of an in-range code (R37). -/
def linearise (code : Nat) : Int :=
  let k := (code - 96) / 122
  let t0 := probeTable.getD k 0
  let t1 := probeTable.getD (k + 1) 0
  t0 + Int.tdiv ((t1 - t0) * ((code - (96 + 122 * k) : Nat) : Int)) 122

/-- The class of a code (R36). -/
inductive CodeClass where
  | inRange (temperature : Int)
  | out (cause : ProbeCause)
deriving DecidableEq, Repr

/-- R36. -/
def classify (code : Nat) : CodeClass :=
  if 4000 ≤ code then .out .open else if code ≤ 95 then .out .shorted else .inRange (linearise code)

/-- The mean of a sample list, truncated toward zero (R38, R40). -/
def mean (samples : List Int) : Int := Int.tdiv samples.sum samples.length

/-- A sample joins the list at its tail; the oldest of 5 leaves (R38). -/
def joinFour (samples : List Int) (t : Int) : List Int :=
  let l := samples ++ [t]
  if 5 ≤ l.length then l.drop 1 else l

/-- The first value of PROBE_FAULT for a cause (R39). -/
def causeValue : ProbeCause → Int
  | .open => 1
  | .shorted => 2

/-- A channel after a sample, and whether the sample makes a PROBE_FAULT (R38 to R40). A channel that fails from
STARTING keeps the run of 3 (DEDUCED, assumption 27). -/
def sampled (p : Probe) (code : Nat) : Probe × Bool :=
  match classify code with
  | .inRange t =>
    let p := { p with lastCode := some code }
    match p.state with
    | .unused => (p, false)
    | .good =>
      let l := joinFour p.samples t
      ({ p with samples := l, outRun := 0, filtered := some (mean l) }, false)
    | .starting | .held | .failed =>
      let l := p.samples ++ [t]
      if 3 ≤ l.length then
        ({ p with state := .good, samples := l, filtered := some (mean l), held := none, outRun := 0, holdCount := 0 },
          false)
      else ({ p with samples := l, outRun := 0 }, false)
  | .out cause =>
    let p := { p with lastCode := some code, lastCause := some cause }
    match p.state with
    | .unused => (p, false)
    | .good =>
      if 3 ≤ p.outRun + 1 then
        ({ p with state := .held, held := p.filtered, filtered := none, samples := [], outRun := 0, holdCount := 0 },
          true)
      else ({ p with outRun := p.outRun + 1 }, false)
    | .starting =>
      if 3 ≤ p.outRun + 1 then ({ p with state := .failed, samples := [], outRun := p.outRun + 1 }, true)
      else ({ p with samples := [], outRun := p.outRun + 1 }, false)
    | .held | .failed => ({ p with samples := [] }, false)

/-- PROBE_FAULT for an out-of-range sample (R39, R40). -/
def probeFault (n : Fin 14) (code : Nat) : FaultEvent :=
  ⟨.probeFault, n.val + 1, match classify code with
    | .out cause => causeValue cause
    | .inRange _ => 0, code, none⟩

/-- A conversion completes (R36). -/
def takeSample (s : State) (n : Fin 14) (code : Nat) : State :=
  let (p, fault) := sampled (s.scanner.probes.get n) code
  let s1 := setProbe s n p
  if fault then report s1 (probeFault n code) else s1

/-- SAMPLE_EVENT (R34, R36): the conversion of the channel that the scan round has reached (DEDUCED, assumption 26). -/
def execSampleEvent (n : Fin 14) (code : BitVec 12) (s : State) : Host.Outcome State Fault Refusal :=
  .next (match s.scanner.round with
    | m :: later =>
      if m = n then takeSample { s with scanner := { s.scanner with round := later } } n code.toNat else s
    | [] => s)

/-- The channels the scanner uses (R34): 13 and 14 always, channel n when loop n is present. -/
def probeUsed (loops : Tab 12 (Option Loop)) (n : Fin 14) : Bool :=
  if h : n.val < 12 then (loops.get ⟨n.val, h⟩).isSome else true

/-- The used channels in channel-number order. -/
def scanList (loops : Tab 12 (Option Loop)) : List (Fin 14) := (List.finRange 14).filter (probeUsed loops)

/-- A scan round begins (R34). -/
def beginRound (s : State) : State :=
  { s with scanner := { s.scanner with timer := some 2000, round := scanList s.loops } }

/-- SCAN_ROUND (R34). -/
def execScanRound (s : State) : Host.Outcome State Fault Refusal :=
  .next (if s.scanner.timer.isSome then beginRound (elapse (scanLeft s) s) else s)

/-- The scanner at its start (R35): every used channel STARTING. -/
def startScanner (loops : Tab 12 (Option Loop)) : Scanner where
  probes := Tab.tabulate fun n => { Probe.reset with state := if probeUsed loops n then .starting else .unused }
  implausible := false
  timer := some 2000
  round := scanList loops

/-! ## The pass reading (R41, R44) -/

/-- What a channel supplies (R41): UNUSED, GOOD, HELD or FAILED, with a value where the state has one. -/
def supplied (p : Probe) : ProbeState × Option Int :=
  match p.state with
  | .unused => (.unused, none)
  | .starting => (.failed, none)
  | .good => (.good, p.filtered)
  | .held => (.held, p.held)
  | .failed => (.failed, none)

/-- What channel `n` supplies; channel 14 is FAILED while its implausible flag is set (R44). -/
def supply (sc : Scanner) (n : Fin 14) : ProbeState × Option Int :=
  if n.val = 13 ∧ sc.implausible then (.failed, none) else supplied (sc.probes.get n)

/-- The reading counts one more hold of a HELD channel; at the tenth the channel enters FAILED and keeps its recovery
run (R41). -/
def countHold (p : Probe) : Probe :=
  match p.state with
  | .held =>
    if 10 ≤ p.holdCount + 1 then { p with state := .failed, held := none, holdCount := 10 }
    else { p with holdCount := p.holdCount + 1 }
  | _ => p

/-- The filtered values of the GOOD return probes of present loops (R44). -/
def goodReturns (s : State) : List Int :=
  (presentLoops s).filterMap fun n =>
    let p := s.scanner.probes.get ⟨n.val, by omega⟩
    if p.state = .good then p.filtered else none

/-- The plausibility check of probe M (R44): the new flag, and M's value when the check was made. -/
def plausibility (s : State) : Bool × Int :=
  let m := s.scanner.probes.get 13
  match m.state, m.filtered with
  | .good, some v =>
    let returns := goodReturns s
    if returns.isEmpty then (s.scanner.implausible, v)
    else (returns.all fun t => decide (1000 < (v - t).natAbs), v)
  | _, _ => (s.scanner.implausible, 0)

/-- The scanner's side of a pass reading (R41, R44): the plausibility check, reported when the flag passes from clear
to set, then the hold counts. -/
def takeReading (s : State) : State :=
  let (flag, v) := plausibility s
  let s1 := { s with scanner := { s.scanner with
    probes := s.scanner.probes.map countHold
    implausible := flag } }
  if flag && !s.scanner.implausible then report s1 ⟨.probeFault, 14, 3, v, none⟩ else s1

end Sys2Proof.Machine
end

