-- ==== Sys2Proof/Machine/Sharing.lean ====
section
/-! DEFINITION. The sharing computation (chapter 5, R85 to R89), and the lookups in a characteristic table that the
pass and the trim share (R66, R67, R94, R95). -/

namespace Sys2Proof.Machine

open Sys2Proof

/-! ## The grant -/

/-- A bypass candidate (R63). -/
structure Candidate where
  loop : Fin 12
  qReq : Nat
  qMax : Nat
deriving DecidableEq, Repr

/-- The deficit spread over the candidates in order (R88). -/
def spread : Nat → List Candidate → List Addition
  | _, [] => []
  | remainder, c :: rest =>
    let a := min (c.qMax - c.qReq) remainder
    ⟨c.loop, a⟩ :: spread (remainder - a) rest

/-- What the sharing computation returns (R89). -/
structure Share where
  rTot : Nat
  case : SharingCase
  g : Nat
  b : Nat
  duty : Bool
  deficit : Option Nat
  additions : List Addition
deriving DecidableEq, Repr

/-- The request total in the station's own view (R85). -/
def requestTotal (r : Nat) (peers : List PeerView) : Nat := r + (peers.map (·.r)).sum

/-- This station is the duty holder (R87): it has a candidate, and no capable FRESH peer has a lower number. -/
def holdsDuty (station : Nat) (peers : List PeerView) (candidates : List Candidate) : Bool :=
  !candidates.isEmpty && peers.all fun p => !p.capable || decide (station < p.station)

/-- The sharing computation (R85 to R88). The deficit stands in every deficit case (DEDUCED, assumption 24). -/
def share (station r fSrc fMin : Nat) (peers : List PeerView) (candidates : List Candidate) : Share :=
  let rTot := requestTotal r peers
  if fSrc < rTot then ⟨rTot, .scaling, r * fSrc / rTot, 0, false, none, []⟩
  else if rTot < fMin then
    let d := fMin - rTot
    if holdsDuty station peers candidates then
      let additions := spread d candidates
      let b := (additions.map (·.flow)).sum
      ⟨rTot, .deficit, r + b, b, true, some d, additions⟩
    else ⟨rTot, .deficit, r, 0, false, some d, []⟩
  else ⟨rTot, .fullGrant, r, 0, false, none, []⟩

/-- The bypass addition of a loop, 0 for a loop that receives none. -/
def additionOf (additions : List Addition) (n : Fin 12) : Nat :=
  match additions.find? fun a => a.loop == n with
  | some a => a.flow
  | none => 0

/-! ## Characteristic tables -/

/-- The inverse lookup of R67 before the minimum opening: the point k with F_k ≤ f < F_{k+1}, and the position
between. -/
def inverseFrom (f : Nat) : Nat → List Nat → Nat
  | k, a :: b :: rest =>
    if a ≤ f ∧ f < b then 100 * k + (f - a) * 100 / (b - a) else inverseFrom f (k + 1) (b :: rest)
  | _, _ => 1000

/-- The position for an allocation (R66, R67). -/
def positionFor (t : ValveTable) (qAlloc qEff : Nat) : Nat :=
  if qAlloc = 0 then 0
  else if qEff ≤ qAlloc then 1000
  else max t.minOpening (inverseFrom (qAlloc * 1000 / qEff) 0 t.fractions)

/-- The forward interpolation F(p) (R94). -/
def fractionAt (t : ValveTable) (p : Nat) : Nat :=
  if 1000 ≤ p then 1000
  else
    let k := p / 100
    let f0 := t.fractions.getD k 0
    let f1 := t.fractions.getD (k + 1) 0
    f0 + (f1 - f0) * (p - 100 * k) / 100

/-- The trimmed full-open flow Q_eff (R66, R104). -/
def trimmedFlow (qFull trim : Nat) : Nat := qFull * trim / 1000

end Sys2Proof.Machine
end

