-- ==== Sys2Proof/Machine/Trim.lean ====
section
/-! DEFINITION. The flow meter counter and the trim update (chapter 6). -/

namespace Sys2Proof.Machine

open Sys2Proof

/-- METER_PULSE (R97): the pulse count rises and wraps; before the counter's start pulses are not counted. -/
def execMeterPulse (s : State) : Host.Outcome State Fault Refusal :=
  .next (if s.meter.counting then
      { s with meter := { s.meter with pulses := (s.meter.pulses + 1) % 65536 } }
    else s)

/-! ## The predicted flow (R104) -/

/-- The term of one present loop (R104). -/
def flowTerm (s : State) (n : Fin 12) : Nat :=
  match s.loops.get n with
  | none => 0
  | some l =>
    let c := s.channels.get n
    match validTable s l.info.valveType with
    | some t =>
      if channelUsable c then trimmedFlow l.info.qFull s.valves.trim * fractionAt t (positionShare c) / 1000 else 0
    | none => 0

/-- The predicted flow P (R104). -/
def predictedFlow (s : State) : Nat := ((List.finRange 12).map (flowTerm s)).sum

/-! ## The measurement (R98 to R102) -/

/-- The pulses of the period (R98). -/
def periodPulses (m : Meter) : Nat := (m.pulses + 65536 - m.old % 65536) % 65536

/-- The period's flow (R98). -/
def periodFlow (sub pitch : Nat) : Nat := sub * pitch * 120 / 1000

/-- The volume total and remainder after an IN_WINDOW sample (R99). -/
def addVolume (m : Meter) (sub pitch : Nat) : Meter :=
  let ml := m.remainder + sub * pitch
  { m with total := (m.total + ml / 1000) % 4294967296, remainder := ml % 1000 }

/-- What a measurement returns (R103): the meter, whether it makes a METER_FAULT with which values, the period's
flow when the sample was in window. -/
structure Measurement where
  meter : Meter
  fault : Option (Int × Int)
  flow : Option Nat
deriving DecidableEq, Repr

/-- The state moves on a DISCARDED sample (R100, R102). -/
def discardSample (m : Meter) (flow : Nat) : Measurement :=
  match m.state with
  | .good => ⟨{ m with state := .suspect, zeroRun := 0, recoveryRun := 0 }, some (1, (min flow 65535 : Nat)), none⟩
  | .suspect => ⟨{ m with recoveryRun := 0 }, none, none⟩
  | .unconfigured => ⟨m, none, none⟩

/-- The state moves on an IN_WINDOW sample (R101, R102). -/
def windowSample (m : Meter) (flow p : Nat) : Measurement :=
  match m.state with
  | .good =>
    if flow = 0 ∧ 200 ≤ p then
      if 4 ≤ m.zeroRun + 1 then
        ⟨{ m with state := .suspect, zeroRun := 0, recoveryRun := 0 }, some (2, (p : Int)), some flow⟩
      else ⟨{ m with zeroRun := m.zeroRun + 1 }, none, some flow⟩
    else ⟨{ m with zeroRun := 0 }, none, some flow⟩
  | .suspect =>
    if flow = 0 then ⟨{ m with recoveryRun := 0 }, none, some flow⟩
    else if 2 ≤ m.recoveryRun + 1 then ⟨{ m with state := .good, recoveryRun := 0 }, none, some flow⟩
    else ⟨{ m with recoveryRun := m.recoveryRun + 1 }, none, some flow⟩
  | .unconfigured => ⟨m, none, some flow⟩

/-- One measurement (R98); in UNCONFIGURED it latches nothing. -/
def measure (m : Meter) (p : Nat) : Measurement :=
  match m.state, m.pitch, m.maximum with
  | .unconfigured, _, _ => ⟨m, none, none⟩
  | _, some pitch, some top =>
    let sub := periodPulses m
    let flow := periodFlow sub pitch
    let m1 := { m with new := m.pulses, sub := sub, old := m.pulses }
    if flow ≤ top then windowSample (addVolume { m1 with sample := .inWindow, flow := flow } sub pitch) flow p
    else discardSample { m1 with sample := .discarded } flow
  | _, _, _ => ⟨m, none, none⟩

/-! ## The judgment (R105, R106) -/

/-- The judgment, by the first failing condition (R106). -/
def judge (activity : Bool) (state : MeterState) (flow : Option Nat) (p : Nat) : Judgment :=
  if activity then .notQuiet
  else if state ≠ .good then .meterNotGood
  else
    match flow with
    | none => .noSample
    | some f => if f = 0 then .noSample else if p < 200 then .lowFlow else .updated

/-- The trim factor's new value (R106). -/
def nextTrim (c target : Nat) : Nat := (clampInt (c + Int.tdiv ((target : Int) - c) 8) 700 1300).toNat

/-- Some channel stands in one of the states of R105. -/
def anyActive (s : State) : Bool := s.channels.items.any fun c => activeState c.state

/-- Step 3 of the trim update (R103, R106), with the P of step 1 and what the measurement has returned. -/
def judgeTrim (s : State) (state : MeterState) (flow : Option Nat) : State :=
  let v := s.valves
  let j := judge v.activity state flow v.lastP
  let target := v.trim * flow.getD 0 / v.lastP
  let v1 := { v with lastJudgment := j, activity := anyActive s, update := none }
  { s with valves :=
      if j = .updated then { v1 with trim := nextTrim v.trim target, lastTarget := some target }
      else { v1 with lastTarget := none } }

/-! ## The trim update, step by step (R103) -/

/-- Step 1: the predicted flow of this moment becomes the last P. -/
def predictTrim (s : State) : State :=
  { s with valves := { s.valves with lastP := predictedFlow s, update := some .measure } }

/-- Step 2: the measurement is taken with the P of step 1, and a METER_FAULT that it makes is reported (R98, R100). -/
def measureTrim (s : State) : State :=
  let m := measure s.meter s.valves.lastP
  let s1 := { s with meter := m.meter, valves := { s.valves with update := some (.judge m.meter.state m.flow) } }
  match m.fault with
  | some (cause, value) => report s1 ⟨.meterFault, stationNumber s1, cause, value, none⟩
  | none => s1

/-- The next step of a trim update in progress. -/
def trimStep (s : State) : State :=
  match s.valves.update with
  | none => s
  | some .predict => predictTrim s
  | some .measure => measureTrim s
  | some (.judge state flow) => judgeTrim s state flow

/-- The next `k` steps; a trim update that has ended makes none. -/
abbrev trimSteps : Nat → State → State := times trimStep

/-- A trim update begins (R103). -/
def beginTrim (s : State) : State := { s with valves := { s.valves with update := some .predict } }

/-- The steps that a trim update in progress has still to make. -/
def finishTrim (s : State) : State := trimSteps 3 s

end Sys2Proof.Machine
end

