-- ==== Sys2Proof/Machine/Pass.lean ====
section
/-! DEFINITION. The balancing pass up to its close (chapter 4): the opening, stages 1 to 6, and the swap. Each stage's
arithmetic is a function of its own. -/

namespace Sys2Proof.Machine

open Sys2Proof

/-- The opening's readings (R41, R83, R84). Channel 14 is supplied by its implausible flag as it stands before this
reading's own check (DESIGN CHOICE, assumption 39). -/
def openPass (s : State) : Opening where
  probes := Tab.tabulate (supply s.scanner)
  source := effectiveState s
  fSrc := effectiveSrc s
  fMin := effectiveMin s
  peers := s.peers.peers.filterMap fun p =>
    if p.fresh then some ⟨p.station.val + 1, p.core.r, p.core.capable⟩ else none
  trim := s.valves.trim

/-! ## Stage 1: demand (R51 to R58) -/

/-- What a room supplies to the pass (R31): whether it is HELD, and its values. `none` in NEVER and ORPHAN. -/
structure RoomSupply where
  held : Bool
  temperature : Int
  setpoint : Int
  floor : Option Int
deriving DecidableEq, Repr

/-- R31. -/
def roomSupply (r : Option Room) : Option RoomSupply :=
  match r with
  | none => none
  | some r =>
    match r.state, r.temperature, r.setpoint with
    | .fresh, some t, some sp => some ⟨false, t, sp, r.floor⟩
    | .held, some t, some sp => some ⟨true, t, sp, r.floor⟩
    | _, _, _ => none

/-- The effective setpoint (R52). -/
def effectiveSetpoint (p : Profile) (roomSetpoint : Int) : Int :=
  match p.mode with
  | .offset => clampInt (roomSetpoint + p.setpoint) 500 3000
  | .absolute => clampInt p.setpoint 500 3000

/-- The control error (R52). -/
def controlError (setpoint temperature : Int) : Int := clampInt (setpoint - temperature) (-500) 500

/-- Some hold of R54 applies. -/
def holdApplies (dLast : Option Nat) (scaled : Bool) (source : SourceState) (roomHeld : Bool) (e : Int) : Bool :=
  (dLast == some 1000 && decide (0 < e)) || (dLast == some 0 && decide (e < 0)) || (scaled && decide (0 < e)) ||
  source != .heating || roomHeld

/-- The integrator of a loop under control: seeded (R53), held or incremented (R54). -/
def nextIntegrator (ki : Nat) (stale : Bool) (seed : Nat) (e : EngineLoop) (source : SourceState) (roomHeld : Bool)
    (err : Int) : Nat :=
  if stale then (e.dLast.getD seed) * 100
  else if holdApplies e.dLast e.scaled source roomHeld err then e.integrator
  else (clampInt (e.integrator + ki * err) 0 100000).toNat

/-- The demand under control (R55). -/
def controlDemand (kp integrator : Nat) (err : Int) : Nat :=
  (clampInt ((integrator / 100 : Nat) + Int.tdiv (kp * err) 100) 0 1000).toNat

/-- The frost floor (R56). -/
def frostFloor (kind : ProfileKind) (room : Option RoomSupply) (d : Nat) : Nat :=
  match room with
  | some r => if kind ≠ .off ∧ r.temperature < 500 then max d 150 else d
  | none => d

/-- The floor limit (R57). -/
def floorLimit (floorMax : Nat) (room : Option RoomSupply) (d : Nat) : Nat :=
  match room.bind (·.floor) with
  | none => d
  | some f =>
    let margin : Int := floorMax - f
    if margin ≤ 0 then 0 else if margin ≤ 49 then min d (1000 * margin.toNat / 50) else d

/-- The demand a DRYOUT profile's program supplies (R51): that of the step at which it stands, or which it reached last. A
program that stands at no step of its table, as one in IDLE between the pushes of its start, supplies a free value (DESIGN
CHOICE, assumption 46). -/
def stepDemand (s : State) (n : Fin 12) (p : Profile) : Nat :=
  match p.program.bind (currentStep s) with
  | some st => st.demand
  | none => min 1000 (Config.freeDemand s.now n.val)

/-- Demand before the frost floor and the floor limit, and the integrator (R51 to R55). -/
def rawDemand (s : State) (o : Opening) (n : Fin 12) (p : Profile) (stale : Bool) (room : Option RoomSupply) (e : EngineLoop) :
    Nat × Nat :=
  match p.kind with
  | .boost => (p.fixedDemand, e.integrator)
  | .dryout => (stepDemand s n p, e.integrator)
  | .off => (0, e.integrator)
  | .normal | .setback | .frost =>
    match room with
    | none => (p.seed, e.integrator)
    | some r =>
      let err := controlError (effectiveSetpoint p r.setpoint) r.temperature
      let i := nextIntegrator s.config.ki stale p.seed e o.source r.held err
      (controlDemand s.config.kp i err, i)

/-- The demand of a loop (R51 to R57) and its integrator. -/
def demandOf (s : State) (o : Opening) (n : Fin 12) (p : Profile) (stale : Bool) (room : Option RoomSupply) (e : EngineLoop) :
    Nat × Nat :=
  let (d, i) := rawDemand s o n p stale room e
  (floorLimit p.floorMax room (frostFloor p.kind room d), i)

/-- Control has been resumed: the pass seeds the integrator, so the history-stale flag is cleared (R13, R53). -/
def underControl (p : Profile) (room : Option RoomSupply) : Bool := controlKind p.kind && room.isSome

/-! ## Stage 2: request (R59 to R61) -/

/-- The open-settled counter (R59). -/
def nextSettled (c : Channel) (stroke n : Nat) : Nat :=
  if (c.state = .idle ∨ c.state = .queued) ∧ (100 * stroke : Int) ≤ c.counter * 1000 then min 3 (n + 1) else 0

/-- A probe value the pass uses: GOOD or HELD (R41). -/
def usableValue (v : ProbeState × Option Int) : Option Int :=
  match v.1 with
  | .good | .held => v.2
  | _ => none

/-- The measured drop when it is valid (R60). -/
def validDrop (o : Opening) (n : Fin 12) (settled : Nat) : Option Nat :=
  match usableValue (o.probes.get 12), usableValue (o.probes.get ⟨n.val, by omega⟩) with
  | some ts, some tr => if settled = 3 ∧ 0 < ts - tr then some (ts - tr).toNat else none
  | _, _ => none

/-- The flow request (R61). -/
def requestFlow (d qDes dropDes dropEff qMax : Nat) : Nat := min qMax (d * qDes * dropDes / (1000 * dropEff))

/-! ## One loop through stages 1 and 2 -/

/-- The loop is in service (R48): channel calibrated and not DISABLED, valve table valid. -/
def loopInService (s : State) (n : Fin 12) (l : Loop) : Bool :=
  channelUsable (s.channels.get n) && (validTable s l.info.valveType).isSome

/-- An out-of-service loop (R48). -/
def outOfServiceLoop (e : EngineLoop) : EngineLoop :=
  { e with inService := false, qReq := 0, qAlloc := 0, reported := 0, scaled := false, openSettled := 0,
           lastTarget := none }

/-- The engine's values of an in-service loop after stages 1 and 2, and its history-stale flag. -/
def servedLoop (s : State) (o : Opening) (n : Fin 12) (l : Loop) (e : EngineLoop) : EngineLoop × Bool :=
  let p := activeProfile s l.chain
  let room := roomSupply (roomRecord s l.info.room)
  let (d, i) := demandOf s o n p l.stale room e
  let c := s.channels.get n
  let settled := nextSettled c (c.stroke.getD 0) e.openSettled
  let dropDes := p.dropOverride.getD l.info.dropDes
  let measured := validDrop o n settled
  let dropEff := match measured with
    | some m => max m 100
    | none => dropDes
  ({ e with
      integrator := i
      dLast := some d
      reported := d
      openSettled := settled
      inService := true
      qReq := requestFlow d l.info.qDes dropDes dropEff l.info.qMax
      dropEff := some dropEff
      dropValid := measured.isSome },
    l.stale && !underControl p room)

/-- Stages 1 and 2 for one loop; an absent loop is not visited. -/
def stageOne (o : Opening) (s : State) (n : Fin 12) : State :=
  match s.loops.get n with
  | none => s
  | some l =>
    let e := s.engine.loops.get n
    if loopInService s n l then
      let (e1, stale) := servedLoop s o n l e
      { s with
        engine := { s.engine with loops := s.engine.loops.set n e1 }
        loops := s.loops.set n (some { l with stale := stale }) }
    else { s with engine := { s.engine with loops := s.engine.loops.set n (outOfServiceLoop e) } }

/-- What the later stages use of a loop that stage 1 finds in service (R48, R49). -/
def readingOf (s : State) (n : Fin 12) : List LoopReading :=
  match s.loops.get n with
  | some l =>
    if loopInService s n l then [⟨n, activeProfile s l.chain, (s.channels.get n).stroke.getD 0⟩] else []
  | none => []

/-! ## Stage 3 (R62, R63) -/

/-- The present loops in service at this pass. -/
def servedLoops (s : State) : List (Fin 12) := (presentLoops s).filter fun n => (s.engine.loops.get n).inService

/-- The request sum (R62). -/
def requestSum (s : State) : Nat := ((servedLoops s).map fun n => (s.engine.loops.get n).qReq).sum

/-- The bypass candidates (R63), by the active profiles that stage 1 read. -/
def candidates (s : State) (readings : List LoopReading) : List Candidate :=
  readings.filterMap fun r =>
    match s.loops.get r.loop with
    | some l =>
      if l.info.bypass ∧ r.profile.kind ≠ .off then
        some ⟨r.loop, (s.engine.loops.get r.loop).qReq, l.info.qMax⟩
      else none
    | none => none

/-- BYPASS_SHORT (R88): a duty holder's candidates could not carry the whole deficit. -/
def bypassShort (s : State) (sh : Share) : State :=
  match sh.deficit with
  | some d => if sh.duty ∧ sh.b < d then report s ⟨.bypassShort, stationNumber s, d, sh.b, none⟩ else s
  | none => s

/-- The station's request: the request sum lowered to 20000 (R62). -/
def stationRequest (qSum : Nat) : Nat := min 20000 qSum

/-- The share of this pass (R63). -/
def shareOf (s : State) (o : Opening) (readings : List LoopReading) : Share :=
  share (stationNumber s) (stationRequest (requestSum s)) o.fSrc o.fMin o.peers (candidates s readings)

/-- What stage 3 makes of the requests (R62, R63, R74, R91). -/
def grantOf (s : State) (readings : List LoopReading) (sh : Share) : PassGrant where
  sum := requestSum s
  additions := sh.additions
  work :=
    { r := stationRequest (requestSum s)
      b := sh.b
      g := sh.g
      rTot := sh.rTot
      case := some sh.case
      deficit := sh.deficit
      calling := ((servedLoops s).filter fun n => decide (0 < (s.engine.loops.get n).qReq)).length
      outOfService := ((presentLoops s).filter fun n => !(s.engine.loops.get n).inService).length
      capable := !(candidates s readings).isEmpty
      duty := sh.duty }

/-! ## Stages 4 to 6 (R64 to R70) -/

/-- The allocation of one loop (R64). -/
def allocate (qReq qSum g b addition : Nat) : Nat := (if qSum = 0 then 0 else qReq * (g - b) / qSum) + addition

/-- The slot of an in-service loop (R66 to R69). -/
def slotTarget (p : Profile) (info : LoopInfo) (t : ValveTable) (trim qAlloc stroke : Nat) : Option Nat :=
  if p.kind = .off then
    match p.park with
    | .hold => none
    | .close => some 0
    | .park => some (info.commissioning * stroke / 1000)
  else some (positionFor t qAlloc (trimmedFlow info.qFull trim) * stroke / 1000)

/-- Stage 4 for one loop: its allocation and its scaled flag (R64, R65). The flag is set exactly when the allocation lies
below the request: in a deficit with Q_sum above 20000 also for a loop whose bypass addition does not make up for the
division (R65 says both; DESIGN CHOICE, assumption 36). -/
def allocateLoop (g : PassGrant) (s : State) (r : LoopReading) : State :=
  let e := s.engine.loops.get r.loop
  let q := allocate e.qReq g.sum g.work.g g.work.b (additionOf g.additions r.loop)
  { s with engine := { s.engine with
      loops := s.engine.loops.set r.loop { e with qAlloc := q, scaled := decide (q < e.qReq) } } }

/-- Stages 5 and 6 for one loop, with profile and stroke as stage 1 read them: its target, in its slot (R66 to R69). -/
def targetLoop (o : Opening) (s : State) (r : LoopReading) : State :=
  let e := s.engine.loops.get r.loop
  match s.loops.get r.loop with
  | none => s
  | some l =>
    let target := match validTable s l.info.valveType with
      | some t => slotTarget r.profile l.info t o.trim e.qAlloc r.stroke
      | none => none
    { s with engine := { s.engine with
        loops := s.engine.loops.set r.loop { e with lastTarget := target }
        buffer := s.engine.buffer.set r.loop target } }

/-- The full-open hold of FALLBACK (R70): the stroke of every usable channel. -/
def fallbackBuffer (s : State) : Tab 12 (Option Nat) :=
  s.channels.map fun c => if channelUsable c then c.stroke else none

/-- The targets of stage 6 in FALLBACK. -/
def fillFallback (s : State) : State :=
  if s.loader.state = .fallback then { s with engine := { s.engine with buffer := fallbackBuffer s } } else s

/-! ## The pass (R46, R47) -/

/-- The opening (R47): the timer restarts, the buffer is emptied, the readings are taken, and every loop is still to
be read. The values are taken before the scanner makes the check of probe M, so a flag that this reading sets or clears
supplies M so from the next reading on (R44 does not say; DESIGN CHOICE, assumption 39). -/
def openVisit (s : State) : State :=
  let o := openPass s
  takeReading { s with engine := { s.engine with
    timer := some 30000
    buffer := Tab.fill 12 none
    visit := some ⟨o, .read (List.finRange 12) []⟩ } }

/-- A pass in progress comes to another stage. -/
def setStage (s : State) (o : Opening) (stage : PassStage) : State :=
  { s with engine := { s.engine with visit := some ⟨o, stage⟩ } }

/-- Stage 3 (R62, R63, R88), once every loop has been read. -/
def stageThree (s : State) (o : Opening) (readings : List LoopReading) : State :=
  let sh := shareOf s o readings
  setStage (bypassShort s sh) o (.allocate (grantOf s readings sh) readings)

/-- The end of stage 6: in FALLBACK the buffer is filled; the pass then waits for its close with its results. -/
def endStages (s : State) (work : PassResult) : State :=
  fillFallback { s with engine := { s.engine with visit := none, work := some work } }

/-- The next step of a pass in progress, each an event of its own, so that other events may fall before and after it (R32,
R49, R75): a loop's stages 1 and 2 as it stands now, stage 3, a loop's stage 4, its stages 5 and 6, the end of the stages.
Stages 4 to 6 are made loop by loop, and q_alloc and scaled flag of a loop together (DEDUCED, assumption 45). -/
def passStep (s : State) : State :=
  match s.engine.visit with
  | none => s
  | some ⟨o, .read (n :: todo) readings⟩ => setStage (stageOne o s n) o (.read todo (readings ++ readingOf s n))
  | some ⟨o, .read [] readings⟩ => stageThree s o readings
  | some ⟨o, .allocate g (r :: todo)⟩ => setStage (allocateLoop g s r) o (.target g r todo)
  | some ⟨o, .target g r todo⟩ => setStage (targetLoop o s r) o (.allocate g todo)
  | some ⟨_, .allocate g []⟩ => endStages s g.work

/-- The next `k` steps; a pass that has ended its stages makes none. -/
abbrev passSteps : Nat → State → State := times passStep

/-- As many steps as a stage leaves at most until the end of the stages. -/
def stageSteps : PassStage → Nat
  | .read todo readings => 3 * todo.length + 2 * readings.length + 2
  | .allocate _ todo => 2 * todo.length + 1
  | .target _ _ todo => 2 * todo.length + 2

/-- The steps that a pass in progress has still to make, at most. -/
def stepsLeft (s : State) : Nat :=
  match s.engine.visit with
  | some v => stageSteps v.stage
  | none => 0

/-- A pass begins (R46, R47): its opening and its first piece, which may be none of its steps or all of them (R32, R49, R75;
DESIGN CHOICE, assumption 12). A trim update in progress, which is of the pass before, is
made to its end first, since it acts on this pass (R107; DEDUCED, assumption 12). -/
def beginPass (s : State) : State := freePiece passStep (openVisit (elapse (passLeft s) (finishTrim s)))

/-- A pass may begin: the timer runs and no pass is in progress, since a pass ends before the next expiry
(DEDUCED, assumption 30). -/
def passMayBegin (s : State) : Bool := s.engine.timer.isSome && s.engine.visit.isNone && s.engine.work.isNone

/-- PASS_TIMER_EXPIRY (R46). -/
def execPassTimerExpiry (s : State) : Host.Outcome State Fault Refusal :=
  .next (if passMayBegin s then beginPass s else s)

/-- PROBE_HOLD_EXPIRY (R41): a HELD channel's hold count reaches 10. Only a pass reading raises the count, so the row
brings about the pass whose reading is that channel's tenth: the reading still supplies the held value, and the channel
then enters FAILED (DEDUCED, assumption 25). -/
def execProbeHoldExpiry (n : Fin 14) (s : State) : Host.Outcome State Fault Refusal :=
  let p := s.scanner.probes.get n
  .next (if p.state = .held ∧ 9 ≤ p.holdCount ∧ passMayBegin s then beginPass s else s)

/-! ## The swap (R71, R72) -/

/-- A slot of the target buffer meets its channel (R71): a target for a usable channel becomes its live target,
lowered to the stroke; any other leaves the channel as it is. -/
def swapChannel (s : State) (n : Fin 12) : State :=
  let c := s.channels.get n
  match s.engine.buffer.get n, c.stroke with
  | some t, some stroke => if channelUsable c then takeTarget s n (min t stroke) else s
  | _, _ => s

/-- The channels that the swap has left IDLE with a different live target beyond the deadband (R112). -/
def swapRequests (before after : State) : List (Fin 12) :=
  (List.finRange 12).filter fun n =>
    let c := after.channels.get n
    c.state == .idle && (aim c).isSome && c.live != (before.channels.get n).live

/-- The requests of one swap, taken in an order the manual leaves open (R134; DESIGN CHOICE, assumption 4). -/
def takeRequests (s : State) (requests : List (Fin 12)) : State :=
  match requests with
  | [] => s
  | [n] => requestMove s n
  | ns => (freeOrder s.draws ns).foldl requestMove (drawn s)

/-- The buffer emptied. -/
def emptyBuffer (s : State) : State := { s with engine := { s.engine with buffer := Tab.fill 12 none } }

/-- The swap: all channels together, then the move requests. -/
def swapTargets (s : State) : State :=
  let s1 := (List.finRange 12).foldl swapChannel s
  takeRequests (emptyBuffer s1) (swapRequests s s1)

/-- The swap decision at the close (R71, R72): the swap, or in DEFROST the buffer discarded. In FALLBACK the buffer is
taken from the channels as they stand now (R70). -/
def closeSwap (s : State) : State :=
  let s1 := fillFallback s
  if effectiveState s1 = .defrost then emptyBuffer s1 else swapTargets s1

end Sys2Proof.Machine
end

