-- ==== Sys2Proof/Machine/Report.lean ====
section
/-! DEFINITION. The STATION report (R90, R153 to R155, section 13.2), the report timing, and the close of the pass,
which hands its results on (R73). -/

namespace Sys2Proof.Machine

open Sys2Proof

/-! ## Contents -/

/-- The core values of a report (R90). -/
def coreOf (s : State) : CoreValues where
  r := s.engine.result.r
  b := s.engine.result.b
  g := s.engine.result.g
  m := s.meter.flow
  calling := s.engine.result.calling
  outOfService := s.engine.result.outOfService
  capable := s.engine.result.capable
  duty := s.engine.result.duty
  fallback := s.loader.state == .fallback
  source := s.engine.sourceSeen

/-- A loop's 20 bits: demand in the upper 10, position in the lower 10; both 0 for an absent loop (R155). -/
def loopBits (s : State) (n : Fin 12) : Nat :=
  if loopPresent s n then s.engine.demands.get n * 1024 + positionShare (s.channels.get n) else 0

/-- Two loops in five bytes. -/
def pairBytes (x y : Nat) : List Byte :=
  let v := x * 1048576 + y
  u8 (v / 4294967296) :: u32 v

/-- The contents of the LOOPS section. -/
def loopsContent (s : State) : List Byte :=
  ([0, 2, 4, 6, 8, 10] : List (Fin 12)).flatMap fun n => pairBytes (loopBits s n) (loopBits s (n + 1))

/-- The status word: bit k−1 for kind k. -/
def statusWord (s : State) : Nat :=
  setWord ((List.finRange 16).filter fun k => (s.recorder.kinds.get k).status)

/-- The contents of the FAULTS section. -/
def faultsContent (s : State) : List Byte := u16 (statusWord s) ++ [pointerByte s.recorder.pointer]

/-- One program in the DRYOUT section. -/
def programBytes (s : State) (p : Prog) : List Byte :=
  let i := instanceOf s p
  [u8 (dryStateCode i.state * 16 + if (programDef s p).isSome then 1 else 0), u8 (i.step.getD 0), u8 i.hours,
   u8 (i.part.secs / 60)] ++ u16 (setWord i.members)

/-- The contents of the TRIM section. -/
def trimContent (s : State) : List Byte := u16 s.valves.trim ++ u16 s.valves.lastP ++ u32 s.meter.total

/-- A section: kind, length, contents. -/
def sectionBytes (kind : Nat) (content : List Byte) : List Byte := u8 kind :: u8 content.length :: content

/-- The section the rotation names. -/
def rotationSection (s : State) : List Byte :=
  match s.bus.rotation with
  | .faults => sectionBytes 2 (faultsContent s)
  | .dryout => sectionBytes 3 (programBytes s .one ++ programBytes s .two)
  | .trim => sectionBytes 4 (trimContent s)

/-- The content of a STATION report (R155). -/
def reportContent (s : State) : List Byte :=
  coreBytes (coreOf s) ++ sectionBytes 1 (loopsContent s) ++ rotationSection s ++ [0]

/-! ## Timing (R153, R154) -/

/-- The section rotation advances by one. -/
def nextRotation : Rotation → Rotation
  | .faults => .dryout
  | .dryout => .trim
  | .trim => .faults

/-- A STATION report is built and placed in the report slot (R153): last reported R and time of last report set, an
extra report that is due cleared, the rotation advanced. -/
def sendReport (s : State) : State :=
  let s1 := placeFrame s .report ⟨3, ownAddress s, reportContent s⟩
  { s1 with bus := { s1.bus with
      lastR := s.engine.result.r
      lastReportAt := some s.now
      extraDue := none
      rotation := nextRotation s.bus.rotation } }

/-- REGULAR_REPORT (R153): the report timer expires, the report is built and the timer restarts at 20 s. -/
def execRegularReport (s : State) : Host.Outcome State Fault Refusal :=
  .next (if s.bus.reportTimer.isSome then
      let s1 := elapse (reportLeft s) s
      let s2 := sendReport s1
      { s2 with bus := { s2.bus with reportTimer := some 20000 } }
    else s)

/-- EXTRA_REPORT_DUE (R154): the due time of a deferred extra report arrives. -/
def execExtraReportDue (s : State) : Host.Outcome State Fault Refusal :=
  .next (if s.bus.extraDue.isSome then sendReport (elapse (extraLeft s) s) else s)

/-- An extra report is called for (R154): R differs from the last reported R by more than a sixteenth of it. -/
def extraCalled (s : State) : Bool :=
  decide (s.bus.lastR / 16 < ((s.engine.result.r : Int) - s.bus.lastR).natAbs)

/-- The comparison at the end of each pass (R154): built at once when the last report is 5 s old or more, else due
5 s after it; a due time already set is not moved. Before any report it is built at once (DEDUCED, assumption 22). -/
def extraReport (s : State) : State :=
  if extraCalled s then
    match s.bus.lastReportAt with
    | none => sendReport s
    | some t =>
      if t + 5000 ≤ s.now then sendReport s
      else { s with bus := { s.bus with extraDue := some (s.bus.extraDue.getD (t + 5000)) } }
  else s

/-! ## The close of the pass (R71 to R73) -/

/-- The engine hands its results on (R73): they stand until the next pass replaces them. -/
def handResults (s : State) (work : PassResult) (source : SourceState) : State :=
  { s with engine := { s.engine with
      work := none
      result := work
      demands := Tab.tabulate fun n => (s.engine.loops.get n).reported
      sourceSeen := source } }

/-- The close: the swap or the discard, then the results handed on, which begins the trim update (R73, R103). A free number
of its steps comes before the comparison of R154 (DESIGN CHOICE, assumption 23), and a free number follows within the
close; those that are left stand over, so that events fall between them (R108; DESIGN CHOICE, assumption 12). -/
def closePass (s : State) (work : PassResult) : State :=
  freePiece trimStep (extraReport (freePiece trimStep (beginTrim (handResults (closeSwap s) work (effectiveState s)))))

/-- PASS_CLOSE (R71). A pass that is still in its stages makes the rest of them first, since a pass closes after its stages
(R47). -/
def execPassClose (s : State) : Host.Outcome State Fault Refusal :=
  let s1 := passSteps (stepsLeft s) s
  .next (match s1.engine.work with
    | some work => closePass s1 work
    | none => s1)

end Sys2Proof.Machine
end

