-- ==== Sys2Proof/Machine/Chains.lean ====
section
/-! DEFINITION. The loop table (chapter 1): attach checks, base switch, push, withdrawal, mode notices, the boost
timer. -/

namespace Sys2Proof.Machine

open Sys2Proof

/-- What asks for a change of a chain. -/
inductive Change where
  | baseSwitch
  | boostPush
  | dryPush (p : Prog)
deriving DecidableEq, Repr

/-- Check 2 of R8: the kind fits the position and the requester. -/
def kindFits (change : Change) (kind : ProfileKind) : Bool :=
  match change with
  | .baseSwitch => baseKind kind
  | .boostPush => kind == .boost
  | .dryPush _ => kind == .dryout

/-- Check 3 of R8: overrides are allowed where the entry will stand. -/
def overridesFit (s : State) (chain : List Entry) (change : Change) (profile : Profile) : Bool :=
  match change with
  | .baseSwitch => decide (chain.length ≤ 1) || profile.overrides
  | .boostPush | .dryPush _ => (activeProfile s chain).overrides

/-- Check 4 of R8: depth after the change is at most 3. -/
def depthFits (chain : List Entry) (change : Change) : Bool :=
  match change with
  | .baseSwitch => true
  | .boostPush | .dryPush _ => decide (chain.length ≤ 2)

/-- Check 5 of R8: the pushing program is usable and the profile is its own. -/
def programFits (s : State) (change : Change) (profile : Profile) : Bool :=
  match change with
  | .baseSwitch | .boostPush => true
  | .dryPush p => profile.program == some p && (programDef s p).isSome

/-- The attach checks (R8), in order: the field code of the first that fails. -/
def attachCheck (s : State) (chain : List Entry) (change : Change) (number : Fin 16) : Option Nat :=
  match profileAt s number with
  | none => some 1
  | some profile =>
    if !kindFits change profile.kind then some 2
    else if !overridesFit s chain change profile then some 3
    else if !depthFits chain change then some 4
    else if !programFits s change profile then some 5
    else none

/-- PROFILE_REFUSED (R9); the origin is FRAME when the change carries the received frame. -/
def refuseProfile (s : State) (n : Fin 12) (code : Nat) (number : Fin 16) (frame : Option Frame) : State :=
  report s ⟨.profileRefused, n.val + 1, code, number.val, frame⟩

/-- A base switch (R10). -/
def baseSwitch (s : State) (n : Fin 12) (number : Fin 16) (frame : Option Frame) : State :=
  match s.loops.get n with
  | none => s
  | some l =>
    match l.chain with
    | [] => s
    | bottom :: above =>
      if bottom.profile = number then s
      else
        match attachCheck s l.chain .baseSwitch number with
        | some code => refuseProfile s n code number frame
        | none =>
          setLoop s n { l with
            chain := { bottom with profile := number } :: above
            stale := l.stale || above.isEmpty }

/-- The owner a push gives its entry (R11). -/
def changeOwner : Change → Owner
  | .baseSwitch => .base
  | .boostPush => .boost
  | .dryPush p => .dryout p

/-- The boost timer's start: 60 min, in ms (R15). -/
def boostStart : Nat := 3600000

/-- A push (R11), and whether it was taken. A boost push that is taken starts the boost timer. -/
def push (s : State) (n : Fin 12) (change : Change) (number : Fin 16) (frame : Option Frame) : State × Bool :=
  match s.loops.get n with
  | none => (s, false)
  | some l =>
    match attachCheck s l.chain change number with
    | some code => (refuseProfile s n code number frame, false)
    | none =>
      (setLoop s n { l with
        chain := l.chain ++ [⟨number, changeOwner change⟩]
        stale := true
        boost := if change = .boostPush then some boostStart else l.boost }, true)

/-- The entry of an owner is the top of the chain. -/
def ownsTop (chain : List Entry) (owner : Owner) : Bool :=
  match chain.getLast? with
  | some e => e.owner == owner
  | none => false

/-- A chain after a withdrawal (R12): the entry of the owner is removed wherever it stands above the bottom; an entry
that stood above it now links to the one below. -/
def withoutOwner : List Entry → Owner → List Entry
  | [], _ => []
  | bottom :: above, owner => bottom :: above.filter fun e => e.owner != owner

/-- A withdrawal (R12). It sets the history-stale flag when the entry was the top, and one of owner BOOST stops the
boost timer whether or not an entry was found. -/
def withdraw (s : State) (n : Fin 12) (owner : Owner) : State :=
  match s.loops.get n with
  | none => s
  | some l =>
    setLoop s n { l with
      chain := withoutOwner l.chain owner
      stale := l.stale || (ownsTop l.chain owner && decide (1 < l.chain.length))
      boost := if owner = .boost then none else l.boost }

/-- The mode map's entry for a mode other than BOOST, and the boost entry for BOOST. -/
def modeEntry (i : LoopInfo) : RoomMode → Fin 16
  | .comfort => i.comfort
  | .eco => i.eco
  | .away => i.away
  | .off => i.off
  | .boost => i.boostEntry

/-- The changes that a mode notice asks for on each loop of its room (R14): by the pair of modes, the withdrawal before the
base switch. -/
def noticeChanges (notice : Notice) : List NoticeChange :=
  if notice.after = .boost then [.push] else if notice.before = .boost then [.withdraw, .switch] else [.switch]

/-- The changes of a mode notice on the present loops of its room, in loop-number order (R14). -/
def noticeTodo (s : State) (notice : Notice) : List (Fin 12 × NoticeChange) :=
  ((List.finRange 12).filter fun n => (s.loops.get n).any fun l => l.info.room == notice.room).flatMap fun n =>
    (noticeChanges notice).map fun c => (n, c)

/-- One change of a mode notice: one event at the loop table (R7, R14). -/
def noticeChange (notice : Notice) (s : State) (x : Fin 12 × NoticeChange) : State :=
  match s.loops.get x.1 with
  | none => s
  | some l =>
    match x.2 with
    | .push => (push s x.1 .boostPush l.info.boostEntry (some notice.frame)).1
    | .withdraw => withdraw s x.1 .boost
    | .switch => baseSwitch s x.1 (modeEntry l.info notice.after) (some notice.frame)

/-- The changes that a notice has still to make; with none left it has been carried out. -/
def setVisiting (s : State) (notice : Notice) (todo : List (Fin 12 × NoticeChange)) : State :=
  { s with visiting := if todo.isEmpty then none else some ⟨notice, todo⟩ }

/-- The next change of the mode notice in progress. -/
def noticeStep (s : State) : State :=
  match s.visiting with
  | none => s
  | some ⟨_, []⟩ => { s with visiting := none }
  | some ⟨notice, x :: todo⟩ => setVisiting (noticeChange notice s x) notice todo

/-- The changes that a mode notice in progress has still to make, at most. -/
def noticeLeft (s : State) : Nat :=
  match s.visiting with
  | some v => v.todo.length + 1
  | none => 0

/-- The mode notice in progress is carried out to its end. -/
def finishNotice (s : State) : State := times noticeStep (noticeLeft s) s

/-- A mode notice reaches the loop table. -/
def beginNotice (s : State) (notice : Notice) : State := setVisiting s notice (noticeTodo s notice)

/-- MODE_NOTICE (R14, R29): the oldest notice is taken, once the one before it has been carried out whole, and makes a free
number of its changes; the others follow as the station's own work, and a warm reset ends them (R18; assumption 12). -/
def execModeNotice (s : State) : Host.Outcome State Fault Refusal :=
  .next (match s.rooms.notices with
    | [] => s
    | notice :: later =>
      let s1 := finishNotice { s with rooms := { s.rooms with notices := later } }
      freePiece noticeStep (beginNotice s1 notice))

/-- BOOST_TIMER_EXPIRY (R16): the running timer stops and owner BOOST is withdrawn. -/
def execBoostTimerExpiry (n : Fin 12) (s : State) : Host.Outcome State Fault Refusal :=
  .next (if ((s.loops.get n).bind (·.boost)).isSome then withdraw (elapse (boostLeft s n) s) n .boost else s)

/-! ## Start-up of the chains (R17) -/

/-- A present loop as the loop table first builds it: profile 0 at the bottom, flag set, timer stopped. -/
def freshLoop (info : LoopInfo) : Loop := ⟨info, [⟨0, .base⟩], true, none⟩

/-- The chain of one present loop is switched to its COMFORT entry, with origin INTERNAL. -/
def comfortSwitch (s : State) (n : Fin 12) : State :=
  match s.loops.get n with
  | none => s
  | some l => baseSwitch s n l.info.comfort none

/-- The chains of the present loops are built in loop-number order (R17). -/
def buildChains (s : State) : State := (List.finRange 12).foldl comfortSwitch s

end Sys2Proof.Machine
end

