-- ==== Sys2Proof/Machine/Dryout.lean ====
section
/-! DEFINITION. The dry-out sequencer (chapter 9): starting, stopping, step ends, pausing, and the checks of a start of
the station. -/

namespace Sys2Proof.Machine

open Sys2Proof

/-! ## Operations, step by step (R139, R140, R142, R143) -/

/-- The operation in progress comes to another stage. -/
def setDryStage (s : State) (o : DryOperation) (stage : DryStage) : State :=
  { s with operation := some { o with stage := stage } }

/-- One push of a program's DRYOUT profile (R11, R140); a loop whose push is taken joins the member set. -/
def pushMember (p : Prog) (profile : Fin 16) (s : State) (n : Fin 12) : State :=
  let (s1, taken) := push s n (.dryPush p) profile none
  let i := instanceOf s1 p
  if taken then setInstance s1 p { i with members := i.members ++ [n] } else s1

/-- The result of a start whose loops have been visited (R140): with a member the instance enters RUNNING, or PAUSED, at
step 1; without one it keeps its state, step and hours, and its part hour too, which R140 does not name (DESIGN CHOICE,
assumption 41). -/
def endStart (s : State) (o : DryOperation) (request : Frame) (tried : Bool) : State :=
  let i := instanceOf s o.prog
  if i.members.isEmpty then setDryStage s o (.reply request (.refused tried))
  else
    let st := if effectiveState s = .heating then DryState.running else .paused
    setDryStage (setInstance s o.prog ⟨st, some 1, 0, ⟨0, 0⟩, i.members⟩) o (.reply request .started)

/-- The member set emptied once every member has been visited (R142, R143): the step end is then over, and a stop reports its
abort. -/
def endWithdrawals (s : State) (o : DryOperation) (request : Option Frame) : State :=
  let s1 := setInstance s o.prog { instanceOf s o.prog with members := [] }
  match request with
  | none => { s1 with operation := none }
  | some f => setDryStage s1 o (.abort f)

/-- DRYOUT_ABORTED (R143 to R145). -/
def abortedFault (s : State) (p : Prog) (step : Option Nat) (frame : Option Frame) : FaultEvent :=
  ⟨.dryoutAborted, stationNumber s, progNumber p, ((step.getD 0 : Nat) : Int), frame⟩

/-- The reply of a start or a stop (R146, R158), from the values held as it is built. It replaces a frame that was broken off
and put back in the reply slot meanwhile (R148; DESIGN CHOICE, assumption 48). -/
def dryReply (s : State) (o : DryOperation) (request : Frame) (result : DryResult) : State :=
  match result with
  | .started => sendReply s request 5 (single .ok (u16 (setWord (instanceOf s o.prog).members)))
  | .refused tried => sendReply s request 5 (single .refusedState (if tried then u16 0 else []))
  | .stopped => sendReply s request 6 (single .ok [])

/-- The next step of the operation in progress, each an event of its own, so that other events may fall before and after it
(R139, R142). -/
def dryStep (s : State) : State :=
  match s.operation with
  | none => s
  | some o =>
    match o.stage with
    | .push request profile tried (n :: todo) =>
      setDryStage (pushMember o.prog profile s n) o (.push request profile tried todo)
    | .push request _ tried [] => endStart s o request tried
    | .withdraw request (n :: todo) => setDryStage (withdraw s n (.dryout o.prog)) o (.withdraw request todo)
    | .withdraw request [] => endWithdrawals s o request
    | .abort request =>
      setDryStage (report s (abortedFault s o.prog (instanceOf s o.prog).step (some request))) o (.reply request .stopped)
    | .reply request result => { dryReply s o request result with operation := none }

/-- The steps that the operation in progress has still to make. -/
def dryLeft (s : State) : Nat :=
  match s.operation with
  | none => 0
  | some o =>
    match o.stage with
    | .push _ _ _ todo => todo.length + 2
    | .withdraw none todo => todo.length + 1
    | .withdraw (some _) todo => todo.length + 3
    | .abort _ => 2
    | .reply _ _ => 1

/-- The operation in progress is made to its end. The sequencer takes one operation, and one event, after another (DEDUCED,
assumption 44). -/
def finishDry (s : State) : State := times dryStep (dryLeft s) s

/-- An operation begins, and makes a free number of its steps; the others follow as the station's own work (assumption 12). -/
def beginDry (s : State) (o : DryOperation) : State := freePiece dryStep { s with operation := some o }

/-- The operation in progress is a request's: its reply has still to be placed. -/
def requestOpen (s : State) : Bool :=
  match s.operation with
  | none => false
  | some o =>
    match o.stage with
    | .push _ _ _ _ | .abort _ | .reply _ _ => true
    | .withdraw request _ => request.isSome

/-! ## Hours and step ends (R141, R142) -/

/-- A program enters DONE (R142): the step kept, its hours and part hour at 0 (DEDUCED, assumption 13); the entries are then
withdrawn from the loops of the member set, in loop-number order, and the member set is emptied. -/
def programDone (s : State) (p : Prog) : State :=
  let i := instanceOf s p
  beginDry (setInstance s p { i with state := .done, hours := 0, part := ⟨0, 0⟩ }) ⟨p, i, .withdraw none i.members⟩

/-- The step end (R142), of a sequencer that has no operation in progress. -/
def stepEnd (s : State) (p : Prog) : State :=
  let i := instanceOf s p
  match programDef s p, i.step with
  | some d, some k =>
    if k < d.steps.length then setInstance s p { i with step := some (k + 1), hours := 0, part := ⟨0, 0⟩ }
    else programDone s p
  | _, _ => s

/-- The current step's hours have reached its duration (R142). -/
def stepExhausted (s : State) (p : Prog) : Bool :=
  match currentStep s p with
  | some st => decide (st.hours ≤ (instanceOf s p).hours)
  | none => false

/-- DRYOUT_HOUR (R141): a RUNNING program's part hour reaches 3600 s. A program whose step has ended takes its step
end first, and a program kept RUNNING does not count between a warm reset and the station's start (R139). -/
def execDryoutHour (p : Prog) (s : State) : Host.Outcome State Fault Refusal :=
  let u := finishDry s
  .next (if inServiceStation u ∧ (instanceOf u p).state = .running ∧ stepExhausted u p = false then
      let s1 := elapse (hourLeft u p) u
      let i := instanceOf s1 p
      setInstance s1 p { i with hours := i.hours + 1, part := ⟨0, 0⟩ }
    else s)

/-- DRYOUT_STEP_END (R142). -/
def execDryoutStepEnd (p : Prog) (s : State) : Host.Outcome State Fault Refusal :=
  let u := finishDry s
  .next (if inServiceStation u ∧ (instanceOf u p).state = .running ∧ stepExhausted u p = true then stepEnd u p else s)

/-- A part hour at a pause (R141): a second that has fallen due and was not taken is not counted; one that has begun is
kept (DESIGN CHOICE, assumption 31). -/
def Age.pausedAt (a : Age) : Age := ⟨a.secs, a.ms % 1000⟩

/-- The effective source state leaves HEATING (R141). -/
def pauseProgram (s : State) (p : Prog) : State :=
  let i := instanceOf s p
  if i.state = .running then setInstance s p { i with state := .paused, part := i.part.pausedAt } else s

/-- The effective source state enters HEATING (R141). -/
def resumeProgram (s : State) (p : Prog) : State :=
  let i := instanceOf s p
  if i.state = .paused then setInstance s p { i with state := .running } else s

/-- A step end that fell due at the pause is made as the first event after the return to RUNNING (R142). -/
def lateStepEnd (paused : Bool) (s : State) (p : Prog) : State :=
  if paused && stepExhausted s p then stepEnd (finishDry s) p else s

/-- Both programs, when the effective source state enters HEATING (R141, R142): the change acts on both, and then the step ends
that fell due follow, that of program 1 before that of program 2. -/
def resumePrograms (s : State) : State :=
  let paused (p : Prog) : Bool := (instanceOf s p).state == .paused
  let s1 := resumeProgram (resumeProgram s .one) .two
  lateStepEnd (paused .two) (lateStepEnd (paused .one) s1 .one) .two

/-! ## START_DRYOUT and STOP_DRYOUT (R140, R143) -/

/-- START_DRYOUT for program 1 or 2 (R140), of a sequencer that has no operation in progress: answered at once, or for a usable
program that is not under way its member set emptied and the operation begun. -/
def startProgram (s : State) (p : Prog) (request : Frame) : State :=
  let i := instanceOf s p
  if i.state = .running ∨ i.state = .paused then sendReply s request 5 (single .busy [])
  else
    match programDef s p with
    | none => sendReply s request 5 (single .refusedState [])
    | some d =>
      let visited := d.loops.filter (loopPresent s)
      beginDry (setInstance s p { i with members := [] }) ⟨p, i, .push request d.profile (!visited.isEmpty) visited⟩

/-- STOP_DRYOUT for program 1 or 2 (R143), of a sequencer that has no operation in progress: refused, or the program aborted.
Its step is kept; its hours and part hour, which R143 does not name, stand as they were (DESIGN CHOICE, assumption 37). The
entries are then withdrawn from the loops of the member set, in loop-number order, the member set is emptied, and the abort
is reported. -/
def stopProgram (s : State) (p : Prog) (request : Frame) : State :=
  let i := instanceOf s p
  if i.state = .running ∨ i.state = .paused then
    beginDry (setInstance s p { i with state := .aborted }) ⟨p, i, .withdraw (some request) i.members⟩
  else sendReply s request 6 (single .refusedState [])

/-! ## Start of the station (R139, R144, R145) -/

/-- An instance with an operation of its own abandoned (R139): as it was before the operation began, or, where the operation
had already set the new instance state, as it is, with the member set of before. The step and the hours that the operation
set together with the state stay with it (DEDUCED, assumption 47). -/
def abandonedInstance (s : State) (p : Prog) : DryInstance :=
  let i := instanceOf s p
  match s.operation with
  | none => i
  | some o =>
    if o.prog ≠ p then i
    else if i.state = o.before.state then o.before
    else { i with members := o.before.members }

/-- An instance across a warm reset (R139): an operation in progress is abandoned, the part hour returns to 0 s, and DONE and
ABORTED keep no members. -/
def keptInstance (s : State) (p : Prog) : DryInstance :=
  let i := abandonedInstance s p
  { i with
    part := ⟨0, 0⟩
    members := if i.state = .done ∨ i.state = .aborted then [] else i.members }

/-- A kept RUNNING program ends in ABORTED at a start (R144, R145). -/
def abortAtStart (s : State) (p : Prog) : State :=
  let i := instanceOf s p
  report (setInstance s p { i with state := .aborted, members := [] }) (abortedFault s p i.step none)

/-- The re-push of a program's kept members (R145). The kept step that an abort reports is the step at which the program
stands when it is re-pushed, after the step ends of R144 (DESIGN CHOICE, assumption 38). -/
def repush (s : State) (p : Prog) (d : ProgramDef) : State :=
  let i := instanceOf s p
  let s1 := (i.members.filter (loopPresent s)).foldl (pushMember p d.profile) (setInstance s p { i with members := [] })
  if (instanceOf s1 p).members.isEmpty then abortAtStart s1 p else s1

/-- The step ends of a kept program whose hours have reached its step's duration, made at once (R144): the step
advances, or the program is DONE without a withdrawal, since the chains were rebuilt without its entries. -/
def advanceKept : Nat → List DryStep → DryInstance → DryInstance
  | 0, _, i => i
  | fuel + 1, steps, i =>
    match i.step with
    | none => i
    | some k =>
      match steps[k - 1]? with
      | none => i
      | some st =>
        if st.hours ≤ i.hours then
          if k < steps.length then
            advanceKept fuel steps { i with step := some (k + 1), hours := 0, part := ⟨0, 0⟩ }
          else { i with state := .done, hours := 0, part := ⟨0, 0⟩, members := [] }
        else i

/-- A kept PAUSED instance becomes RUNNING at the start (R139). -/
def awake (i : DryInstance) : DryInstance := if i.state = .paused then { i with state := .running } else i

/-- A kept RUNNING program is checked against the new definition (R144) and re-pushed (R145). Where its step lies beyond
the new table, only step and member set change (R139). -/
def checkKept (s : State) (p : Prog) : State :=
  let i := instanceOf s p
  if i.state ≠ .running then s
  else
    match programDef s p with
    | none => abortAtStart s p
    | some d =>
      if d.steps.length < i.step.getD 0 then
        setInstance s p { i with state := .done, step := some d.steps.length, members := [] }
      else
        let i1 := advanceKept 33 d.steps i
        let s1 := setInstance s p i1
        if i1.state = .running then repush s1 p d else s1

/-- A program instance at the station's start (R139, R144, R145); program 1 is taken whole before program 2
(DEDUCED, assumption 29). -/
def restartProgram (s : State) (p : Prog) : State := checkKept (setInstance s p (awake (instanceOf s p))) p

end Sys2Proof.Machine
end

