-- ==== Sys2Proof/Machine/Image.lean ====
section
/-! DEFINITION. The configuration image (R167, R168, R174, section 13.4): the checks of the image as a whole, the
sections and records, the judgement of each record, and what a load hands to the blocks. Image fields are `Nat`s; the
one signed field, the setpoint value, is read as two's complement. -/

namespace Sys2Proof.Machine

open Sys2Proof

/-! ## The image as a whole (R167) -/

/-- A section: its code and its words after the two that open it. A section's length is taken as the number of those
words (DESIGN CHOICE, assumption 7, unsafe). -/
structure ImageSection where
  code : Nat
  words : List Nat
deriving DecidableEq, Repr

/-- The sections of the words between the header and the check word; `none` when a section length runs past them, be
it only onto the check word itself (R167: "past the check word"; DESIGN CHOICE, assumption 7). Each section takes at
least two words, so `fuel` words bound the sections. -/
def splitSections : Nat → List Nat → Option (List ImageSection)
  | _, [] => some []
  | 0, _ => none
  | _, [_] => none
  | fuel + 1, code :: length :: rest =>
    if rest.length < length then none
    else (splitSections fuel (rest.drop length)).map fun later => ⟨code, rest.take length⟩ :: later

/-- The words between the header and the check word. -/
def imageBody (image : List Nat) : List Nat := (image.drop 2).dropLast

/-- The sections of an image; an image without room for a check word after its header has none (DESIGN CHOICE,
assumption 7). -/
def imageSections (image : List Nat) : Option (List ImageSection) :=
  if image.length < 3 then none else splitSections image.length (imageBody image)

/-- What the load finds at the memory. -/
structure ImageCheck where
  status : ImageStatus
  length : Option Nat
  image : List Word16
deriving DecidableEq, Repr

/-- The whole-image checks, in order (R167). The words are kept only when all pass. -/
def checkImage (memory : Option (List Word16)) : ImageCheck :=
  match memory with
  | some (format :: length :: rest) =>
    let image := (format :: length :: rest).take length.toNat
    let words := image.map BitVec.toNat
    if image.length < length.toNat then ⟨.missing, some length.toNat, []⟩
    else if words.sum % 65536 ≠ 65535 ∨ (imageSections words).isNone then ⟨.badSum, some length.toNat, []⟩
    else if format.toNat ≠ 1 then ⟨.badFormat, some length.toNat, []⟩
    else ⟨.ok, some length.toNat, image⟩
  | _ => ⟨.missing, none, []⟩

/-! ## Records -/

/-- A record: its number and the fields it holds, fewer than its layout when the section cuts it short. -/
structure ImageRecord where
  number : Nat
  fields : List Nat
deriving DecidableEq, Repr

/-- The number of fields of a record (section 13.4). A program record's depends on its third field; the words that its
step count announces belong to it whatever the count (DESIGN CHOICE, assumption 8). -/
def recordWidth (code : Nat) (fields : List Nat) : Nat :=
  match code with
  | 1 => 6
  | 2 => 2
  | 3 => 3
  | 4 => 10
  | 5 => 12
  | 6 => 3 + 2 * fields.getD 2 0
  | 7 => 15
  | 8 => 2
  | _ => 0

/-- The records of a section; each takes at least one word, so `fuel` words bound them. -/
def splitRecords (code : Nat) : Nat → List Nat → List ImageRecord
  | _, [] => []
  | 0, _ => []
  | fuel + 1, number :: rest =>
    let width := recordWidth code rest
    ⟨number, rest.take width⟩ :: splitRecords code fuel (rest.drop width)

/-- The records of every section of a code, in the order read (R174). -/
def recordsOf (sections : List ImageSection) (code : Nat) : List ImageRecord :=
  sections.flatMap fun sec => if sec.code = code then splitRecords code sec.words.length sec.words else []

/-- The record numbers of a section code (R168): lowest and highest. -/
def numberRange (code : Nat) : Nat × Nat :=
  match code with
  | 2 => (1, 16)
  | 3 => (1, 4)
  | 4 => (1, 15)
  | 5 => (1, 4)
  | 6 => (1, 2)
  | 7 => (1, 12)
  | _ => (0, 0)

/-- The record number lies in its section's range. -/
def numberOk (code number : Nat) : Bool :=
  decide ((numberRange code).1 ≤ number) && decide (number ≤ (numberRange code).2)

/-- CONFIG_FAULT (R168). -/
def configFault (item first second : Nat) : FaultEvent := ⟨.configFault, item, first, second, none⟩

/-- The records that stand (R174): number in range and not read before. -/
def standing (code : Nat) : List Nat → List ImageRecord → List ImageRecord
  | _, [] => []
  | seen, r :: rest =>
    if numberOk code r.number ∧ !seen.contains r.number then r :: standing code (r.number :: seen) rest
    else standing code seen rest

/-- The faults of the records that do not stand (R174): item 0 for a number out of range, else the repeated number. -/
def numberFaults (code : Nat) : List Nat → List ImageRecord → List FaultEvent
  | _, [] => []
  | seen, r :: rest =>
    if !numberOk code r.number then configFault 0 code 0 :: numberFaults code seen rest
    else if seen.contains r.number then configFault r.number code 0 :: numberFaults code seen rest
    else numberFaults code (r.number :: seen) rest

/-- The standing record of a number. -/
def recordAt (records : List ImageRecord) (number : Nat) : Option ImageRecord :=
  records.find? fun r => r.number == number

/-- The faults of one section code: those of its numbers first, then each standing record's first failing field, in
the order the records stand (R168, R174; DESIGN CHOICE, assumption 8). -/
def sectionFaults (code : Nat) (judge : ImageRecord → Option Nat) (records : List ImageRecord) : List FaultEvent :=
  numberFaults code [] records ++
  (standing code [] records).filterMap fun r => (judge r).map fun field => configFault r.number code field

/-! ## Judging fields -/

/-- A field check: the value lies in a range. -/
def within (low high value : Nat) : Bool := decide (low ≤ value) && decide (value ≤ high)

/-- The first field that fails its check or is lacking, fields counted from `at_`. -/
def firstFailing : Nat → List (Nat → Bool) → List Nat → Option Nat
  | _, [], _ => none
  | at_, _ :: _, [] => some at_
  | at_, check :: checks, v :: values => if check v then firstFailing (at_ + 1) checks values else some at_

/-- The value of field `k`, counted from 1. -/
def field (fields : List Nat) (k : Nat) : Nat := fields.getD (k - 1) 0

/-- A field read as signed two's complement. -/
def signedField (value : Nat) : Int := (BitVec.ofNat 16 value).toInt

/-! ### Section 1: station-wide values -/

/-- The station-wide values of section 1. -/
structure StationValues where
  kp : Nat
  ki : Nat
  countTime : Nat
  fallbackSrc : Nat
  fallbackMin : Nat
  enable : Bool
deriving DecidableEq, Repr

/-- A field of section 1 when it is held and in range, else its substitute. -/
def orElse (fields : List Nat) (k low high substitute : Nat) : Nat :=
  match fields[k - 1]? with
  | some v => if within low high v then v else substitute
  | none => substitute

/-- The values taken from the record's fields, each failing one with its substitute (R168). -/
def stationValues (fields : List Nat) : StationValues :=
  let src := orElse fields 4 0 60000 0
  let low := orElse fields 5 0 60000 0
  { kp := orElse fields 1 0 1000 250
    ki := orElse fields 2 0 100 5
    countTime := orElse fields 3 5 100 100
    fallbackSrc := if src < low then 0 else src
    fallbackMin := if src < low then 0 else low
    enable := orElse fields 6 0 1 1 == 1 }

/-- The first failing field of section 1's record; a fallback F_min above the F_src taken fails as field 5
(DEDUCED, assumption 16). -/
def judgeStation (r : ImageRecord) : Option Nat :=
  let src := orElse r.fields 4 0 60000 0
  firstFailing 1
    [within 0 1000, within 0 100, within 5 100, within 0 60000, fun v => within 0 60000 v && decide (v ≤ src),
     within 0 1] r.fields

/-! ### Sections 2 and 3: fault kinds and alert slots -/

/-- Section 2. -/
def judgeKind (r : ImageRecord) : Option Nat := firstFailing 1 [within 0 1, within 0 2] r.fields

/-- The severity of a code. -/
def severityOf (code : Nat) : Severity :=
  match code with
  | 0 => .advisory
  | 1 => .degraded
  | _ => .serious

/-- Section 3. -/
def judgeSlot (r : ImageRecord) : Option Nat := firstFailing 1 [within 0 65535, within 0 255, within 0 1] r.fields

/-! ### Section 4: profiles (R3) -/

/-- The setpoint value lies in the range of its mode (section 1.2). -/
def setpointOk (mode value : Nat) : Bool :=
  let z := signedField value
  if mode = 0 then decide (-1000 ≤ z) && decide (z ≤ 500) else decide (500 ≤ z) && decide (z ≤ 3000)

/-- The program number is carried by a DRYOUT profile and by no other (R3). -/
def programFieldOk (kind value : Nat) : Bool := if kind = 5 then within 1 2 value else value == 0

/-- Section 4. -/
def judgeProfile (r : ImageRecord) : Option Nat :=
  firstFailing 1
    [within 0 5, within 0 1, setpointOk (field r.fields 2), within 0 1000, fun v => v == 0 || within 100 1500 v,
     within 2000 3500, within 0 1000, within 0 2, within 0 1, programFieldOk (field r.fields 1)] r.fields

/-- The profile kind of a code. -/
def profileKindOf (code : Nat) : ProfileKind :=
  match code with
  | 0 => .normal
  | 1 => .setback
  | 2 => .frost
  | 3 => .off
  | 4 => .boost
  | _ => .dryout

/-- The park mode of a code. -/
def parkOf (code : Nat) : ParkMode :=
  match code with
  | 0 => .hold
  | 1 => .close
  | _ => .park

/-- A defined profile. A DRYOUT profile never allows overrides (R5). -/
def profileFrom (fields : List Nat) : Profile where
  kind := profileKindOf (field fields 1)
  mode := if field fields 2 = 0 then .offset else .absolute
  setpoint := signedField (field fields 3)
  fixedDemand := field fields 4
  dropOverride := if field fields 5 = 0 then none else some (field fields 5)
  floorMax := field fields 6
  seed := field fields 7
  park := parkOf (field fields 8)
  overrides := field fields 9 == 1 && field fields 1 != 5
  program := progOfNumber (field fields 10)

/-! ### Section 5: valve tables (R93) -/

/-- The checks of F_1 to F_9, each above the fraction before it. -/
def risingChecks (fields : List Nat) : List (Nat → Bool) :=
  [2, 3, 4, 5, 6, 7, 8, 9, 10].map fun k v => within 0 1000 v && decide (field fields (k - 1) < v)

/-- Section 5. -/
def judgeTable (r : ImageRecord) : Option Nat :=
  firstFailing 1
    ((fun v => v == 0) :: risingChecks r.fields ++
      [fun v => v == 1000 && decide (field r.fields 10 < v), within 10 200]) r.fields

/-- A table the image holds. A fraction or minimum opening that a cut record lacks is held as 65535
(DESIGN CHOICE, assumption 8). -/
def tableFrom (r : ImageRecord) : ValveTable where
  valid := (judgeTable r).isNone
  fractions := (List.range 11).map fun k => r.fields.getD k 65535
  minOpening := r.fields.getD 11 65535

/-! ### Section 6: dry-out programs (R138) -/

/-- The profile field names a defined DRYOUT profile of the program's own number. -/
def dryProfileOk (profiles : Tab 15 (Option Profile)) (program value : Nat) : Bool :=
  if h : 1 ≤ value ∧ value ≤ 15 then
    match profiles.get ⟨value - 1, by omega⟩ with
    | some p => p.kind == .dryout && p.program == progOfNumber program && p.program.isSome
    | none => false
  else false

/-- The checks of `s` steps: demand, then duration. -/
def stepChecks (s : Nat) : List (Nat → Bool) := (List.range s).flatMap fun _ => [within 0 1000, within 1 240]

/-- Section 6. -/
def judgeProgram (profiles : Tab 15 (Option Profile)) (r : ImageRecord) : Option Nat :=
  firstFailing 1
    ([dryProfileOk profiles r.number, within 1 4095, within 1 32] ++ stepChecks (min 32 (field r.fields 3))) r.fields

/-- The steps of a program's fields after the third. -/
def stepsFrom : List Nat → List DryStep
  | demand :: hours :: rest => ⟨demand, hours⟩ :: stepsFrom rest
  | _ => []

/-- A profile number; numbers that reach it are 0 to 15. -/
def profileNumber (value : Nat) : Fin 16 := ⟨value % 16, Nat.mod_lt _ (by decide)⟩

/-- The loops of a set word, in loop-number order. -/
def loopsOf (set : Nat) : List (Fin 12) := (List.finRange 12).filter fun n => set.testBit n.val

/-- A usable program. -/
def programFrom (fields : List Nat) : ProgramDef :=
  ⟨profileNumber (field fields 1), loopsOf (field fields 2), stepsFrom (fields.drop 3)⟩

/-! ### Section 7: loop records (R1) -/

/-- Section 7. The other fields of a record marked not present are not judged, so it does not fail when it is cut short
after the first (DEDUCED, assumption 15). -/
def judgeLoop (r : ImageRecord) : Option Nat :=
  match r.fields with
  | 0 :: _ => none
  | _ =>
    firstFailing 1
      [within 0 1, within 1 63, within 1 4, within 20 1500, within 100 1500, within 20 4000,
       within (field r.fields 4) 4000, within 0 1000, within 0 1, within 0 15, within 0 15, within 0 15, within 0 15,
       within 0 15, within 200 4000] r.fields

/-- The record of a present loop. -/
def loopFrom (fields : List Nat) : LoopInfo where
  room := field fields 2
  valveType := ⟨(field fields 3 - 1) % 4, Nat.mod_lt _ (by decide)⟩
  qDes := field fields 4
  dropDes := field fields 5
  qFull := field fields 6
  qMax := field fields 7
  commissioning := field fields 8
  bypass := field fields 9 == 1
  comfort := profileNumber (field fields 10)
  eco := profileNumber (field fields 11)
  away := profileNumber (field fields 12)
  off := profileNumber (field fields 13)
  boostEntry := profileNumber (field fields 14)
  expectedStroke := field fields 15

/-! ### Section 8: meter values (R97) -/

/-- Section 8. -/
def judgeMeter (r : ImageRecord) : Option Nat := firstFailing 1 [within 1 1000, within 100 60000] r.fields

/-! ## The load -/

/-- What a load hands to the blocks (R168, R169), and the CONFIG_FAULTs it makes, in order. -/
structure Loaded where
  config : StationConfig
  enable : Bool
  kinds : Tab 16 (Bool × Severity)
  slots : Tab 4 (Word16 × Nat × Bool)
  tables : Tab 4 (Option ValveTable)
  loops : Tab 12 (Option LoopInfo)
  pitch : Option Nat
  maximum : Option Nat
  faults : List FaultEvent
deriving DecidableEq, Repr

/-- The default mask and severity of each kind (Table 11.1). -/
def defaultKinds : Tab 16 (Bool × Severity) :=
  ⟨FaultKind.all.map fun k => (defaultMasked k, defaultSeverity k), rfl⟩

/-- The second value of CONFIG_FAULT for an image that fails as a whole (R167). -/
def imageCause : ImageStatus → Nat
  | .ok => 0
  | .missing => 1
  | .badSum => 2
  | .badFormat => 3

/-- FALLBACK (R169): no record of the image is used. -/
def fallbackLoad (status : ImageStatus) : Loaded where
  config := StationConfig.reset
  enable := true
  kinds := defaultKinds
  slots := Tab.fill 4 (0, 0, false)
  tables := Tab.fill 4 none
  loops := Tab.fill 12 none
  pitch := none
  maximum := none
  faults := [configFault 0 0 (imageCause status)]

/-- A standing record of a number, when it passes its section's judgement. -/
def goodRecord (records : List ImageRecord) (judge : ImageRecord → Option Nat) (number : Nat) : Option ImageRecord :=
  match recordAt records number with
  | some r => if (judge r).isNone then some r else none
  | none => none

/-- The profiles of the standing records (R3). -/
def loadProfiles (records : List ImageRecord) : Tab 15 (Option Profile) :=
  Tab.tabulate fun k => (goodRecord records judgeProfile (k.val + 1)).map fun r => profileFrom r.fields

/-- The kinds' masks and severities (R159). -/
def loadKinds (records : List ImageRecord) : Tab 16 (Bool × Severity) :=
  Tab.tabulate fun k =>
    match goodRecord records judgeKind (k.val + 1) with
    | some r => (field r.fields 1 == 1, severityOf (field r.fields 2))
    | none => defaultKinds.get k

/-- The alert slots (R165). -/
def loadSlots (records : List ImageRecord) : Tab 4 (Word16 × Nat × Bool) :=
  Tab.tabulate fun k =>
    match goodRecord records judgeSlot (k.val + 1) with
    | some r => (BitVec.ofNat 16 (field r.fields 1), field r.fields 2, field r.fields 3 == 1)
    | none => (0, 0, false)

/-- The valve tables (R93). -/
def loadTables (records : List ImageRecord) : Tab 4 (Option ValveTable) :=
  Tab.tabulate fun k => (recordAt records (k.val + 1)).map tableFrom

/-- The loop records (R1). -/
def loadLoops (records : List ImageRecord) : Tab 12 (Option LoopInfo) :=
  Tab.tabulate fun k =>
    match goodRecord records judgeLoop (k.val + 1) with
    | some r => if field r.fields 1 = 1 then some (loopFrom r.fields) else none
    | none => none

/-- A section code that R168 does not know, as it is read (R174). -/
def unknownFault (sec : ImageSection) : Option FaultEvent :=
  if within 1 8 sec.code then none else some (configFault 0 sec.code 0)

/-- The records judged (R168, R174). -/
def judgeSections (sections : List ImageSection) : Loaded :=
  let station := standing 1 [] (recordsOf sections 1)
  let profiles := loadProfiles (standing 4 [] (recordsOf sections 4))
  let programs := standing 6 [] (recordsOf sections 6)
  let values := stationValues ((recordAt station 0).elim [] (·.fields))
  let meter := goodRecord (standing 8 [] (recordsOf sections 8)) judgeMeter 0
  { config :=
      { kp := values.kp
        ki := values.ki
        countTime := values.countTime
        fallbackSrc := values.fallbackSrc
        fallbackMin := values.fallbackMin
        profiles := profiles
        programOne := (goodRecord programs (judgeProgram profiles) 1).map fun r => programFrom r.fields
        programTwo := (goodRecord programs (judgeProgram profiles) 2).map fun r => programFrom r.fields }
    enable := values.enable
    kinds := loadKinds (standing 2 [] (recordsOf sections 2))
    slots := loadSlots (standing 3 [] (recordsOf sections 3))
    tables := loadTables (standing 5 [] (recordsOf sections 5))
    loops := loadLoops (standing 7 [] (recordsOf sections 7))
    pitch := meter.map fun r => field r.fields 1
    maximum := meter.map fun r => field r.fields 2
    faults :=
      sections.filterMap unknownFault ++
      sectionFaults 1 judgeStation (recordsOf sections 1) ++
      sectionFaults 2 judgeKind (recordsOf sections 2) ++
      sectionFaults 3 judgeSlot (recordsOf sections 3) ++
      sectionFaults 4 judgeProfile (recordsOf sections 4) ++
      sectionFaults 5 judgeTable (recordsOf sections 5) ++
      sectionFaults 6 (judgeProgram profiles) (recordsOf sections 6) ++
      sectionFaults 7 judgeLoop (recordsOf sections 7) ++
      sectionFaults 8 judgeMeter (recordsOf sections 8) }

/-- The outcome of a load whose whole-image checks ended in `status` and kept `image`. -/
def loadImage (status : ImageStatus) (image : List Word16) : Loaded :=
  match status with
  | .ok => judgeSections ((imageSections (image.map BitVec.toNat)).getD [])
  | .missing | .badSum | .badFormat => fallbackLoad status

end Sys2Proof.Machine
end

