-- ==== Sys2Proof/Machine/Receive.lean ====
section
/-! DEFINITION. Reception (R149, R150) and the hand-on of the receive queue (R151): which command the head frame
calls for, and the frame taken off the queue. -/

namespace Sys2Proof.Machine

open Sys2Proof

/-- The command that carries out a SERVICE request of a code (R157, section 13.3). -/
def requestCommand (code : Nat) : Instr :=
  match code with
  | 1 => .readLoop
  | 2 => .readFaults
  | 3 => .readPeers
  | 4 => .readTrim
  | 5 => .startDryout
  | 6 => .stopDryout
  | 7 => .recalibrate
  | 8 => .clearFaults
  | 9 => .alertMask
  | 10 => .alertEnable
  | _ => .unknownRequest

/-- The command that hands a frame on (R151): by its kind, or UNUSED_FRAME for a kind that no block uses and for
content shorter than the fixed part of its kind (7 bytes SOURCE, 6 ROOM, 10 STATION, 2 SERVICE; chapter 13). -/
def handOn (f : Frame) : Instr :=
  match f.kind.toNat with
  | 1 => if 7 ≤ f.content.length then .sourceReport else .unusedFrame
  | 2 => if 6 ≤ f.content.length then .roomReport else .unusedFrame
  | 3 => if 10 ≤ f.content.length then .stationReport else .unusedFrame
  | 5 =>
    match f.content with
    | _ :: code :: _ => requestCommand code.toNat
    | _ => .unusedFrame
  | _ => .unusedFrame

/-- A request that is still being carried out is carried out and answered: the next frame is handed on after its reply has
been placed (R151, R156). -/
def answerOpen (s : State) : State := if requestOpen s then finishDry s else s

/-- The head frame, when it is the one that command `c` hands on, and the state with it taken off the queue, once the request
before it has been answered. -/
def takeHead (s : State) (c : Instr) : Option (Frame × State) :=
  match s.bus.rx with
  | f :: rest =>
    let s1 := answerOpen s
    if handOn f = c then some (f, { s1 with bus := { s1.bus with rx := rest } }) else none
  | [] => none

/-- The unused frames counter rises; it stops at 65535 (chapter 10). -/
def countUnused (s : State) : State := { s with bus := { s.bus with unused := bump 65535 s.bus.unused } }

/-- A frame ends on the line (R149, R150): not good, it is discarded, counted and reported; good, it joins the queue,
or is dropped, counted and reported when the queue holds 8. -/
def receive (s : State) (f : RxFrame) : State :=
  if !frameGood f then
    let s1 := { s with bus := { s.bus with frameCheck := bump 65535 s.bus.frameCheck } }
    let carried : Nat := match f.check with
      | some c => c.toNat
      | none => 0
    report s1 ⟨.frameCheck, f.sender.toNat, carried, (checkFormed f).toNat, some (rxToFrame f)⟩
  else if s.bus.rx.length < 8 then { s with bus := { s.bus with rx := s.bus.rx ++ [rxToFrame f] } }
  else
    let n := bump 65535 s.bus.overflow
    let s1 := { s with bus := { s.bus with overflow := n } }
    report s1 ⟨.rxOverflow, f.sender.toNat, f.kind.toNat, n, some (rxToFrame f)⟩

/-- FRAME_RECEIVED (R149; assumption 17). In LOADING the bus interface does not receive (R152, R167). -/
def execFrameReceived (f : RxFrame) (s : State) : Host.Outcome State Fault Refusal :=
  .next (if inServiceStation s then receive s f else s)

/-- UNUSED_FRAME (R151). -/
def execUnusedFrame (s : State) : Host.Outcome State Fault Refusal :=
  .next (match takeHead s .unusedFrame with
    | some (_, s1) => countUnused s1
    | none => s)

end Sys2Proof.Machine
end

