-- ==== Sys2Proof/Machine/Rooms.lean ====
section
/-! DEFINITION. The room table (chapter 2). -/

namespace Sys2Proof.Machine

open Sys2Proof

/-- The record of a room replaced. -/
def putRoom (s : State) (r : Room) : State :=
  { s with rooms := { s.rooms with
      records := s.rooms.records.map fun old => if old.room = r.room then r else old } }

/-- The record after a report has been taken (R24, R25): values stored, the setpoint clamped, the floor temperature
dropped when missing or out of range, age 0 s, state FRESH. -/
def takenRoom (r : Room) (v : RoomFields) (mode : RoomMode) : Room :=
  { r with
    state := .fresh
    age := ⟨0, 0⟩
    temperature := some v.temperature
    setpoint := some (clampInt v.setpoint 500 3000)
    mode := mode
    floor := match v.floor with
      | some f => if -2000 ≤ f ∧ f ≤ 9000 then some f else none
      | none => none }

/-- A ROOM report taken whole (R22 to R25, R29): ignored, refused, or taken, with a mode notice when the mode differs
from the one held. -/
def takeRoomReport (s : State) (f : Frame) : State :=
  let ignored := { s with rooms := { s.rooms with ignored := bump 65535 s.rooms.ignored } }
  let refused := { s with rooms := { s.rooms with refused := bump 65535 s.rooms.refused } }
  match readRoom f.content with
  | none => ignored
  | some v =>
    if f.sender.toNat < 16 ∨ v.room = 0 then ignored
    else
      match roomRecord s v.room, roomModeOf v.mode with
      | none, _ => ignored
      | some _, none => refused
      | some r, some mode =>
        if v.temperature < -2000 ∨ 5000 < v.temperature then refused
        else
          let s1 := putRoom s (takenRoom r v mode)
          if mode = r.mode then s1
          else { s1 with rooms := { s1.rooms with notices := s1.rooms.notices ++ [⟨v.room, r.mode, mode, f⟩] } }

/-- ROOM_REPORT (R25). -/
def execRoomReport (s : State) : Host.Outcome State Fault Refusal :=
  .next (match takeHead s .roomReport with
    | some (f, s1) => takeRoomReport s1 f
    | none => s)

/-- The state of a room's record. -/
def roomStateOf (s : State) (room : Nat) : Option RoomState := (roomRecord s room).map (·.state)

/-- A record takes the step past its limit into the next state (R26). -/
def ageRoom (s : State) (room : Nat) (secs : Nat) (st : RoomState) : State :=
  match roomRecord s room with
  | some r => putRoom s { r with age := ⟨secs, 0⟩, state := st }
  | none => s

/-- ROOM_ENTERS_HELD (R26): a FRESH record's age steps from 300 s to 301 s. -/
def execRoomEntersHeld (room : Nat) (s : State) : Host.Outcome State Fault Refusal :=
  .next (if roomStateOf s room = some .fresh then ageRoom (elapse (roomLeft s room) s) room 301 .held else s)

/-- The lowest-numbered present loop that serves a room, as a fault's item (R27); every record has one
(assumption 32). -/
def roomItem (s : State) (room : Nat) : Nat :=
  match (List.finRange 12).find? fun n =>
      match s.loops.get n with
      | some l => l.info.room == room
      | none => false with
  | some n => n.val + 1
  | none => 0

/-- Entry into ORPHAN, reported as ROOM_STALE (R27). -/
def orphanRoom (s : State) (room : Nat) (fromNever : Bool) : State :=
  report (ageRoom s room 901 .orphan) ⟨.roomStale, roomItem s room, room, if fromNever then 1 else 0, none⟩

/-- ROOM_STALE (R27): a HELD or NEVER record's age steps from 900 s to 901 s. -/
def execRoomStale (room : Nat) (s : State) : Host.Outcome State Fault Refusal :=
  .next (match roomStateOf s room with
    | some .held => orphanRoom (elapse (roomLeft s room) s) room false
    | some .never => orphanRoom (elapse (roomLeft s room) s) room true
    | _ => s)

/-! ## Start (R20) -/

/-- A record at the table's start. -/
def freshRoom (room : Nat) : Room := ⟨room, .never, ⟨0, 0⟩, none, none, .comfort, none⟩

/-- A present loop's room gets a record, if it has none yet. -/
def addRoom (records : List Room) (l : Option Loop) : List Room :=
  match l with
  | none => records
  | some l =>
    if records.any fun r => r.room == l.info.room then records else records ++ [freshRoom l.info.room]

/-- The records, one for each distinct room of the present loops, in loop-number order (R20). -/
def buildRooms (loops : Tab 12 (Option Loop)) : List Room := loops.items.foldl addRoom []

end Sys2Proof.Machine
end

