-- ==== Sys2Proof/Machine/Resets.lean ====
section
/-! DEFINITION. The configuration loader (chapter 12): power-on reset, warm reset, the faults of a load, and the station's
start. A reset reads straps and memory and makes the whole-image checks; the load then reports its faults one by one, and
the start hands the records that were judged good to their blocks and brings these into service (DEDUCED, assumption 9). -/

namespace Sys2Proof.Machine

open Sys2Proof

/-! ## Resets (R167, R171) -/

/-- The loader at the beginning of a load (R167). -/
def beginLoad (straps : BitVec 3) (memory : Option (List Word16)) (warm : Bool) : Loader :=
  let c := checkImage memory
  ⟨.loading, straps.toFin, c.status, c.length, c.image, warm, 0⟩

/-- The state after power-on reset: every block at its power-on value. The feedback pins, the clock, the model's
own counters and the command queue are not the station's memory. -/
def powerOn (straps : BitVec 3) (memory : Option (List Word16)) (s : State) : State :=
  { State.reset with
    loader := beginLoad straps memory false
    phases := s.phases
    now := s.now
    draws := s.draws
    cuts := s.cuts
    pending := s.pending }

/-- POWER_ON_RESET (R167). -/
def execPowerOnReset (straps : BitVec 3) (memory : Option (List Word16)) (s : State) :
    Host.Outcome State Fault Refusal :=
  .next (powerOn straps memory s)

/-- What a channel is after a warm reset (R127): IDLE with its flag set, or UNCALIBRATED with its flag clear. -/
def comesBackIdle (s : State) (n : Fin 12) : Bool :=
  let c := s.channels.get n
  match c.state with
  | .idle | .drivingOpen | .drivingClose | .reversing => true
  | .queued => queuedFor s n .move
  | .settling =>
    match c.move with
    | some m => m.kind == .move
    | none => false
  | .disabled => c.calibrated
  | .uncalibrated | .calClose | .calOpen => false

/-- A channel after a warm reset (R127): counter and stroke kept, state and flag by the table, the rest at its reset
value. The rest position is set at the start; until then it is 0 (DESIGN CHOICE, assumption 2). -/
def warmChannel (s : State) (n : Fin 12) : Channel :=
  let c := s.channels.get n
  let idle := comesBackIdle s n
  { Channel.reset with
    state := if idle then .idle else .uncalibrated
    counter := c.counter
    stroke := c.stroke
    calibrated := idle }

/-- A kind's record across a warm reset (R165): the status kept, mask and severity at their defaults until the
start. -/
def warmKind (r : Recorder) (k : Fin 16) : KindRecord :=
  { Recorder.reset.kinds.get k with status := (r.kinds.get k).status }

/-- An alert slot across a warm reset (R165): mask flag, pending flag and latest pending kept. -/
def warmSlot (a : AlertSlot) : AlertSlot := { a with kinds := 0, tag := 0 }

/-- The fault recorder across a warm reset (R165). -/
def warmRecorder (r : Recorder) : Recorder :=
  { r with kinds := Tab.tabulate (warmKind r), slots := r.slots.map warmSlot, enable := true }

/-- The state after a warm reset (R171): what its table lists is kept, and every other block takes its reset value. -/
def warmReset (straps : BitVec 3) (memory : Option (List Word16)) (s : State) : State :=
  { State.reset with
    loader := beginLoad straps memory true
    valves := { ValveTables.reset with trim := s.valves.trim }
    meter := { Meter.reset with total := s.meter.total, remainder := s.meter.remainder }
    channels := Tab.tabulate (warmChannel s)
    phases := s.phases
    programOne := keptInstance s .one
    programTwo := keptInstance s .two
    recorder := warmRecorder s.recorder
    now := s.now
    draws := s.draws
    cuts := s.cuts
    pending := s.pending }

/-- WARM_RESET (R171). -/
def execWarmReset (straps : BitVec 3) (memory : Option (List Word16)) (s : State) :
    Host.Outcome State Fault Refusal :=
  .next (warmReset straps memory s)

/-! ## The faults of a load (R167, R168) -/

/-- The CONFIG_FAULTs that the load in progress has still to report, in their order. -/
def loadFaults (s : State) : List FaultEvent :=
  (loadImage s.loader.imageStatus s.loader.image).faults.drop s.loader.reported

/-- The load in progress reports its next fault: one event, after which a warm reset may abandon the load (R167). -/
def loadStep (s : State) : State :=
  match loadFaults s with
  | [] => s
  | e :: _ => report { s with loader := { s.loader with reported := s.loader.reported + 1 } } e

/-! ## The station's start (R170) -/

/-- A kind's record when the loader hands masks and severities on (R159). -/
def startKind (l : Loaded) (r : Recorder) (k : Fin 16) : KindRecord :=
  { r.kinds.get k with masked := (l.kinds.get k).1, severity := (l.kinds.get k).2 }

/-- An alert slot when loading ends (R165): kind set and tag from the image; the mask flag too after a power-on reset,
while a warm reset keeps its own (assumption 28). With the enable off nothing stays pending. -/
def startSlot (l : Loaded) (warm : Bool) (r : Recorder) (k : Fin 4) : AlertSlot :=
  let a := r.slots.get k
  let (kinds, tag, masked) := l.slots.get k
  { kinds := kinds
    tag := tag
    masked := if warm then a.masked else masked
    pending := a.pending && l.enable
    latest := if l.enable then a.latest else none }

/-- The fault recorder when loading ends (R159, R165). -/
def startRecorder (l : Loaded) (warm : Bool) (r : Recorder) : Recorder :=
  { r with kinds := Tab.tabulate (startKind l r), slots := Tab.tabulate (startSlot l warm r), enable := l.enable }

/-- The meter at the counter's start (R97). -/
def startMeter (l : Loaded) (m : Meter) : Meter :=
  { Meter.reset with
    counting := true
    state := if l.pitch.isSome && l.maximum.isSome then .good else .unconfigured
    total := m.total
    remainder := m.remainder
    pitch := l.pitch
    maximum := l.maximum }

/-- A channel when loading ends (R127): the rest position is the counter; a channel not in use is UNCALIBRATED with
its flag clear; FALLBACK clears every flag. -/
def startChannel (state : LoaderState) (used : Bool) (c : Channel) : Channel :=
  { c with
    rest := c.counter
    state := if used then c.state else .uncalibrated
    calibrated := c.calibrated && used && state != .fallback }

/-- The station state a load ends in (R168, R169). -/
def stateAfterLoad (status : ImageStatus) : LoaderState := if status = .ok then .normal else .fallback

/-- The blocks at the moment of the start (R170). -/
def startBlocks (s : State) (l : Loaded) : State :=
  let state := stateAfterLoad s.loader.imageStatus
  let loops := l.loops.map fun i => i.map freshLoop
  let used (n : Fin 12) : Bool := state == .fallback || (loops.get n).isSome
  { s with
    loader := { s.loader with state := state, image := [], reported := 0 }
    config := l.config
    loops := loops
    visiting := none
    operation := none
    rooms := { RoomTable.reset with records := buildRooms loops }
    scanner := startScanner loops
    engine := { Engine.reset with timer := some 30000 }
    peers := PeerTable.reset
    valves := { s.valves with tables := l.tables }
    meter := startMeter l s.meter
    channels := Tab.tabulate fun n => startChannel state (used n) (s.channels.get n)
    arbiter := Arbiter.reset
    bus := { Bus.reset with reportTimer := some (stationNumber s * 2000) }
    recorder := startRecorder l s.loader.warm s.recorder }

/-- A calibration request at start, when the channel's flag is clear (R122, R170). -/
def startCalibration (s : State) (n : Fin 12) : State :=
  if (s.channels.get n).calibrated then s else requestCalibration s n false

/-- The station's start (R168 to R170): the load's remaining faults reported, the blocks brought into service, the chains
built, kept programs re-pushed, program 1 first, and the calibration requests made in channel order. -/
def startStation (s : State) : State :=
  let l := loadImage s.loader.imageStatus s.loader.image
  let s1 := buildChains (startBlocks (reportAll s (loadFaults s)) l)
  let s2 := restartProgram (restartProgram s1 .one) .two
  (List.finRange 12).foldl startCalibration s2

/-- STATION_START (R170): a station in LOADING starts. -/
def execStationStart (s : State) : Host.Outcome State Fault Refusal :=
  .next (if s.loader.state = .loading then startStation s else s)

end Sys2Proof.Machine
end

