-- ==== Sys2Proof/Machine/Peers.lean ====
section
/-! DEFINITION. The peer table and the source record (chapter 5), and what a change of the effective source state does
at the drive arbiter (R135) and at the dry-out sequencer (R141). -/

namespace Sys2Proof.Machine

open Sys2Proof

/-! ## STATION reports -/

/-- A peer record replaced, or put in its place in station-number order (R77). -/
def putPeer (p : Peer) : List Peer → List Peer
  | [] => [p]
  | q :: rest =>
    if q.station = p.station then p :: rest
    else if p.station.val < q.station.val then p :: q :: rest
    else q :: putPeer p rest

/-- The peer table with other records. -/
def setPeers (s : State) (l : List Peer) : State := { s with peers := { s.peers with peers := l } }

/-- A STATION report that bears the own number (R78). -/
def addressClash (s : State) (f : Frame) (c : CoreFields) : State :=
  report s ⟨.addressClash, stationNumber s, c.r, c.g, some f⟩

/-- A STATION report taken whole (R77, R78): ignored, a clash, refused, or taken into its record. -/
def takeStationReport (s : State) (f : Frame) : State :=
  let sender := f.sender.toNat
  match readCore f.content with
  | none => s
  | some c =>
    if h : 1 ≤ sender ∧ sender ≤ 8 then
      if sender = stationNumber s then addressClash s f c
      else
        match coreOk c with
        | none => { s with peers := { s.peers with refusedReports := bump 65535 s.peers.refusedReports } }
        | some core => setPeers s (putPeer ⟨⟨sender - 1, by omega⟩, core, ⟨0, 0⟩, true⟩ s.peers.peers)
    else { s with peers := { s.peers with foreignReports := bump 65535 s.peers.foreignReports } }

/-- STATION_REPORT (R77). -/
def execStationReport (s : State) : Host.Outcome State Fault Refusal :=
  .next (match takeHead s .stationReport with
    | some (f, s1) => takeStationReport s1 f
    | none => s)

/-- The freshness of a station's record. -/
def peerFresh (s : State) (station : Fin 8) : Option Bool :=
  (s.peers.peers.find? fun p => p.station == station).map (·.fresh)

/-- A FRESH record becomes STALE at age 61 s. -/
def stalePeer (station : Fin 8) (p : Peer) : Peer :=
  if p.station = station then { p with age := ⟨61, 0⟩, fresh := false } else p

/-- PEER_STALE (R79): a FRESH record's age steps from 60 s to 61 s. -/
def execPeerStale (station : Fin 8) (s : State) : Host.Outcome State Fault Refusal :=
  .next (if peerFresh s station = some true then
      let s1 := elapse (peerLeft s station) s
      setPeers s1 (s1.peers.peers.map (stalePeer station))
    else s)

/-- PEER_REMOVAL (R79): a STALE record's age steps from 600 s to 601 s. -/
def execPeerRemoval (station : Fin 8) (s : State) : Host.Outcome State Fault Refusal :=
  .next (if peerFresh s station = some false then
      let s1 := elapse (peerLeft s station) s
      setPeers s1 (s1.peers.peers.filter fun p => p.station != station)
    else s)

/-! ## The source record -/

/-- The arbiter's source view follows the effective source state (R135); a change out of DEFROST makes the grant. -/
def followView (s : State) (st : SourceState) : State :=
  let was := s.arbiter.defrost
  let now := st == .defrost
  let s1 := { s with arbiter := { s.arbiter with defrost := now } }
  if was && !now then grants s1 else s1

/-- The sequencer makes the operation that it has in progress to its end before a change of the effective source state into or
out of HEATING, which is an event of its own (R141). -/
def beforeHeating (s : State) (after : SourceState) : State :=
  if (effectiveState s == .heating) != (after == .heating) then finishDry s else s

/-- The sequencer follows a change of the effective source state into or out of HEATING (R141). -/
def followHeating (s : State) (before after : SourceState) : State :=
  if before = .heating ∧ after ≠ .heating then pauseProgram (pauseProgram s .one) .two
  else if before ≠ .heating ∧ after = .heating then resumePrograms s
  else s

/-- The source record has changed: the arbiter and the sequencer follow the effective state, which was `before`. -/
def followSource (s : State) (before : SourceState) : State :=
  followHeating (followView s (effectiveState s)) before (effectiveState s)

/-- A SOURCE report from address 9 is malformed (R80): `none`; else its state. -/
def sourceForm (v : SourceFields) : Option SourceState :=
  match sourceStateOf v.state with
  | none => none
  | some st => if v.fSrc ≤ 60000 ∧ v.fMin ≤ 60000 ∧ v.fMin ≤ v.fSrc then some st else none

/-- The source record after a report has been taken (R81). -/
def takenSource (v : SourceFields) (st : SourceState) : SourceRecord :=
  ⟨.fresh, ⟨0, 0⟩, some st, some v.fSrc, some v.fMin, some v.setpoint⟩

/-- A SOURCE report taken whole (R80, R81). -/
def takeSourceReport (s : State) (f : Frame) : State :=
  match readSource f.content with
  | none => s
  | some v =>
    if f.sender.toNat ≠ 9 then
      { s with peers := { s.peers with foreignReports := bump 65535 s.peers.foreignReports } }
    else
      match sourceForm v with
      | none => report s ⟨.sourceMalformed, 9, v.fMin, v.fSrc, some f⟩
      | some st =>
        let s1 := beforeHeating s st
        followSource { s1 with peers := { s1.peers with source := takenSource v st } } (effectiveState s)

/-- SOURCE_REPORT (R81). -/
def execSourceReport (s : State) : Host.Outcome State Fault Refusal :=
  .next (match takeHead s .sourceReport with
    | some (f, s1) => takeSourceReport s1 f
    | none => s)

/-- The step of the source record into STALE (R82), reported as SOURCE_STALE. -/
def staleSource (s : State) : State :=
  let r := s.peers.source
  let s0 := beforeHeating s .heating
  let s1 := { s0 with peers := { s0.peers with source := { r with age := ⟨61, 0⟩, validity := .stale } } }
  let s2 := report s1 ⟨.sourceStale, 9, if r.validity = .never then 1 else 0, ((r.fSrc.getD 0 : Nat) : Int), none⟩
  followSource s2 (effectiveState s)

/-- SOURCE_STALE (R82). In LOADING the peer table has not started (R76). -/
def execSourceStale (s : State) : Host.Outcome State Fault Refusal :=
  .next (if inServiceStation s ∧ s.peers.source.validity ≠ .stale then staleSource (elapse (sourceLeft s) s) else s)

end Sys2Proof.Machine
end

