-- ==== Sys2Proof/Machine/Replies.lean ====
section
/-! DEFINITION. The data of the query replies (R19, R33, R45, R75, R91, R108, R128, R137, R158, R166; section 13.3).
A part carries its values in the order in which the rules list them. Where the rules leave a layout open, assumption
10 (DESIGN CHOICE) says what is carried. -/

namespace Sys2Proof.Machine

open Sys2Proof

/-! ## READ_LOOP -/

/-- A chain entry: profile number and owner (R19). -/
def entryBytes (e : Entry) : List Byte := u16 e.profile.val ++ [u8 (ownerCode e.owner)]

/-- The loop table's values (R19). -/
def loopTableData (s : State) (l : Loop) : List Byte :=
  let p := activeProfile s l.chain
  [flagByte true] ++ u16 l.info.room ++ u16 (l.info.valveType.val + 1) ++
  (u8 l.chain.length :: l.chain.flatMap entryBytes) ++
  u16 (activeNumber l.chain).val ++ [u8 (profileKindCode p.kind), flagByte p.overrides] ++ [flagByte l.stale] ++
  u16 ((l.boost.getD 0 + 59999) / 60000) ++ [u8 (if l.boost.isSome then 0 else 1)]

/-- The room table's values (R33), held values in every state. -/
def roomData (r : Option Room) : List Byte :=
  match r with
  | some r =>
    [u8 (roomStateCode r.state)] ++ u16 r.age.secs ++ [u8 (roomModeCode r.mode)] ++ s16? r.temperature ++
    u16? (r.setpoint.map Int.toNat) ++ s16? r.floor
  | none => []

/-- The balancing engine's values (R75), as they stand, in the first pass after a reset too: R75 shows what the pass has
updated, where R50 says that the engine supplies the table's values until the first pass ends (DESIGN CHOICE, assumption
43). An empty last written target is carried like an absent value, 0xFFFF
(DESIGN CHOICE, assumption 10). -/
def engineData (e : EngineLoop) : List Byte :=
  [flagByte e.inService] ++ u32 e.integrator ++ u16? e.dLast ++ u16 e.reported ++ [flagByte e.scaled] ++
  u16 e.openSettled ++ u16 e.qReq ++ u16 e.qAlloc ++ u16? e.dropEff ++ [flagByte e.dropValid] ++ u16? e.lastTarget

/-- A probe's values (R45): state and value as supplied, last code, last cause. -/
def probeData (sc : Scanner) (n : Fin 14) : List Byte :=
  let v := supply sc n
  let p := sc.probes.get n
  [u8 (probeStateCode v.1)] ++ s16? v.2 ++ u16? p.lastCode ++ [code? probeCauseCode p.lastCause]

/-- The move record's values, while one is present (R128). -/
def moveData (m : Option MoveRecord) : List Byte :=
  match m with
  | some m =>
    [u8 (opKindCode m.kind), code? directionCode m.direction] ++ u16 m.against ++ u16 m.illegal ++ u32? m.limit
  | none => []

/-- The channel's values (R128). -/
def channelData (c : Channel) : List Byte :=
  [u8 (channelStateCode c.state), flagByte c.calibrated] ++ s16 c.counter ++ u16? c.stroke ++ u16? c.live ++
  s16 c.rest ++ u16 c.blocked ++ s16? c.seatError ++ u16 c.illegalTotal ++ [flagByte c.remembered] ++ moveData c.move

/-- A channel's place in the queue, counted from 1 at the head, with its kind (R137). -/
def queuePlace (queue : List DriveEntry) (n : Fin 12) : Nat → Option (Nat × OpKind)
  | at_ =>
    match queue with
    | [] => none
    | e :: rest => if e.channel = n then some (at_, e.kind) else queuePlace rest n (at_ + 1)

/-- The arbiter's values for a channel and for the station (R137). -/
def arbiterData (s : State) (n : Fin 12) : List Byte :=
  let own :=
    match queuePlace s.arbiter.queue n 1, slotOf s n with
    | some (place, kind), _ => u16 place ++ [u8 (opKindCode kind)]
    | none, some (slot, kind) => u16 (slot.val + 1) ++ [u8 (opKindCode kind)]
    | none, none => []
  own ++ u16 s.arbiter.queue.length ++ u16 ((s.arbiter.slots.items.filter Option.isNone).length) ++
  [u8 (if s.arbiter.defrost then 0 else 1)]

/-- The parts of READ_LOOP for loop `n` (section 13.3). -/
def loopParts (s : State) (n : Fin 12) : List (List Byte) :=
  let channel := channelData (s.channels.get n) ++ arbiterData s n
  match s.loops.get n with
  | some l =>
    [loopTableData s l ++ roomData (roomRecord s l.info.room),
     engineData (s.engine.loops.get n) ++ probeData s.scanner ⟨n.val, by omega⟩ ++ probeData s.scanner 12,
     channel]
  | none => if channelInUse s n then [[flagByte false], channel] else [[flagByte false]]

/-! ## READ_FAULTS -/

/-- One byte per kind: status bit 7, mask bit 6, severity bits 1–0. -/
def kindByte (k : KindRecord) : Byte :=
  u8 ((if k.status then 128 else 0) + (if k.masked then 64 else 0) + severityCode k.severity)

/-- The error record in 23 bytes (section 13.3); an empty record has every byte 0. -/
def errorRecordData (r : Option ErrorRecord) : List Byte :=
  match r with
  | none => List.replicate 23 0
  | some r =>
    [u8 (kindCode r.kind), u8 (severityCode r.severity), u8 (originCode r.origin), u8 r.item] ++
    s32 r.first ++ s32 r.second ++
    match r.frame with
    | none => u16 0xFFFF ++ [0] ++ List.replicate 8 0
    | some f =>
      u16 (f.kind.toNat * 4096 + f.sender.toNat * 64) ++ [u8 f.bytes.length] ++ f.bytes ++
      List.replicate (8 - f.bytes.length) 0

/-- One alert slot: kind set, tag, mask and pending flags, latest pending. -/
def slotData (a : AlertSlot) : List Byte :=
  u16 a.kinds.toNat ++ u16 a.tag ++ [flagByte a.masked, flagByte a.pending] ++
  match a.latest with
  | some l => [u8 (kindCode l.kind), u8 (originCode l.origin)] ++ u16 l.item
  | none => [0xFF, 0xFF] ++ u16 0xFFFF

/-- The parts of READ_FAULTS (R166, R33, R45, R158). What is of fixed number, the fourteen probe states among it, opens with
no count byte (DESIGN CHOICE, assumption 10). -/
def faultParts (s : State) : List (List Byte) :=
  [s.recorder.kinds.items.map kindByte ++
     [pointerByte s.recorder.pointer, flagByte s.recorder.overflow, flagByte s.recorder.enable],
   errorRecordData s.recorder.record,
   s.recorder.slots.items.flatMap slotData,
   u16 s.rooms.ignored ++ u16 s.rooms.refused ++ u16 s.bus.frameCheck ++ u16 s.bus.overflow ++ u16 s.bus.unused ++
     u16 s.bus.dropped ++ (List.finRange 14).map (fun n => u8 (probeStateCode (supply s.scanner n).1)) ++
     s16? (supply s.scanner 13).2 ++ u16? (s.scanner.probes.get 13).lastCode ++
     [code? probeCauseCode (s.scanner.probes.get 13).lastCause]]

/-! ## READ_PEERS -/

/-- A peer record in 13 bytes (section 13.3). -/
def peerData (p : Peer) : List Byte :=
  [u8 ((p.station.val + 1) * 16 + if p.fresh then 0 else 1)] ++ coreBytes p.core ++ u16 p.age.secs

/-- A part of peer records: their count, then the records. -/
def peerPart (peers : List Peer) : List Byte := u8 peers.length :: peers.flatMap peerData

/-- Part 0 of READ_PEERS (R91). -/
def sourceData (s : State) : List Byte :=
  let r := s.peers.source
  let w := s.engine.result
  [u8 (validityCode r.validity)] ++ u16 r.age.secs ++ [code? sourceStateCode r.state] ++ u16? r.fSrc ++ u16? r.fMin ++
  s16? r.setpoint ++ [u8 (sourceStateCode (effectiveState s))] ++ u16 (effectiveSrc s) ++ u16 (effectiveMin s) ++
  u16 s.peers.foreignReports ++ u16 s.peers.refusedReports ++ u32 w.rTot ++ [code? caseCode w.case] ++ u16 w.g ++
  u16 w.b ++ [flagByte w.duty] ++ u16? w.deficit

/-- The parts of READ_PEERS: the last part is 0, 1 or 2 by the number of records (section 13.3). -/
def peerParts (s : State) : List (List Byte) :=
  let l := s.peers.peers
  [sourceData s] ++ (if l.isEmpty then [] else [peerPart (l.take 4)]) ++
  (if l.length ≤ 4 then [] else [peerPart (l.drop 4)])

/-! ## READ_TRIM -/

/-- One valve type: validity, fractions, minimum opening, or INVALID alone when the image does not hold it (R108). -/
def tableData (t : Option ValveTable) : List Byte :=
  match t with
  | some t => [u8 (if t.valid then 0 else 1)] ++ t.fractions.flatMap u16 ++ u16 t.minOpening
  | none => [1]

/-- The parts of READ_TRIM (R108). -/
def trimParts (s : State) : List (List Byte) :=
  let m := s.meter
  let v := s.valves
  [u16 v.trim ++ u16 v.lastP ++ [u8 (judgmentCode v.lastJudgment)] ++ u32? v.lastTarget ++
     [u8 (meterStateCode m.state), u8 (sampleCode m.sample)] ++ u16 m.sub ++ u16 m.flow ++ u16 m.zeroRun ++
     u16 m.recoveryRun ++ u32 m.total ++ u16 m.remainder ++ u16? m.pitch ++ u16? m.maximum,
   tableData (v.tables.get 0) ++ tableData (v.tables.get 1),
   tableData (v.tables.get 2) ++ tableData (v.tables.get 3)]

end Sys2Proof.Machine
end

