-- ==== Sys2Proof/Machine/Service.lean ====
section
/-! DEFINITION. SERVICE requests (R156 to R158, R173): the checks, what each request does, and the reply. Each meaning
takes the head frame of the receive queue; a head frame of another kind or code leaves the state as it is
(DESIGN CHOICE, assumption 6). -/

namespace Sys2Proof.Machine

open Sys2Proof

/-- The requests dropped counter rises; it stops at 65535 (R156). -/
def countDropped (s : State) : State := { s with bus := { s.bus with dropped := bump 65535 s.bus.dropped } }

/-- The sender may make requests (R156, check 1). -/
def toolAddress (sender : BitVec 6) : Bool := decide (10 ≤ sender.toNat) && decide (sender.toNat ≤ 15)

/-- A request taken by the bus interface (R156): ignored, dropped, or carried out. `carry` is given the code and the
arguments. -/
def takeRequest (s : State) (f : Frame) (carry : Byte → List Byte → State → State) : State :=
  match f.content with
  | target :: code :: args =>
    if !toolAddress f.sender then countUnused s
    else if target.toNat ≠ stationNumber s then countUnused s
    else if s.bus.reply.isSome then countDropped s
    else carry code args s
  | _ => s

/-- A request that its block carries out in one event, and that is then answered (R157, R158). -/
def answerRequest (s : State) (f : Frame) (carry : List Byte → State → State × Answer) : State :=
  takeRequest s f fun code args s =>
    let (s1, a) := carry args s
    sendReply s1 f code a

/-! ## Queries -/

/-- The answer of a query whose data has these parts, for the part its arguments ask for (R157, R173). A request that
names no part gets a part number that the manual leaves open (DESIGN CHOICE, assumption 5). -/
def partAnswer (parts : List (List Byte)) (asked : Option Byte) (s : State) : State × Answer :=
  let last := u8 (parts.length - 1)
  match asked with
  | some k =>
    match parts[k.toNat]? with
    | some data => (s, ⟨.ok, k, last, data⟩)
    | none => (s, ⟨.badArgument, k, last, []⟩)
  | none => (drawn s, ⟨.badArgument, Config.freeByte s.draws, last, []⟩)

/-- A loop number 1 to 12. -/
def loopOfByte (n : Byte) : Option (Fin 12) :=
  if h : 1 ≤ n.toNat ∧ n.toNat ≤ 12 then some ⟨n.toNat - 1, by omega⟩ else none

/-- READ_LOOP n, k. Without a valid loop there is no last part, and its number is left open (DESIGN CHOICE,
assumption 5). -/
def carryReadLoop (args : List Byte) (s : State) : State × Answer :=
  match args with
  | [] => (drawn (drawn s), ⟨.badArgument, Config.freeByte s.draws, Config.freeByte (s.draws + 1), []⟩)
  | n :: rest =>
    match loopOfByte n, rest.head? with
    | some loop, asked => partAnswer (loopParts s loop) asked s
    | none, some k => (drawn s, ⟨.badArgument, k, Config.freeByte s.draws, []⟩)
    | none, none =>
      (drawn (drawn s), ⟨.badArgument, Config.freeByte s.draws, Config.freeByte (s.draws + 1), []⟩)

/-- READ_FAULTS k. -/
def carryReadFaults (args : List Byte) (s : State) : State × Answer := partAnswer (faultParts s) args.head? s

/-- READ_PEERS k. -/
def carryReadPeers (args : List Byte) (s : State) : State × Answer := partAnswer (peerParts s) args.head? s

/-- READ_TRIM k. -/
def carryReadTrim (args : List Byte) (s : State) : State × Answer := partAnswer (trimParts s) args.head? s

/-! ## Dry-out -/

/-- A request to the sequencer for program p (R140, R143), which it takes after the operation that it has in progress. -/
def carryDryout (operation : State → Prog → Frame → State) (f : Frame) (code : Byte) (args : List Byte) (s : State) : State :=
  match args.head?.bind fun p => progOfNumber p.toNat with
  | none => sendReply s f code (single .badArgument [])
  | some p => operation (finishDry s) p f

/-! ## RECALIBRATE (R157, R122) -/

/-- The channels in use, in channel order. -/
def usedChannels (s : State) : List (Fin 12) := (List.finRange 12).filter (channelInUse s)

/-- Calibration requests with the cause RECALIBRATE, in the order given. -/
def recalibrateAll (s : State) (channels : List (Fin 12)) : State :=
  channels.foldl (fun s n => requestCalibration s n true) s

/-- RECALIBRATE n. -/
def carryRecalibrate (args : List Byte) (s : State) : State × Answer :=
  match args with
  | [] => (s, single .badArgument [])
  | n :: _ =>
    if n.toNat = 0 then
      if (usedChannels s).isEmpty then (s, single .refusedState [])
      else (recalibrateAll s (usedChannels s), single .ok [])
    else
      match loopOfByte n with
      | none => (s, single .badArgument [])
      | some channel =>
        if channelInUse s channel then (requestCalibration s channel true, single .ok [])
        else (s, single .refusedState [])

/-! ## The fault recorder's requests (R162, R164) -/

/-- The kinds a CLEAR_FAULTS names: `none` when the count is above 16, the list is shorter than the count, or a code
lies outside 1 to 16 (R157, R173). -/
def clearSet (args : List Byte) : Option (List FaultKind) :=
  match args with
  | [] => none
  | count :: codes =>
    if count.toNat ≤ 16 ∧ count.toNat ≤ codes.length then
      (codes.take count.toNat).mapM fun c => kindOfCode c.toNat
    else none

/-- One status cleared. -/
def clearStatus (kinds : Tab 16 KindRecord) (k : FaultKind) : Tab 16 KindRecord :=
  kinds.set (kindIndex k) { kinds.get (kindIndex k) with status := false }

/-- The recorder after a clear (R162): the named statuses clear; pointer, record and overflow flag emptied when the
set names the pointer's kind. -/
def clearKinds (r : Recorder) (kinds : List FaultKind) : Recorder :=
  let r1 := { r with kinds := kinds.foldl clearStatus r.kinds }
  match r.pointer with
  | some k => if kinds.contains k then { r1 with pointer := none, record := none, overflow := false } else r1
  | none => r1

/-- CLEAR_FAULTS. -/
def carryClearFaults (args : List Byte) (s : State) : State × Answer :=
  match clearSet args with
  | none => (s, single .badArgument [])
  | some kinds =>
    let s1 := { s with recorder := clearKinds s.recorder kinds }
    (s1, single .ok (u16 (statusWord s1) ++ [pointerByte s1.recorder.pointer, flagByte s1.recorder.overflow]))

/-- On or off (section 13.3). -/
def onOff (b : Byte) : Option Bool :=
  match b.toNat with
  | 0 => some false
  | 1 => some true
  | _ => none

/-- An alert slot number 1 to 4. -/
def slotOfByte (n : Byte) : Option (Fin 4) :=
  if h : 1 ≤ n.toNat ∧ n.toNat ≤ 4 then some ⟨n.toNat - 1, by omega⟩ else none

/-- An alert slot replaced. -/
def putSlot (s : State) (slot : Fin 4) (a : AlertSlot) : State :=
  { s with recorder := { s.recorder with slots := s.recorder.slots.set slot a } }

/-- ALERT_MASK taken (R164): masking keeps what pends; unmasking a masked slot that pends sends one ALERT. -/
def maskSlot (s : State) (slot : Fin 4) (on : Bool) : State :=
  let a := s.recorder.slots.get slot
  if on then putSlot s slot { a with masked := true }
  else
    match a.masked && a.pending, a.latest with
    | true, some l =>
      raiseAlerts (putSlot s slot { a with masked := false, pending := false, latest := none })
        [alertFrame s slot a.tag l.kind l.origin l.item]
    | _, _ => putSlot s slot { a with masked := false }

/-- ALERT_MASK. -/
def carryAlertMask (args : List Byte) (s : State) : State × Answer :=
  match args with
  | n :: v :: _ =>
    match slotOfByte n, onOff v with
    | some slot, some on =>
      let s1 := maskSlot s slot on
      let a := s1.recorder.slots.get slot
      (s1, single .ok [flagByte a.masked, flagByte a.pending])
    | _, _ => (s, single .badArgument [])
  | _ => (s, single .badArgument [])

/-- A slot with nothing pending. -/
def unpend (a : AlertSlot) : AlertSlot := { a with pending := false, latest := none }

/-- ALERT_ENABLE taken (R164): off clears every pending flag. -/
def enableAlerts (r : Recorder) (on : Bool) : Recorder :=
  { r with enable := on, slots := if on then r.slots else r.slots.map unpend }

/-- ALERT_ENABLE. -/
def carryAlertEnable (args : List Byte) (s : State) : State × Answer :=
  match args.head?.bind onOff with
  | none => (s, single .badArgument [])
  | some on => ({ s with recorder := enableAlerts s.recorder on }, single .ok [flagByte on])

/-! ## The commands -/

/-- READ_LOOP. -/
def execReadLoop (s : State) : Host.Outcome State Fault Refusal :=
  .next (match takeHead s .readLoop with
    | some (f, s1) => answerRequest s1 f carryReadLoop
    | none => s)

/-- READ_FAULTS. -/
def execReadFaults (s : State) : Host.Outcome State Fault Refusal :=
  .next (match takeHead s .readFaults with
    | some (f, s1) => answerRequest s1 f carryReadFaults
    | none => s)

/-- READ_PEERS. -/
def execReadPeers (s : State) : Host.Outcome State Fault Refusal :=
  .next (match takeHead s .readPeers with
    | some (f, s1) => answerRequest s1 f carryReadPeers
    | none => s)

/-- READ_TRIM. -/
def execReadTrim (s : State) : Host.Outcome State Fault Refusal :=
  .next (match takeHead s .readTrim with
    | some (f, s1) => answerRequest s1 f carryReadTrim
    | none => s)

/-- START_DRYOUT. -/
def execStartDryout (s : State) : Host.Outcome State Fault Refusal :=
  .next (match takeHead s .startDryout with
    | some (f, s1) => takeRequest s1 f (carryDryout startProgram f)
    | none => s)

/-- STOP_DRYOUT. -/
def execStopDryout (s : State) : Host.Outcome State Fault Refusal :=
  .next (match takeHead s .stopDryout with
    | some (f, s1) => takeRequest s1 f (carryDryout stopProgram f)
    | none => s)

/-- RECALIBRATE. -/
def execRecalibrate (s : State) : Host.Outcome State Fault Refusal :=
  .next (match takeHead s .recalibrate with
    | some (f, s1) => answerRequest s1 f carryRecalibrate
    | none => s)

/-- CLEAR_FAULTS. -/
def execClearFaults (s : State) : Host.Outcome State Fault Refusal :=
  .next (match takeHead s .clearFaults with
    | some (f, s1) => answerRequest s1 f carryClearFaults
    | none => s)

/-- ALERT_MASK. -/
def execAlertMask (s : State) : Host.Outcome State Fault Refusal :=
  .next (match takeHead s .alertMask with
    | some (f, s1) => answerRequest s1 f carryAlertMask
    | none => s)

/-- ALERT_ENABLE. -/
def execAlertEnable (s : State) : Host.Outcome State Fault Refusal :=
  .next (match takeHead s .alertEnable with
    | some (f, s1) => answerRequest s1 f carryAlertEnable
    | none => s)

/-- UNKNOWN_REQUEST. -/
def execUnknownRequest (s : State) : Host.Outcome State Fault Refusal :=
  .next (match takeHead s .unknownRequest with
    | some (f, s1) => answerRequest s1 f fun _ s => (s, single .badArgument [])
    | none => s)

end Sys2Proof.Machine
end

