-- ==== Sys2Proof/Machine/Transmit.lean ====
section
/-! DEFINITION. Medium access (R147, R148): the transmitter's events on the line. -/

namespace Sys2Proof.Machine

open Sys2Proof

/-- The occupied slot whose frame has the lowest identity: report, then alert, then reply (R147). -/
def offeredSlot (b : Bus) : Option TxSlot :=
  if b.report.isSome then some .report
  else if b.alert.isSome then some .alert
  else if b.reply.isSome then some .reply
  else none

/-- The bus with another transmitter state. -/
def setTx (s : State) (t : TxState) : State := { s with bus := { s.bus with tx := t } }

/-- TRANSMIT_START (R147): the line has been idle for 10 bit times and the transmitter waits. -/
def execTransmitStart (s : State) : Host.Outcome State Fault Refusal :=
  .next (match s.bus.tx, offeredSlot s.bus with
    | .waiting, some slot => setTx s (.arbitrating slot)
    | _, _ => s)

/-- ARBITRATION_LOST (R147): the frame stays in its slot. -/
def execArbitrationLost (s : State) : Host.Outcome State Fault Refusal :=
  .next (match s.bus.tx with
    | .arbitrating _ => setTx s .waiting
    | _ => s)

/-- ARBITRATION_WON (R147, R148): the frame leaves its slot and is on the line. -/
def execArbitrationWon (s : State) : Host.Outcome State Fault Refusal :=
  .next (match s.bus.tx with
    | .arbitrating slot =>
      match txFrame s.bus slot with
      | some f => setTx { s with bus := setTxFrame s.bus slot none } (.sending slot f)
      | none => s
    | _ => s)

/-- FRAME_SENT (R148): WAITING when a slot holds a frame, IDLE otherwise. -/
def execFrameSent (s : State) : Host.Outcome State Fault Refusal :=
  .next (match s.bus.tx with
    | .sending _ _ => setTx s (if txOccupied s.bus then .waiting else .idle)
    | _ => s)

/-- FRAME_BROKEN_OFF (R148): the frame is put back in its slot when that is empty, and dropped otherwise. -/
def execFrameBrokenOff (s : State) : Host.Outcome State Fault Refusal :=
  .next (match s.bus.tx with
    | .sending slot f =>
      let b := if (txFrame s.bus slot).isSome then s.bus else setTxFrame s.bus slot (some f)
      setTx { s with bus := b } .waiting
    | _ => s)

end Sys2Proof.Machine
end

