-- ==== Sys2Proof/Machine/Due.lean ====
section
/-! DEFINITION. What the station does while no command waits (DESIGN CHOICE, assumption 1): an own event that is due joins the command
queue, chosen freely where several are due and the manual gives no order; when none is due, time passes. Events
from outside (resets, the end of a load, pulses, feedback edges, conversions, the line) are commands that the outside
places. -/

namespace Sys2Proof.Machine

open Sys2Proof

/-- An event when it is due. -/
def whenDue (due : Bool) (i : Instr) : List Instr := if due then [i] else []

/-- The age waits at the step past its limit. -/
def Age.ripe (a : Age) : Bool := decide (1000 ≤ a.ms)

/-- A countdown has ended. -/
def expired (t : Option Nat) : Bool := t == some 0

/-- The event of a room record at its limit (R26, R27); an ORPHAN ages on without one. -/
def roomEvent (r : Room) : List Instr :=
  if r.age.ripe then
    match r.state with
    | .fresh => [.roomEntersHeld r.room]
    | .held | .never => [.roomStale r.room]
    | .orphan => []
  else []

/-- The event of a peer record at its limit (R79). -/
def peerEvent (p : Peer) : List Instr :=
  whenDue p.age.ripe (if p.fresh then .peerStale p.station else .peerRemoval p.station)

/-- The event of the source record at its limit (R82). -/
def sourceEvent (r : SourceRecord) : List Instr := whenDue (r.age.ripe && r.validity != .stale) .sourceStale

/-- The events of a dry-out program (R141, R142): a step end comes before the next hour. -/
def programEvent (s : State) (p : Prog) : List Instr :=
  let i := instanceOf s p
  if i.state = .running then
    if stepExhausted s p then [.dryoutStepEnd p] else whenDue i.part.ripe (.dryoutHour p)
  else []

/-- The end of a wait, by the channel's state (R114, R116, R124). -/
def waitEvent (n : Fin 12) (c : Channel) : List Instr :=
  if expired c.wait then
    match c.state with
    | .settling => [if settlingOf c .move then .settlingEnd n else .calibrationSettlingEnd n]
    | .reversing => [.reversingEnd n]
    | .calOpen => [.calOpenDeadIntervalEnd n]
    | _ => []
  else []

/-- The events of a channel's timers (R117, R119, R125) and waits. -/
def channelEvent (s : State) (n : Fin 12) : List Instr :=
  let c := s.channels.get n
  let limitOver := driving c && expired (c.move.bind (·.limit))
  whenDue (driving c && decide (stallLeft s n = 0)) (.stall n) ++
  whenDue (limitOver && moveDriving c) (.moveTimeout n) ++
  whenDue (limitOver && (phaseCause c).isSome) (.phaseLimitExpiry n) ++
  waitEvent n c

/-- The event of a loop's boost timer (R16). -/
def boostEvent (s : State) (n : Fin 12) : List Instr :=
  whenDue (((s.loops.get n).bind (·.boost)) == some 0) (.boostTimerExpiry n)

/-- What follows once a block is free: the close of a pass (R49), the next mode notice once the loop table has
carried out the one before (R29), the hand-on of the head frame once the request before it has been answered (R151). -/
def followOn (s : State) : List Instr :=
  whenDue s.engine.work.isSome .passClose ++
  whenDue (!s.rooms.notices.isEmpty && s.visiting.isNone) .modeNotice ++
  match s.bus.rx with
  | f :: _ => whenDue (!requestOpen s) (handOn f)
  | [] => []

/-- The station's own events that are due now. In LOADING there are none. -/
def dueEvents (s : State) : List Instr :=
  if !inServiceStation s then []
  else
    followOn s ++
    whenDue (expired s.engine.timer && s.engine.visit.isNone && s.engine.work.isNone) .passTimerExpiry ++
    whenDue (expired s.bus.reportTimer) .regularReport ++
    whenDue (s.bus.extraDue.any fun t => decide (t ≤ s.now)) .extraReportDue ++
    whenDue (expired s.scanner.timer) .scanRound ++
    (List.finRange 12).flatMap (boostEvent s) ++
    s.rooms.records.flatMap roomEvent ++
    s.peers.peers.flatMap peerEvent ++
    sourceEvent s.peers.source ++
    programEvent s .one ++
    programEvent s .two ++
    (List.finRange 12).flatMap (channelEvent s)

/-- The next own event to be taken, in the free order when several are due (DESIGN CHOICE, assumption 4). -/
def nextEvent (s : State) : List Instr := (freeOrder s.draws (dueEvents s)).take 1

/-- One of the own events that are due joins the command queue. -/
def queueDue (s : State) : State :=
  match dueEvents s with
  | [] => s
  | [i] => { s with pending := s.pending ++ [i] }
  | _ => drawn { s with pending := s.pending ++ nextEvent s }

/-- Work of the station's own that is made step by step, so that events may fall into it. -/
inductive Work where
  /-- The faults of a load (R167). -/
  | load
  /-- The stages of a pass (R32, R49, R75). -/
  | pass
  /-- A trim update (R103, R108). -/
  | trim
  /-- A mode notice (R18). -/
  | notice
  /-- An operation of the dry-out sequencer (R139, R142). -/
  | dryout
  /-- ALERTs on their way to their transmit slot (R163). -/
  | alerts
deriving DecidableEq, Repr

/-- The next step of a work. -/
def workStep : Work → State → State
  | .load => loadStep
  | .pass => passStep
  | .trim => trimStep
  | .notice => noticeStep
  | .dryout => dryStep
  | .alerts => placeAlert

/-- The work in progress. -/
def works (s : State) : List Work :=
  (if s.loader.state = .loading ∧ !(loadFaults s).isEmpty then [.load] else []) ++
  (if s.engine.visit.isSome then [.pass] else []) ++
  (if s.valves.update.isSome then [.trim] else []) ++
  (if s.visiting.isSome then [.notice] else []) ++
  (if s.operation.isSome then [.dryout] else []) ++
  (if s.bus.placing.isEmpty then [] else [.alerts])

/-- One work in progress, freely chosen where there are several, makes its next `k` steps (DESIGN CHOICE, assumption 12). -/
def goOn (k : Nat) (s : State) : State :=
  match works s with
  | [] => s
  | [w] => piece (workStep w) k s
  | ws =>
    match freeOrder s.draws ws with
    | [] => s
    | w :: _ => piece (workStep w) k (drawn s)

/-- The idle step. With no work in progress, one of the own events that are due joins the command queue, or, when none is due,
one millisecond passes; so every event is taken on the state that made it due, and none is taken that another has overtaken.
Work in progress goes on by a piece of free size, which is some of it, and no time passes until it has ended. While own
events are due too, either one of them joins the queue or the work goes on, freely (R32, R75, R103, R139, R163). -/
def tick (s : State) : State :=
  match works s, dueEvents s with
  | [], [] => elapse 1 s
  | [], _ => queueDue s
  | _, [] => goOn (Config.freeCut s.cuts + 1) s
  | _, _ =>
    match Config.freeCut s.cuts with
    | 0 => queueDue { s with cuts := s.cuts + 1 }
    | k => goOn k s

end Sys2Proof.Machine
end

