-- ==== Sys2Proof/Machine/Dispatch.lean ====
section
/-! DEFINITION. One arm for each command of `spec/opcode_table.json`, in the table's order. -/

namespace Sys2Proof.Machine

open Sys2Proof

/-- A command's effect on everything but the command queue. -/
def exec (i : Instr) (s : State) : Host.Outcome State Fault Refusal :=
  match i with
  | .powerOnReset straps memory => Sys2Proof.Machine.execPowerOnReset straps memory s
  | .warmReset straps memory => Sys2Proof.Machine.execWarmReset straps memory s
  | .stationStart => Sys2Proof.Machine.execStationStart s
  | .passTimerExpiry => Sys2Proof.Machine.execPassTimerExpiry s
  | .probeHoldExpiry probe => Sys2Proof.Machine.execProbeHoldExpiry probe s
  | .passClose => Sys2Proof.Machine.execPassClose s
  | .extraReportDue => Sys2Proof.Machine.execExtraReportDue s
  | .regularReport => Sys2Proof.Machine.execRegularReport s
  | .scanRound => Sys2Proof.Machine.execScanRound s
  | .sampleEvent probe code => Sys2Proof.Machine.execSampleEvent probe code s
  | .frameReceived frame => Sys2Proof.Machine.execFrameReceived frame s
  | .roomReport => Sys2Proof.Machine.execRoomReport s
  | .modeNotice => Sys2Proof.Machine.execModeNotice s
  | .boostTimerExpiry loop => Sys2Proof.Machine.execBoostTimerExpiry loop s
  | .roomEntersHeld room => Sys2Proof.Machine.execRoomEntersHeld room s
  | .roomStale room => Sys2Proof.Machine.execRoomStale room s
  | .stationReport => Sys2Proof.Machine.execStationReport s
  | .peerStale station => Sys2Proof.Machine.execPeerStale station s
  | .peerRemoval station => Sys2Proof.Machine.execPeerRemoval station s
  | .sourceReport => Sys2Proof.Machine.execSourceReport s
  | .sourceStale => Sys2Proof.Machine.execSourceStale s
  | .unusedFrame => Sys2Proof.Machine.execUnusedFrame s
  | .readLoop => Sys2Proof.Machine.execReadLoop s
  | .readFaults => Sys2Proof.Machine.execReadFaults s
  | .readPeers => Sys2Proof.Machine.execReadPeers s
  | .readTrim => Sys2Proof.Machine.execReadTrim s
  | .startDryout => Sys2Proof.Machine.execStartDryout s
  | .stopDryout => Sys2Proof.Machine.execStopDryout s
  | .recalibrate => Sys2Proof.Machine.execRecalibrate s
  | .clearFaults => Sys2Proof.Machine.execClearFaults s
  | .alertMask => Sys2Proof.Machine.execAlertMask s
  | .alertEnable => Sys2Proof.Machine.execAlertEnable s
  | .unknownRequest => Sys2Proof.Machine.execUnknownRequest s
  | .dryoutHour prog => Sys2Proof.Machine.execDryoutHour prog s
  | .dryoutStepEnd prog => Sys2Proof.Machine.execDryoutStepEnd prog s
  | .meterPulse => Sys2Proof.Machine.execMeterPulse s
  | .feedbackEdge channel phaseA phaseB => Sys2Proof.Machine.execFeedbackEdge channel phaseA phaseB s
  | .stall channel => Sys2Proof.Machine.execStall channel s
  | .moveTimeout channel => Sys2Proof.Machine.execMoveTimeout channel s
  | .phaseLimitExpiry channel => Sys2Proof.Machine.execPhaseLimitExpiry channel s
  | .settlingEnd channel => Sys2Proof.Machine.execSettlingEnd channel s
  | .calibrationSettlingEnd channel => Sys2Proof.Machine.execCalibrationSettlingEnd channel s
  | .reversingEnd channel => Sys2Proof.Machine.execReversingEnd channel s
  | .calOpenDeadIntervalEnd channel => Sys2Proof.Machine.execCalOpenDeadIntervalEnd channel s
  | .transmitStart => Sys2Proof.Machine.execTransmitStart s
  | .arbitrationLost => Sys2Proof.Machine.execArbitrationLost s
  | .arbitrationWon => Sys2Proof.Machine.execArbitrationWon s
  | .frameSent => Sys2Proof.Machine.execFrameSent s
  | .frameBrokenOff => Sys2Proof.Machine.execFrameBrokenOff s

end Sys2Proof.Machine
end

