-- ==== Sys2Proof/Safety.lean ====
section
/-! DEFINITION. The laws that the manual states of the station at every moment, and the frames of its operations: what
an operation leaves as it was. Statements are written in these terms. -/

namespace Sys2Proof.Machine

open Sys2Proof

/-! ## Laws -/

/-- An entry may carry another directly above it: its profile is defined and allows overrides (R5, R7). -/
def carriesOverride (s : State) (e : Entry) : Bool :=
  match profileAt s e.profile with
  | some p => p.overrides
  | none => false

/-- An entry names a defined profile of an override kind (R4). -/
def overrideEntry (s : State) (e : Entry) : Bool :=
  match profileAt s e.profile with
  | some p => !baseKind p.kind
  | none => false

/-- An entry of owner BASE that names a defined profile of a base kind (R4). -/
def baseEntry (s : State) (e : Entry) : Bool :=
  match profileAt s e.profile with
  | some p => baseKind p.kind && e.owner == .base
  | none => false

/-- Every entry above `below` names an override kind and stands on an entry that allows it. -/
def stacked (s : State) : Entry → List Entry → Bool
  | _, [] => true
  | below, e :: above => carriesOverride s below && overrideEntry s e && stacked s e above

/-- The law of a chain (R7): 1 to 3 entries, a base kind at the bottom, override kinds above, and no entry above one
whose profile has overrides allowed = no. -/
def chainLaw (s : State) (chain : List Entry) : Bool :=
  match chain with
  | [] => false
  | bottom :: above => decide (above.length ≤ 2) && baseEntry s bottom && stacked s bottom above

/-- Every present loop's chain keeps its law. -/
def ChainsLaw (s : State) : Prop := ∀ n l, s.loops.get n = some l → chainLaw s l.chain = true

/-- The laws of the fault recorder (R160, Table 11.2, Table 11.3, R163): the pointer is empty with an empty record and
a clear overflow flag, or names a kind whose status is set and whose record is held; a slot holds a latest pending
exactly while its pending flag is set; and nothing pends while the enable is off. -/
def RecorderLaw (r : Recorder) : Prop :=
  (match r.pointer, r.record with
    | none, none => r.overflow = false
    | some k, some e => e.kind = k ∧ (r.kinds.get (kindIndex k)).status = true
    | _, _ => False) ∧
  (∀ i, (r.slots.get i).latest.isSome = (r.slots.get i).pending) ∧
  (r.enable = false → ∀ i, (r.slots.get i).pending = false)

/-- The channel holds a drive slot. -/
def holdsSlot (a : Arbiter) (n : Fin 12) : Prop := ∃ i e, a.slots.get i = some e ∧ e.channel = n

/-- The law of the drive queue and the slots (R129, R133): one entry per channel, none for a channel that holds a
slot, and at most one slot per channel. -/
def ArbiterLaw (a : Arbiter) : Prop :=
  (a.queue.map (·.channel)).Nodup ∧
  (∀ e ∈ a.queue, ¬ holdsSlot a e.channel) ∧
  (∀ i j e f, a.slots.get i = some e → a.slots.get j = some f → e.channel = f.channel → i = j)

/-- The law that binds the channels to the arbiter (Table 7.2, R113, R130 to R133): an entry exactly while QUEUED, a
slot exactly in the states that hold one. Before the station's start no channel waits or drives, no pass, no trim
update, no mode notice and no operation of the sequencer is in progress (R127, R50, R103, R18, R139), and no frame and no mode
notice waits (R152, R21). -/
def DriveLaw (s : State) : Prop :=
  ArbiterLaw s.arbiter ∧
  (∀ n, (entryOf s n).isSome = true ↔ (s.channels.get n).state = .queued) ∧
  (∀ n, holdsSlot s.arbiter n ↔ slotState (s.channels.get n).state = true) ∧
  (s.loader.state = .loading → s.engine.timer = none ∧ s.engine.visit = none ∧ s.engine.work = none ∧
    s.valves.update = none ∧ s.visiting = none ∧ s.operation = none ∧ s.bus.rx = [] ∧ s.rooms.notices = [] ∧
    ∀ n, (s.channels.get n).state = .uncalibrated ∨ (s.channels.get n).state = .idle)

/-- Ranges that hold at every moment: the trim factor (R107), the receive queue (R150), the bus counters
(chapter 10), the meter's volume remainder (R99) and the position counters (R110). -/
def RangeLaw (s : State) : Prop :=
  (700 ≤ s.valves.trim ∧ s.valves.trim ≤ 1300) ∧
  s.bus.rx.length ≤ 8 ∧
  (s.bus.frameCheck ≤ 65535 ∧ s.bus.overflow ≤ 65535 ∧ s.bus.unused ≤ 65535 ∧ s.bus.dropped ≤ 65535) ∧
  s.meter.remainder < 1000 ∧
  ∀ n, -1024 ≤ (s.channels.get n).counter ∧ (s.channels.get n).counter ≤ 5119

/-- The drive queue at rest (R134, R135): while a slot is free, no entry waits that may start. -/
def GrantLaw (a : Arbiter) : Prop :=
  (∀ i, (a.slots.get i).isSome = true) ∨ ∀ e ∈ a.queue, e.kind = .calibrate ∧ a.defrost = true

/-- What the allocations of the present loops sum to. -/
def allocated (s : State) : Nat :=
  (((List.finRange 12).filter fun n => (s.loops.get n).isSome).map fun n => (s.engine.loops.get n).qAlloc).sum

/-- The law of a pass in progress (R48, R49, R64): the loops are read in loop-number order, what is kept of them are the
readings of those in service, and an out-of-service loop that has been read has no allocation; from stage 3 to the close the
allocations of the present loops, with those that stage 4 has still to make, sum to at most the grant, and no loop has two
bypass additions. A trim update follows
a close and ends before the next pass opens (R103, R107). -/
def PassLaw (s : State) : Prop :=
  (∀ v, s.engine.visit = some v → s.engine.work = none ∧
    match v.stage with
    | .read todo readings => ∃ m, todo = (List.finRange 12).drop m ∧
      readings.map (·.loop) = ((List.finRange 12).take m).filter (fun n =>
        (s.loops.get n).isSome && (s.engine.loops.get n).inService) ∧
      ∀ n ∈ (List.finRange 12).take m, (s.loops.get n).isSome = true → (s.engine.loops.get n).inService = false →
        (s.engine.loops.get n).qAlloc = 0
    | .allocate g todo =>
      (g.additions.map (·.loop)).Nodup ∧ allocated (todo.foldl (allocateLoop g) s) ≤ g.work.g
    | .target g _ todo =>
      (g.additions.map (·.loop)).Nodup ∧ allocated (todo.foldl (allocateLoop g) s) ≤ g.work.g) ∧
  (∀ w, s.engine.work = some w → allocated s ≤ w.g) ∧
  (s.valves.update ≠ none → s.engine.visit = none ∧ s.engine.work = none)

/-! ## What a pass makes of one loop -/

/-- The channel and the valve table let the loop serve (R48). -/
def Servable (s : State) (n : Fin 12) (l : Loop) : Prop :=
  (s.channels.get n).calibrated = true ∧ (s.channels.get n).state ≠ .disabled ∧ validTable s l.info.valveType ≠ none

/-- Stages 1 and 2 of one loop (R48, R51 to R61): `s` is the state in which the loop is read, `o` what the opening has
read, and `t` a state after them. An absent loop is not visited. An out-of-service loop asks for nothing and keeps
integrator, last demand and flag. An in-service loop takes its demand, its open-settled counter, its drop and its
request; its allocation, scaled flag and target belong to the later stages. -/
def LoopRead (s : State) (o : Opening) (n : Fin 12) (t : State) : Prop :=
  let c := s.channels.get n
  let e := s.engine.loops.get n
  let f := t.engine.loops.get n
  (s.loops.get n = none → t.loops.get n = none ∧ f = e) ∧
  (∀ l, s.loops.get n = some l → ¬ Servable s n l → t.loops.get n = some l ∧
    f = { e with
      inService := false, qReq := 0, qAlloc := 0, reported := 0, scaled := false, openSettled := 0,
      lastTarget := none }) ∧
  (∀ l, s.loops.get n = some l → Servable s n l →
    let p := activeProfile s l.chain
    let room := roomSupply (roomRecord s l.info.room)
    let d := demandOf s o n p l.stale room e
    let drop := p.dropOverride.getD l.info.dropDes
    let settled := if (c.state = .idle ∨ c.state = .queued) ∧ (100 * c.stroke.getD 0 : Int) ≤ c.counter * 1000 then
      min 3 (e.openSettled + 1) else 0
    let value (k : Fin 14) : Option Int :=
      if (o.probes.get k).1 = .good ∨ (o.probes.get k).1 = .held then (o.probes.get k).2 else none
    let supply := value 12
    let back := value ⟨n.val, by omega⟩
    t.loops.get n = some { l with stale := l.stale && !(controlKind p.kind && room.isSome) } ∧
    f.inService = true ∧ f.dLast = some d.1 ∧ f.reported = d.1 ∧ f.integrator = d.2 ∧ f.openSettled = settled ∧
    (∀ ts tr, supply = some ts → back = some tr → settled = 3 → tr < ts →
      f.dropValid = true ∧ f.dropEff = some (max (ts - tr).toNat 100)) ∧
    ((supply = none ∨ back = none ∨ settled ≠ 3 ∨ ∃ ts tr, supply = some ts ∧ back = some tr ∧ ts ≤ tr) →
      f.dropValid = false ∧ f.dropEff = some drop) ∧
    ∃ eff, f.dropEff = some eff ∧ f.qReq = min l.info.qMax (d.1 * l.info.qDes * drop / (1000 * eff)))

/-- What the opening of a pass reads (R41, R44, R83, R84, R47): of each probe its state and value, a STARTING probe as
FAILED and channel 14 as FAILED while its implausible flag is set (assumption 39: the flag before this reading's check);
of the source record its values while it is FRESH, and HEATING with the fallback values otherwise; of the FRESH peers, and
of no other, station number, R and capability, in the order of their records; and the trim factor. -/
def OpeningReads (s : State) (o : Opening) : Prop :=
  let source := s.peers.source
  (∀ n : Fin 14, let p := s.scanner.probes.get n
    o.probes.get n =
      if n = 13 ∧ s.scanner.implausible = true then (.failed, none)
      else match p.state with
        | .unused => (.unused, none)
        | .starting | .failed => (.failed, none)
        | .good => (.good, p.filtered)
        | .held => (.held, p.held)) ∧
  (∀ st src low, source.validity = .fresh → source.state = some st → source.fSrc = some src →
    source.fMin = some low → o.source = st ∧ o.fSrc = src ∧ o.fMin = low) ∧
  (source.validity ≠ .fresh → o.source = .heating ∧ o.fSrc = s.config.fallbackSrc ∧ o.fMin = s.config.fallbackMin) ∧
  o.peers = (s.peers.peers.filter (·.fresh)).map (fun p => ⟨p.station.val + 1, p.core.r, p.core.capable⟩) ∧
  o.trim = s.valves.trim

/-- What stage 3 makes of the requests (R62, R63, R74, R85, R91): `s` is the state once every loop has been read, `o` what the
opening has read, `readings` the loops in service with profile and stroke as they were read. The results are those of the
sharing computation. -/
def GrantMade (s : State) (o : Opening) (readings : List LoopReading) (g : PassGrant) : Prop :=
  let present := (List.finRange 12).filter fun n => (s.loops.get n).isSome
  let serving := present.filter fun n => (s.engine.loops.get n).inService
  let qSum := (serving.map fun n => (s.engine.loops.get n).qReq).sum
  let cands := readings.filterMap fun r => (s.loops.get r.loop).bind fun l =>
    if l.info.bypass ∧ r.profile.kind ≠ .off then some ⟨r.loop, (s.engine.loops.get r.loop).qReq, l.info.qMax⟩ else none
  let sh := share (stationNumber s) (min 20000 qSum) o.fSrc o.fMin o.peers cands
  g.sum = qSum ∧ g.additions = sh.additions ∧ g.work =
    { r := min 20000 qSum
      b := sh.b
      g := sh.g
      rTot := sh.rTot
      case := some sh.case
      deficit := sh.deficit
      calling := (serving.filter fun n => decide (0 < (s.engine.loops.get n).qReq)).length
      outOfService := (present.filter fun n => !(s.engine.loops.get n).inService).length
      capable := !cands.isEmpty
      duty := sh.duty }

/-- What stage 3 leaves in recorder and bus (R88): BYPASS_SHORT is reported when a duty holder's candidates cannot carry the
deficit. -/
def ShortReported (s : State) (g : PassGrant) (t : State) : Prop :=
  (¬ (∃ d, g.work.deficit = some d ∧ g.work.duty = true ∧ g.work.b < d) →
    t.recorder = s.recorder ∧ t.bus = s.bus) ∧
  (∀ d, g.work.deficit = some d → g.work.duty = true → g.work.b < d →
    let u := report s ⟨.bypassShort, stationNumber s, (d : Int), g.work.b, none⟩
    t.recorder = u.recorder ∧ t.bus = u.bus)

/-- Stage 4 of one loop (R64, R65): its allocation and its scaled flag (assumption 36), from `before` to `e`. -/
def LoopAllocated (g : PassGrant) (n : Fin 12) (before e : EngineLoop) : Prop :=
  e.qAlloc = (if g.sum = 0 then 0 else before.qReq * (g.work.g - g.work.b) / g.sum) +
    ((g.additions.filter fun a => a.loop == n).map (·.flow)).sum ∧
  e.scaled = decide (e.qAlloc < before.qReq)

/-- The target that stages 5 and 6 give a loop in service (R66 to R69): from its position, or parked by its profile. -/
def LoopTargeted (o : Opening) (l : Loop) (v : ValveTable) (r : LoopReading) (qAlloc : Nat) (target : Option Nat) : Prop :=
  (r.profile.kind = .off → r.profile.park = .hold → target = none) ∧
  (r.profile.kind = .off → r.profile.park = .close → target = some 0) ∧
  (r.profile.kind = .off → r.profile.park = .park → target = some (l.info.commissioning * r.stroke / 1000)) ∧
  (r.profile.kind ≠ .off →
    target = some (positionFor v qAlloc (l.info.qFull * o.trim / 1000) * r.stroke / 1000))

/-- The buffer at the end of stage 6 in FALLBACK (R70): the stroke of every usable channel. -/
def FallbackBuffer (s : State) (buffer : Tab 12 (Option Nat)) : Prop :=
  ∀ n, buffer.get n =
    if (s.channels.get n).calibrated = true ∧ (s.channels.get n).state ≠ .disabled then (s.channels.get n).stroke else none

/-- Stages 3 to 6 as a whole (R62 to R70, R74, R88, R91): `s` is the state once every loop has been read, `o` what the opening
has read, `readings` the loops in service with profile and stroke as they were read, and `t` the state at the end of stage 6.
The station's results are those of the sharing computation; BYPASS_SHORT is reported when a duty holder's candidates
cannot carry the deficit; each loop in service takes its allocation, its scaled flag (assumption 36) and its target, which
fills its slot of the buffer; in FALLBACK the buffer holds the stroke of every usable channel; nothing else changes. -/
def PassStages (s : State) (o : Opening) (readings : List LoopReading) (t : State) : Prop :=
  let served := readings.map (·.loop)
  t = { s with
    engine := { s.engine with
      visit := none, work := t.engine.work, loops := t.engine.loops, buffer := t.engine.buffer }
    recorder := t.recorder
    bus := t.bus } ∧
  (∃ g, GrantMade s o readings g ∧ ShortReported s g t ∧ t.engine.work = some g.work ∧
    ∀ r ∈ readings, ∀ l v, s.loops.get r.loop = some l → validTable s l.info.valveType = some v →
      let before := s.engine.loops.get r.loop
      let e := t.engine.loops.get r.loop
      e = { before with qAlloc := e.qAlloc, scaled := e.scaled, lastTarget := e.lastTarget } ∧
      LoopAllocated g r.loop before e ∧ LoopTargeted o l v r e.qAlloc e.lastTarget) ∧
  (∀ n, n ∉ served → t.engine.loops.get n = s.engine.loops.get n) ∧
  (s.loader.state ≠ .fallback → ∀ n, t.engine.buffer.get n =
    if n ∈ served then (t.engine.loops.get n).lastTarget else s.engine.buffer.get n) ∧
  (s.loader.state = .fallback → FallbackBuffer s t.engine.buffer)

/-! ## The trim update -/

/-- What step 3 of a trim update leaves in the valve tables (R105, R106): `s` is the state that it finds, `p` the P of step 1,
`state` and `flow` what the measurement has returned, the in-window flow of the period if there is one. -/
def Judged (s : State) (p : Nat) (state : MeterState) (flow : Option Nat) (v : ValveTables) : Prop :=
  let c := s.valves.trim
  let quiet := s.valves.activity = false
  v.tables = s.valves.tables ∧ v.lastP = p ∧ v.update = none ∧
  (¬ quiet → v.lastJudgment = .notQuiet) ∧
  (quiet → state ≠ .good → v.lastJudgment = .meterNotGood) ∧
  (quiet → state = .good → (flow = none ∨ flow = some 0) → v.lastJudgment = .noSample) ∧
  (∀ m, quiet → state = .good → flow = some (m + 1) → p < 200 → v.lastJudgment = .lowFlow) ∧
  (v.lastJudgment ≠ .updated → v.trim = c ∧ v.lastTarget = none) ∧
  (∀ m, quiet → state = .good → flow = some (m + 1) → 200 ≤ p →
    v.lastJudgment = .updated ∧ v.lastTarget = some (c * (m + 1) / p) ∧
    (v.trim : Int) = max 700 (min 1300 ((c : Int) + (((c * (m + 1) / p : Nat) : Int) - c).tdiv 8))) ∧
  (v.activity = true ↔ ∃ n, (s.channels.get n).state ∈ ([.queued, .drivingOpen, .drivingClose, .reversing, .settling,
    .calClose, .calOpen] : List ChannelState))

/-- What a measurement's METER_FAULT, if it makes one, leaves in recorder and bus (R100, R101): its status is set, and an
unmasked one takes an empty pointer with the own station number, its cause and its value. -/
def FaultMade (s : State) (fault : Option (Int × Int)) (t : State) : Prop :=
  (fault = none → t.recorder = s.recorder ∧ t.bus = s.bus) ∧
  (∀ cause value, fault = some (cause, value) →
    let u := report s ⟨.meterFault, stationNumber s, cause, value, none⟩
    t.recorder = u.recorder ∧ t.bus = u.bus ∧ (t.recorder.kinds.get (kindIndex .meterFault)).status = true ∧
    (s.recorder.pointer = none → (s.recorder.kinds.get (kindIndex .meterFault)).masked = false →
      t.recorder.pointer = some .meterFault ∧
      t.recorder.record.map (fun e => (e.origin, e.item, e.first, e.second)) =
        some (.internal, stationNumber s, cause, value)))

/-! ## The attach checks, in the order of R8 -/

/-- The field code of the first check that fails, or 0 when all pass. -/
def firstFailingCheck (defined kind overrides depth program : Bool) : Nat :=
  if !defined then 1 else if !kind then 2 else if !overrides then 3 else if !depth then 4 else if !program then 5 else 0

/-- The field code of a boost push on a loop, 0 when it is taken. -/
def boostCode (s : State) (l : Loop) : Nat :=
  let p := profileAt s l.info.boostEntry
  firstFailingCheck p.isSome (p.any (·.kind == .boost)) (activeProfile s l.chain).overrides (l.chain.length ≤ 2) true

/-- The field code of a base switch to profile `number` on a chain, 0 when it is taken or nothing is to change. -/
def switchCode (s : State) (chain : List Entry) (number : Fin 16) : Nat :=
  let p := profileAt s number
  if chain.head?.all (·.profile == number) then 0
  else firstFailingCheck p.isSome (p.any (baseKind ·.kind)) (chain.length ≤ 1 || p.any (·.overrides)) true true

/-- The field code of a program's push of its profile on a chain, 0 when it is taken. -/
def dryCode (s : State) (prog : Prog) (number : Fin 16) (chain : List Entry) : Nat :=
  let p := profileAt s number
  firstFailingCheck p.isSome (p.any (·.kind == .dryout)) (activeProfile s chain).overrides (chain.length ≤ 2)
    (p.any (·.program == some prog) && (programDef s prog).isSome)

/-- The error record of the first PROFILE_REFUSED of a command (R9, R161): the loop, the field code, the profile number
and the frame, when there is one, that caused the change. -/
def refusalRecord (s : State) (n : Fin 12) (code : Nat) (number : Fin 16) (frame : Option Frame) : ErrorRecord where
  kind := .profileRefused
  severity := (s.recorder.kinds.get (kindIndex .profileRefused)).severity
  origin := if frame.isSome then .frame else .internal
  item := n.val + 1
  first := code
  second := number.val
  frame := frame.map fun f => ⟨f.kind, f.sender, f.content.take 8⟩

/-! ## The fields of the image, record by record (R1, R3, R93, R138, R168, R174) -/

/-- The check of each field of a record of section `code`, in the order of the fields. The fields of a loop record marked
not present are not judged. -/
def fieldRules (profiles : Tab 15 (Option Profile)) (code : Nat) (r : ImageRecord) : List (Nat → Bool) :=
  let v (k : Nat) : Nat := r.fields.getD (k - 1) 0
  let range (low high x : Nat) : Bool := decide (low ≤ x ∧ x ≤ high)
  let signed (x : Nat) : Int := (BitVec.ofNat 16 x).toInt
  match code with
  | 1 => [range 0 1000, range 0 100, range 5 100, range 0 60000,
      fun x => decide (x ≤ 60000 ∧ x ≤ if v 4 ≤ 60000 then v 4 else 0), range 0 1]
  | 2 => [range 0 1, range 0 2]
  | 3 => [range 0 65535, range 0 255, range 0 1]
  | 4 => [range 0 5, range 0 1,
      fun x => if v 2 = 0 then decide (-1000 ≤ signed x ∧ signed x ≤ 500) else decide (500 ≤ signed x ∧ signed x ≤ 3000),
      range 0 1000, fun x => decide (x = 0) || range 100 1500 x, range 2000 3500, range 0 1000, range 0 2, range 0 1,
      fun x => if v 1 = 5 then range 1 2 x else decide (x = 0)]
  | 5 => range 0 0 :: (List.range 9).map (fun k x => decide (v (k + 1) < x ∧ x ≤ 1000)) ++
      [fun x => decide (v 10 < 1000 ∧ x = 1000), range 10 200]
  | 6 => [fun x => (List.finRange 15).any fun k => decide (x = k.val + 1) && (profiles.get k).any fun p =>
        p.kind == .dryout && p.program.any fun q => decide (progNumber q = r.number),
      range 1 4095, range 1 32] ++ (List.range (min 32 (v 3))).flatMap fun _ => [range 0 1000, range 1 240]
  | 7 => if r.fields.head? = some 0 then [] else
      [range 0 1, range 1 63, range 1 4, range 20 1500, range 100 1500, range 20 4000, range (v 4) 4000, range 0 1000,
        range 0 1, range 0 15, range 0 15, range 0 15, range 0 15, range 0 15, range 200 4000]
  | 8 => [range 1 1000, range 100 60000]
  | _ => []

/-- The first field, counted from 1, that the record lacks or whose check fails. -/
def failingField (rules : List (Nat → Bool)) (fields : List Nat) : Option Nat :=
  ((List.range rules.length).find? fun i => !(fields[i]?).any (rules.getD i fun _ => true)).map (· + 1)

/-- Record numbers of a section (R168). -/
def recordNumbers (code : Nat) : List Nat :=
  match code with
  | 1 => [0]
  | 2 => [1, 2, 3, 4, 5, 6, 7, 8, 9, 10, 11, 12, 13, 14, 15, 16]
  | 3 => [1, 2, 3, 4]
  | 4 => [1, 2, 3, 4, 5, 6, 7, 8, 9, 10, 11, 12, 13, 14, 15]
  | 5 => [1, 2, 3, 4]
  | 6 => [1, 2]
  | 7 => [1, 2, 3, 4, 5, 6, 7, 8, 9, 10, 11, 12]
  | 8 => [0]
  | _ => []

/-- The CONFIG_FAULTs of a load as item, first and second value (R168, R174): sections with an unknown code first; then
for each section code the records whose number is out of range or repeated, and after them the first failing field of
each of the others. -/
def imageFaults (profiles : Tab 15 (Option Profile)) (sections : List ImageSection) : List (Nat × Nat × Nat) :=
  let unknown (sec : ImageSection) : Option (Nat × Nat × Nat) :=
    if 1 ≤ sec.code ∧ sec.code ≤ 8 then none else some (0, sec.code, 0)
  let fresh (code : Nat) (x : ImageRecord × Nat) : Bool :=
    !((recordsOf sections code).take x.2).any fun r => r.number == x.1.number
  let numbered (code : Nat) (x : ImageRecord × Nat) : Option (Nat × Nat × Nat) :=
    if !(recordNumbers code).contains x.1.number then some (0, code, 0)
    else if fresh code x then none else some (x.1.number, code, 0)
  let judged (code : Nat) (x : ImageRecord × Nat) : Option (Nat × Nat × Nat) :=
    if (recordNumbers code).contains x.1.number && fresh code x then
      (failingField (fieldRules profiles code x.1) x.1.fields).map fun k => (x.1.number, code, k)
    else none
  sections.filterMap unknown ++ ([1, 2, 3, 4, 5, 6, 7, 8] : List Nat).flatMap fun code =>
    (recordsOf sections code).zipIdx.filterMap (numbered code) ++ (recordsOf sections code).zipIdx.filterMap (judged code)

/-! ## Frames -/

/-- At most the fault recorder, and what its alerts do at the bus, differ. -/
def FaultFrame (s t : State) : Prop :=
  ∃ r alert placing tx, t = { s with recorder := r, bus := { s.bus with alert := alert, placing := placing, tx := tx } }

/-- At most the chains, flags and boost timers of the loop table, and what a fault touches, differ. -/
def ChainFrame (s t : State) : Prop :=
  ∃ loops r alert placing tx, t = { s with
    loops := loops, recorder := r, bus := { s.bus with alert := alert, placing := placing, tx := tx } }

/-- At most the loops, what is left of the mode notice in progress, and what a fault touches, differ: what carrying out a mode
notice may change. -/
def NoticeFrame (s t : State) : Prop :=
  ∃ loops visiting r alert placing tx, t = { s with
    loops := loops, visiting := visiting, recorder := r, bus := { s.bus with alert := alert, placing := placing, tx := tx } }

/-- At most the channels, the arbiter, the activity flag, and what a fault touches, differ. -/
def DriveFrame (s t : State) : Prop :=
  ∃ channels a active r alert placing tx,
    t = { s with
      channels := channels
      arbiter := a
      valves := { s.valves with activity := active }
      recorder := r
      bus := { s.bus with alert := alert, placing := placing, tx := tx } }

/-- At most the loops, the program instances, the operation in progress, the reply slot, and what a fault touches, differ: what
the dry-out sequencer may change. -/
def DryFrame (s t : State) : Prop :=
  ∃ loops one two operation r alert placing reply tx,
    t = { s with
      loops := loops
      programOne := one
      programTwo := two
      operation := operation
      recorder := r
      bus := { s.bus with alert := alert, placing := placing, reply := reply, tx := tx } }

/-- At most the loops, the engine, and what a fault touches, differ: what the stages of a pass may change. -/
def PassFrame (s t : State) : Prop :=
  ∃ loops engine r alert placing tx,
    t = { s with
      loops := loops
      engine := engine
      recorder := r
      bus := { s.bus with alert := alert, placing := placing, tx := tx } }

/-- At most the valve tables, the flow meter counter, and what a fault touches, differ: what a trim update may change. -/
def TrimFrame (s t : State) : Prop :=
  ∃ valves meter r alert placing tx,
    t = { s with
      valves := valves
      meter := meter
      recorder := r
      bus := { s.bus with alert := alert, placing := placing, tx := tx } }

/-! ## Frames of the receive queue and replies -/

/-- The state with the head frame taken off the receive queue. -/
def popped (s : State) : State := { s with bus := { s.bus with rx := s.bus.rx.tail } }

/-- A SERVICE request that passes the checks of R156: it heads the queue, comes from a tool, is addressed to this
station, and the reply slot is empty. The request before it has been answered (R151). -/
def accepted (s : State) (f : Frame) (code : Byte) (args : List Byte) : Prop :=
  s.bus.rx.head? = some f ∧ f.kind = 5 ∧ 10 ≤ f.sender.toNat ∧ f.sender.toNat ≤ 15 ∧
  f.content = BitVec.ofNat 8 (stationNumber s) :: code :: args ∧ s.bus.reply = none ∧ requestOpen s = false

/-- `t` with a SERVICE reply placed in the reply slot (R156, section 13.3). -/
def replied (t : State) (f : Frame) (code : Byte) (result part last : Byte) (data : List Byte) : State :=
  { t with bus := { t.bus with
      reply := some ⟨6, ownAddress t, [BitVec.ofNat 8 f.sender.toNat, code, result, part, last] ++ data⟩
      tx := if t.bus.tx = .idle then .waiting else t.bus.tx } }

/-- `s` with a STATION report of its own values placed in the report slot (R153): its R and its moment remembered, a due
extra report cleared, the rotation advanced. -/
def reported (s : State) : State :=
  { s with bus := { s.bus with
      report := some ⟨3, ownAddress s, reportContent s⟩
      tx := if s.bus.tx = .idle then .waiting else s.bus.tx
      lastR := s.engine.result.r
      lastReportAt := some s.now
      extraDue := none
      rotation := match s.bus.rotation with
        | .faults => .dryout
        | .dryout => .trim
        | .trim => .faults } }

end Sys2Proof.Machine
end

