-- ==== Sys2Proof/WellFormed.lean ====
section
/-! DEFINITION. Which commands the outside can send. Most operands are well formed by their type (a 3-bit strap
number, a 12-bit code, a channel of twelve); the checks below are for the others. Meanings do not depend on them: an
ill-formed command changes nothing or is refused by the rule that judges it. -/

namespace Sys2Proof

/-- The fields follow one another on the line (section 13.1): content only after a whole length and at most as much
as the length announces, a check only after the whole content, and of the field within which the line went idle fewer
bits than it has; none after a whole check. -/
def RxFrame.wellFormed (f : RxFrame) : Bool :=
  match f.length with
  | none => f.content.isEmpty && f.check.isNone && decide (f.rest.length < 6)
  | some n =>
    if f.content.length < n.toNat then f.check.isNone && decide (f.rest.length < 8)
    else decide (f.content.length = n.toNat) &&
      (if f.check.isNone then decide (f.rest.length < 16) else f.rest.isEmpty)

/-- A room number (section 5.3 of `00_scope.md`: rooms 1 to 63; 0 means no room). -/
def roomNumberOk (room : Nat) : Bool := decide (1 ≤ room) && decide (room ≤ 63)

/-- A memory content the loader can address: a 16-bit length reaches at most 65535 words (section 13.4). -/
def memoryOk (memory : Option (List Word16)) : Bool :=
  match memory with
  | none => true
  | some words => decide (words.length ≤ 65535)

/-- The well-formed commands. -/
def Instr.wellFormed : Instr → Bool
  | .powerOnReset _ memory => memoryOk memory
  | .warmReset _ memory => memoryOk memory
  | .frameReceived frame => frame.wellFormed
  | .roomEntersHeld room => roomNumberOk room
  | .roomStale room => roomNumberOk room
  | .stationStart | .passTimerExpiry | .probeHoldExpiry _ | .passClose | .extraReportDue | .regularReport
  | .scanRound | .sampleEvent _ _ | .roomReport | .modeNotice | .boostTimerExpiry _ | .stationReport
  | .peerStale _ | .peerRemoval _ | .sourceReport | .sourceStale | .unusedFrame | .readLoop | .readFaults
  | .readPeers | .readTrim | .startDryout | .stopDryout | .recalibrate | .clearFaults | .alertMask | .alertEnable
  | .unknownRequest | .dryoutHour _ | .dryoutStepEnd _ | .meterPulse | .feedbackEdge _ _ _ | .stall _
  | .moveTimeout _ | .phaseLimitExpiry _ | .settlingEnd _ | .calibrationSettlingEnd _ | .reversingEnd _
  | .calOpenDeadIntervalEnd _ | .transmitStart | .arbitrationLost | .arbitrationWon | .frameSent
  | .frameBrokenOff => true

end Sys2Proof
end

