-- ==== Sys2Proof/Certificates/Slice0/Obligations.lean ====
section
/-! DEFINITION. The statements for the provers, in the order of the chapters: the machine, resets and start, loops and
chains, rooms, probes, the pass, sharing and flow, peers and source, requests, dry-out, channels, the bus, faults, and
the laws that every step keeps. -/

open Sys2Proof Sys2Proof.Machine

/-! ## The machine -/

/-- A step carries out the command at the front of the queue on the state with the queue's rest. -/
def Obligations.StepRunsFrontCommand : Prop :=
  ∀ (c : Instr) (rest : List Instr) (s : State),
    step (s.withPending (c :: rest)) = exec c (s.withPending rest)

/-- The idle step (assumptions 1, 4 and 12, the model's choice). What work is in progress; while there is none and an own event
is due, one that is due joins the queue and nothing else changes but the counter of free values; while there is none and none
is due, 1 ms passes, and ages rise to the step past their limit. Work in progress makes at least one more step while nothing is
due; while an event is due, either it joins the queue or a work goes on (R32, R75, R103, R139, R163, R167). No time passes
before all work has ended, a piece of work touches no channel, no queue and no record of a room or a peer, and some number of
steps ends each work. -/
def Obligations.IdleStepQueuesADueEventOrLetsTimePass : Prop :=
  (∀ (s : State) (w : Work), w ∈ works s ↔ match w with
    | .load => s.loader.state = .loading ∧ loadFaults s ≠ []
    | .pass => s.engine.visit ≠ none
    | .trim => s.valves.update ≠ none
    | .notice => s.visiting ≠ none
    | .dryout => s.operation ≠ none
    | .alerts => s.bus.placing ≠ []) ∧
  (∀ s : State, s.pending = [] → works s = [] → dueEvents s ≠ [] →
    ∃ i ∈ dueEvents s, ∃ draws, step s = .next { s with pending := [i], draws := draws }) ∧
  (∀ s : State, s.pending = [] → works s = [] → dueEvents s = [] →
    step s = .next (elapse 1 s) ∧ (elapse 1 s).now = s.now + 1 ∧ (elapse 1 s).recorder = s.recorder ∧
    (elapse 1 s).arbiter = s.arbiter ∧ (elapse 1 s).pending = [] ∧
    ∀ n, ((elapse 1 s).channels.get n).counter = (s.channels.get n).counter ∧
      ((elapse 1 s).channels.get n).state = (s.channels.get n).state) ∧
  (∀ s : State, s.pending = [] → works s ≠ [] → dueEvents s = [] → ∃ w ∈ works s, ∃ k draws, 0 < k ∧
    step s = .next (piece (workStep w) k { s with draws := draws })) ∧
  (∀ s : State, s.pending = [] → works s ≠ [] → dueEvents s ≠ [] →
    (∃ i ∈ dueEvents s, ∃ draws, step s = .next { s with pending := [i], draws := draws, cuts := s.cuts + 1 }) ∨
    ∃ w ∈ works s, ∃ k draws, 0 < k ∧ step s = .next (piece (workStep w) k { s with draws := draws })) ∧
  (∀ (s : State) (w : Work) (k : Nat),
    let t := piece (workStep w) k s
    t.cuts = s.cuts + 1 ∧ t.now = s.now ∧ t.draws = s.draws ∧ t.pending = s.pending ∧ t.channels = s.channels ∧
    t.phases = s.phases ∧ t.arbiter = s.arbiter ∧ t.rooms = s.rooms ∧ t.peers = s.peers ∧ t.scanner = s.scanner ∧
    t.config = s.config ∧ t.bus.rx = s.bus.rx) ∧
  (∀ (s : State) (w : Work), ∃ k, w ∉ works (times (workStep w) k s)) ∧
  (∀ (a : Age) (limit d : Nat), a.secs * 1000 + a.ms ≤ (limit + 1) * 1000 →
    (a.after limit d).secs * 1000 + (a.after limit d).ms = min (a.secs * 1000 + a.ms + d) ((limit + 1) * 1000))

/-! ## Resets and start (chapter 12) -/

/-- The values after power-on reset. The manual's tables give those of every block (R35, R50, R76, R97, R107, R127, R129,
R139, R152, R159, R165, R167). The meter state, the source state seen, the enable and the empty slots between a reset and
the start are the model's (assumption 2), and so are the straps and the memory that State.reset stands for
(assumption 3). -/
def Obligations.PowerOnValuesOfTheTables : Prop :=
  State.reset.loader.state = .loading ∧ State.reset.loader.station = 0 ∧ State.reset.loader.imageStatus = .missing ∧
  State.reset.loader.reported = 0 ∧ (∀ n, State.reset.loops.get n = none) ∧ State.reset.visiting = none ∧
  (∀ n, State.reset.channels.get n =
    { state := .uncalibrated, counter := 0, stroke := none, calibrated := false, live := none, rest := 0,
      move := none, blocked := 0, seatError := none, illegalTotal := 0, remembered := false, wait := none }) ∧
  State.reset.arbiter.queue = [] ∧ (∀ i, State.reset.arbiter.slots.get i = none) ∧ State.reset.arbiter.defrost = false ∧
  State.reset.valves =
    { tables := Tab.fill 4 none, trim := 1000, activity := true, lastP := 0, lastJudgment := .notQuiet,
      lastTarget := none, update := none } ∧
  State.reset.meter =
    { counting := false, pulses := 0, old := 0, new := 0, sub := 0, flow := 0, sample := .none, state := .unconfigured,
      zeroRun := 0, recoveryRun := 0, total := 0, remainder := 0, pitch := none, maximum := none } ∧
  State.reset.engine.timer = none ∧ (∀ n, State.reset.engine.buffer.get n = none) ∧
  State.reset.engine.visit = none ∧ State.reset.engine.work = none ∧
  (∀ n, State.reset.engine.loops.get n =
    { integrator := 0, dLast := none, reported := 0, scaled := false, openSettled := 0, inService := false, qReq := 0,
      qAlloc := 0, dropEff := none, dropValid := false, lastTarget := none }) ∧
  State.reset.engine.result =
    { r := 0, b := 0, g := 0, rTot := 0, case := none, deficit := none, calling := 0, outOfService := 0,
      capable := false, duty := false } ∧
  (∀ n, State.reset.engine.demands.get n = 0) ∧ State.reset.engine.sourceSeen = .heating ∧
  State.reset.peers =
    { peers := [], source := ⟨.never, ⟨0, 0⟩, none, none, none, none⟩, foreignReports := 0, refusedReports := 0 } ∧
  State.reset.rooms = { records := [], ignored := 0, refused := 0, notices := [] } ∧
  (∀ n, State.reset.scanner.probes.get n = ⟨.unused, none, none, [], none, 0, none, 0⟩) ∧
  State.reset.scanner.implausible = false ∧ State.reset.scanner.timer = none ∧
  (∀ p, instanceOf State.reset p = ⟨.idle, none, 0, ⟨0, 0⟩, []⟩) ∧ State.reset.operation = none ∧
  State.reset.bus =
    { tx := .idle, rx := [], report := none, alert := none, placing := [], reply := none, frameCheck := 0, overflow := 0,
      unused := 0, dropped := 0, reportTimer := none, lastR := 0, lastReportAt := none, extraDue := none, rotation := .faults } ∧
  (∀ k, State.reset.recorder.kinds.get k =
    { status := false
      masked := decide (k = 10)
      severity :=
        if k = 9 ∨ k = 13 then .serious
        else if k = 0 ∨ k = 2 ∨ k = 3 ∨ k = 5 then .degraded
        else .advisory }) ∧
  State.reset.recorder.pointer = none ∧ State.reset.recorder.record = none ∧ State.reset.recorder.overflow = false ∧
  (∀ i, State.reset.recorder.slots.get i = ⟨0, 0, false, false, none⟩) ∧ State.reset.recorder.enable = true

/-- POWER_ON_RESET (R167): every block at its power-on value, LOADING, the station number from the straps, and the
image judged as a whole in the order of R167's table; its words are what the records are judged from (`ImageRecordsAreJudged`)
when its status is OK, and no word of it is used otherwise. That a section's length leaves out its two opening words and
what a left-over word or an image of fewer than three words gives are the model's (assumption 7), and so are that the
feedback pins stand (assumption 33) and that the loader remembers that the load began at power-on (assumption 28). -/
def Obligations.PowerOnResetBeginsALoad : Prop :=
  (∀ (straps : BitVec 3) (memory : Option (List Word16)) (s : State), ∃ t,
    exec (.powerOnReset straps memory) s = .next t ∧ stationNumber t = straps.toNat + 1 ∧
    t = { State.reset with
      loader :=
        { state := .loading
          station := straps.toFin
          imageStatus := (checkImage memory).status
          imageLength := (checkImage memory).length
          image := (checkImage memory).image
          warm := false
          reported := 0 }
      phases := s.phases, now := s.now, draws := s.draws, cuts := s.cuts, pending := s.pending }) ∧
  (checkImage none).status = .missing ∧ (checkImage none).length = none ∧
  (∀ words : List Word16, words.length < 2 →
    (checkImage (some words)).status = .missing ∧ (checkImage (some words)).length = none) ∧
  (∀ (format length : Word16) (rest : List Word16),
    let words := format :: length :: rest
    let image := (words.take length.toNat).map BitVec.toNat
    (checkImage (some words)).length = some length.toNat ∧
    (checkImage (some words)).status =
      (if words.length < length.toNat then .missing
      else if image.sum % 65536 ≠ 0xFFFF then .badSum
      else if imageSections image = none then .badSum
      else if format.toNat ≠ 1 then .badFormat
      else .ok) ∧
    ((checkImage (some words)).status = .ok → (checkImage (some words)).image = words.take length.toNat)) ∧
  (∀ memory, (checkImage memory).status ≠ .ok → (checkImage memory).image = [])

/-- WARM_RESET (R171, R127, R165, R139, R99, R107): the command completes in every state. What R171 lists is kept, every other
item of every block takes its reset value, and the loader reads straps, image status, length and words afresh; what every
channel becomes, what the recorder keeps and what the programs keep are said item by item. Work in progress is abandoned. Of a
trim update the trim factor stands as it is, with what a measurement already made has left in total and statuses (R50, R103).
Of an operation of the sequencer its program keeps what it held before the operation began, or, where the operation had set
the new instance state, that state, with the member set of before in either case; that the step and the hours which the
operation has set together with the new state stay with it is the model's reading (assumption 47). A load abandoned keeps in
the recorder what it has reported, and the new load has its faults all to report. What blocks hold between the
reset and the start where the manual gives no value is the model's (assumption 2: among it masks, severities and slots at
their defaults, the source state seen, UNUSED probes and a rest position of 0), and so are that the feedback pins stand
(assumption 33) and that the loader remembers a warm load (assumption 28). -/
def Obligations.WarmResetKeepsWhatTheManualLists : Prop :=
  ∀ (straps : BitVec 3) (memory : Option (List Word16)) (s : State), ∃ t,
    exec (.warmReset straps memory) s = .next t ∧ stationNumber t = straps.toNat + 1 ∧
    t = { State.reset with
      loader :=
        { state := .loading
          station := straps.toFin
          imageStatus := (checkImage memory).status
          imageLength := (checkImage memory).length
          image := (checkImage memory).image
          warm := true
          reported := 0 }
      valves := { State.reset.valves with trim := s.valves.trim }
      meter := { State.reset.meter with total := s.meter.total, remainder := s.meter.remainder }
      channels := t.channels
      phases := s.phases
      programOne := t.programOne
      programTwo := t.programTwo
      recorder := { s.recorder with kinds := t.recorder.kinds, slots := t.recorder.slots, enable := true }
      now := s.now, draws := s.draws, cuts := s.cuts, pending := s.pending } ∧
    (∀ k, t.recorder.kinds.get k =
      { State.reset.recorder.kinds.get k with status := (s.recorder.kinds.get k).status }) ∧
    (∀ i, t.recorder.slots.get i = { s.recorder.slots.get i with kinds := 0, tag := 0 }) ∧
    (∀ p, ∃ kept : DryInstance,
      (∀ o, s.operation = some o → o.prog = p → (instanceOf s p).state = o.before.state → kept = o.before) ∧
      (∀ o, s.operation = some o → o.prog = p → (instanceOf s p).state ≠ o.before.state →
        kept = { instanceOf s p with members := o.before.members }) ∧
      ((∀ o, s.operation = some o → o.prog ≠ p) → kept = instanceOf s p) ∧
      instanceOf t p =
        { kept with
          part := ⟨0, 0⟩
          members := if kept.state = .done ∨ kept.state = .aborted then [] else kept.members }) ∧
    (∀ n, t.channels.get n =
      { State.reset.channels.get n with
        state := (t.channels.get n).state
        calibrated := (t.channels.get n).calibrated
        counter := (s.channels.get n).counter
        stroke := (s.channels.get n).stroke }) ∧
    (∀ n, (s.channels.get n).state = .idle ∨ (s.channels.get n).state = .drivingOpen ∨
        (s.channels.get n).state = .drivingClose ∨ (s.channels.get n).state = .reversing ∨
        ((s.channels.get n).state = .queued ∧ (entryOf s n).map (·.kind) = some .move) ∨
        ((s.channels.get n).state = .settling ∧ (s.channels.get n).move.map (·.kind) = some .move) ∨
        ((s.channels.get n).state = .disabled ∧ (s.channels.get n).calibrated = true) →
      (t.channels.get n).state = .idle ∧ (t.channels.get n).calibrated = true) ∧
    (∀ n, (s.channels.get n).state = .uncalibrated ∨ (s.channels.get n).state = .calClose ∨
        (s.channels.get n).state = .calOpen ∨
        ((s.channels.get n).state = .queued ∧ (entryOf s n).map (·.kind) = some .calibrate) ∨
        ((s.channels.get n).state = .settling ∧ (s.channels.get n).move.map (·.kind) = some .calibrate) ∨
        ((s.channels.get n).state = .disabled ∧ (s.channels.get n).calibrated = false) →
      (t.channels.get n).state = .uncalibrated ∧ (t.channels.get n).calibrated = false)

/-- STATION_START in NORMAL (R170, R17, R127, R122, R134): timers and blocks at their start values, every present loop on
its COMFORT entry or on profile 0, the channels not in use UNCALIBRATED, and a calibration requested for each channel in
use whose flag is clear: the first three are granted at once and the rest wait in channel order. The scanner is set up
(R35, R34): a used channel STARTING with nothing taken, any other UNUSED, the implausible flag clear. That the first scan
round begins at the start is the model's reading (assumption 26). -/
def Obligations.StartInNormalBringsTheBlocksIntoService : Prop :=
  ∀ s : State, s.loader.state = .loading → s.loader.imageStatus = .ok → ∃ t,
    exec .stationStart s = .next t ∧ t.loader.state = .normal ∧ stationNumber t = stationNumber s ∧
    t.engine.timer = some 30000 ∧ t.bus.reportTimer = some (2000 * stationNumber s) ∧
    t.scanner.timer = some 2000 ∧ t.meter.counting = true ∧
    (∀ n : Fin 14,
      let used := 12 ≤ n.val ∨ ∃ h : n.val < 12, (t.loops.get ⟨n.val, h⟩).isSome
      let fresh (st : ProbeState) : Probe :=
        { state := st, lastCode := none, lastCause := none, samples := [], filtered := none, outRun := 0, held := none,
          holdCount := 0 }
      (used → t.scanner.probes.get n = fresh .starting) ∧ (¬ used → t.scanner.probes.get n = fresh .unused) ∧
      (n ∈ t.scanner.round ↔ used)) ∧
    t.scanner.round.Pairwise (· < ·) ∧ t.scanner.implausible = false ∧
    t.peers.peers = [] ∧ t.peers.source.validity = .never ∧ t.arbiter.defrost = false ∧
    (∀ r ∈ t.rooms.records, r.state = .never ∧ r.age = ⟨0, 0⟩ ∧ r.mode = .comfort ∧ r.temperature = none ∧
      r.setpoint = none ∧ r.floor = none) ∧
    (∀ n l, t.loops.get n = some l → (∃ r ∈ t.rooms.records, r.room = l.info.room) ∧
      l.stale = true ∧ l.boost = none) ∧
    (∀ n l, t.loops.get n = some l → (∀ p, (instanceOf s p).state ≠ .running ∧ (instanceOf s p).state ≠ .paused) →
      l.chain = [⟨if (profileAt t l.info.comfort).any (fun q => baseKind q.kind) then l.info.comfort else 0, .base⟩]) ∧
    (∀ n, (t.channels.get n).rest = (t.channels.get n).counter ∧
      (t.channels.get n).counter = (s.channels.get n).counter) ∧
    (∀ n, t.loops.get n = none → (t.channels.get n).state = .uncalibrated ∧ (t.channels.get n).calibrated = false) ∧
    (∀ n, (t.loops.get n).isSome → (s.channels.get n).calibrated = true →
      (t.channels.get n).calibrated = true ∧ (t.channels.get n).state = (s.channels.get n).state) ∧
    ((∀ n, (s.channels.get n).state = .uncalibrated ∨ (s.channels.get n).state = .idle) →
      let asked := (List.finRange 12).filter fun n => (t.loops.get n).isSome && !(s.channels.get n).calibrated
      t.arbiter.slots.items = (asked.take 3).map (fun n => some ⟨n, .calibrate⟩) ++ List.replicate (3 - asked.length) none ∧
      t.arbiter.queue = (asked.drop 3).map (⟨·, .calibrate⟩) ∧
      (∀ n ∈ asked, (t.channels.get n).calibrated = false) ∧
      (∀ n ∈ asked.take 3, (t.channels.get n).state = .calClose ∧ (t.channels.get n).live = none) ∧
      (∀ n ∈ asked.drop 3, (t.channels.get n).state = .queued))

/-- STATION_START without a usable image (R169, R170, R144): FALLBACK, no record used, every channel calibrated afresh
with the first three granted at once, and kept programs aborted. The load
reports one CONFIG_FAULT, for the image as a whole, with the code of what failed (R167), at the start unless it was reported
before (assumption 9). -/
def Obligations.StartInFallbackCalibratesEveryChannel : Prop :=
  ∀ s : State, s.loader.state = .loading → s.loader.imageStatus ≠ .ok →
    (∀ n, (s.channels.get n).state = .uncalibrated ∨ (s.channels.get n).state = .idle) → ∃ t,
    exec .stationStart s = .next t ∧ t.loader.state = .fallback ∧
    t.engine.timer = some 30000 ∧ t.bus.reportTimer = some (2000 * stationNumber s) ∧
    (∀ n, t.loops.get n = none) ∧ t.rooms.records = [] ∧ (∀ k, t.config.profiles.get k = none) ∧
    t.config.programOne = none ∧ t.config.programTwo = none ∧ t.config.fallbackSrc = 0 ∧ t.config.fallbackMin = 0 ∧
    t.config.countTime = 100 ∧ (∀ k, t.valves.tables.get k = none) ∧ t.meter.state = .unconfigured ∧
    (∀ k, (t.recorder.kinds.get k).masked = decide (k = 10)) ∧
    (∀ i, (t.recorder.slots.get i).kinds = 0 ∧ (t.recorder.slots.get i).tag = 0) ∧ t.recorder.enable = true ∧
    (s.loader.reported = 0 ∨ (s.recorder.kinds.get (kindIndex .configFault)).status = true →
      (t.recorder.kinds.get (kindIndex .configFault)).status = true) ∧
    (s.loader.reported = 0 → loadStep s = report { s with loader := { s.loader with reported := 1 } }
      ⟨.configFault, 0, 0, if s.loader.imageStatus = .missing then 1 else if s.loader.imageStatus = .badSum then 2 else 3,
        none⟩) ∧
    (s.loader.reported ≠ 0 → loadStep s = s) ∧
    (∀ n, (t.channels.get n).calibrated = false) ∧
    (∀ n, (t.channels.get n).state = if n.val < 3 then .calClose else .queued) ∧
    t.arbiter.slots.items = [some ⟨0, .calibrate⟩, some ⟨1, .calibrate⟩, some ⟨2, .calibrate⟩] ∧
    t.arbiter.queue = ([3, 4, 5, 6, 7, 8, 9, 10, 11] : List (Fin 12)).map (⟨·, .calibrate⟩) ∧
    (∀ p, (instanceOf s p).state = .running ∨ (instanceOf s p).state = .paused →
      (instanceOf t p).state = .aborted ∧ (instanceOf t p).members = [] ∧
      (instanceOf t p).step = (instanceOf s p).step)

/-- The records of the image, judged at STATION_START in NORMAL (R1, R2, R3, R5, R93, R97, R138, R159, R165, R168, R174):
each value, profile, table, program, loop and alert slot taken from the first record of its number when every field fits,
with the manual's substitute or default otherwise; and the CONFIG_FAULTs, which the load reports one by one, the start those
that are left (R167; assumption 9); the first takes an empty pointer. How
sections and records are cut out of the words is assumptions 7 and 8, and a loop record that is cut short or an F_min
beside a failing F_src is judged by assumptions 15 and 16. -/
def Obligations.ImageRecordsAreJudged : Prop :=
  ∀ s : State, s.loader.state = .loading → s.loader.imageStatus = .ok → ∃ t, exec .stationStart s = .next t ∧
    let sections := (imageSections (s.loader.image.map BitVec.toNat)).getD []
    let first (code number : Nat) : Option ImageRecord := (recordsOf sections code).find? (·.number == number)
    let good (code number : Nat) : Option ImageRecord :=
      (first code number).filter fun r => failingField (fieldRules t.config.profiles code r) r.fields == none
    let v (r : ImageRecord) (k : Nat) : Nat := r.fields.getD (k - 1) 0
    let held (k low high substitute : Nat) : Nat :=
      ((first 1 0).bind (·.fields[k - 1]?)).elim substitute fun x => if low ≤ x ∧ x ≤ high then x else substitute
    let src := held 4 0 60000 0
    let low := held 5 0 60000 0
    t.config.kp = held 1 0 1000 250 ∧ t.config.ki = held 2 0 100 5 ∧ t.config.countTime = held 3 5 100 100 ∧
    t.config.fallbackSrc = (if src < low then 0 else src) ∧ t.config.fallbackMin = (if src < low then 0 else low) ∧
    t.recorder.enable = decide (held 6 0 1 1 = 1) ∧
    (∀ k : Fin 16, (t.recorder.kinds.get k).masked = (good 2 (k.val + 1)).elim (decide (k = 10)) (v · 1 == 1) ∧
      (t.recorder.kinds.get k).severity = (good 2 (k.val + 1)).elim (State.reset.recorder.kinds.get k).severity
        fun r => if v r 2 = 0 then .advisory else if v r 2 = 1 then .degraded else .serious) ∧
    (∀ k : Fin 4, (t.recorder.slots.get k).kinds = (good 3 (k.val + 1)).elim 0 (fun r => BitVec.ofNat 16 (v r 1)) ∧
      (t.recorder.slots.get k).tag = (good 3 (k.val + 1)).elim 0 (v · 2) ∧
      (s.loader.warm = false → (t.recorder.slots.get k).masked = (good 3 (k.val + 1)).elim false (v · 3 == 1)) ∧
      (s.loader.warm = true → (t.recorder.slots.get k).masked = (s.recorder.slots.get k).masked)) ∧
    (∀ k : Fin 15, t.config.profiles.get k = (good 4 (k.val + 1)).map fun r =>
      { kind := [.normal, .setback, .frost, .off, .boost, .dryout].getD (v r 1) .normal
        mode := if v r 2 = 0 then .offset else .absolute
        setpoint := (BitVec.ofNat 16 (v r 3)).toInt
        fixedDemand := v r 4
        dropOverride := if v r 5 = 0 then none else some (v r 5)
        floorMax := v r 6
        seed := v r 7
        park := [.hold, .close, .park].getD (v r 8) .hold
        overrides := decide (v r 9 = 1 ∧ v r 1 ≠ 5)
        program := [none, some .one, some .two].getD (v r 10) none }) ∧
    (∀ k : Fin 4, validTable t k = (good 5 (k.val + 1)).map fun r => ⟨true, r.fields.take 11, v r 12⟩) ∧
    (∀ p, programDef t p = (good 6 (progNumber p)).map fun r =>
      { profile := Fin.ofNat 16 (v r 1)
        loops := (List.finRange 12).filter fun n => (v r 2).testBit n.val
        steps := (List.range (v r 3)).map fun j => ⟨v r (2 * j + 4), v r (2 * j + 5)⟩ }) ∧
    (∀ n, (t.loops.get n).map (·.info) = ((good 7 (n.val + 1)).filter fun r => v r 1 == 1).map fun r =>
      { room := v r 2
        valveType := Fin.ofNat 4 (v r 3 - 1)
        qDes := v r 4
        dropDes := v r 5
        qFull := v r 6
        qMax := v r 7
        commissioning := v r 8
        bypass := decide (v r 9 = 1)
        comfort := Fin.ofNat 16 (v r 10)
        eco := Fin.ofNat 16 (v r 11)
        away := Fin.ofNat 16 (v r 12)
        off := Fin.ofNat 16 (v r 13)
        boostEntry := Fin.ofNat 16 (v r 14)
        expectedStroke := v r 15 }) ∧
    t.meter.pitch = (good 8 0).map (v · 1) ∧ t.meter.maximum = (good 8 0).map (v · 2) ∧
    t.meter.state = (if (good 8 0).isSome then .good else .unconfigured) ∧
    let faults := (imageFaults t.config.profiles sections).drop s.loader.reported
    (faults = [] → loadStep s = s) ∧
    (∀ item one two more, faults = (item, one, two) :: more → loadStep s =
      report { s with loader := { s.loader with reported := s.loader.reported + 1 } }
        ⟨.configFault, item, (one : Int), (two : Int), none⟩) ∧
    ((t.recorder.kinds.get (kindIndex .configFault)).status = true ↔
      (s.recorder.kinds.get (kindIndex .configFault)).status = true ∨ faults ≠ []) ∧
    (∀ item one two more, faults = (item, one, two) :: more → s.recorder.pointer = none →
      (s.recorder.kinds.get (kindIndex .configFault)).masked = false →
      t.recorder.pointer = some .configFault ∧
      t.recorder.record.map (fun e => (e.origin, e.item, e.first, e.second, e.frame)) =
        some (.internal, item, (one : Int), (two : Int), none))

/-- The programs kept across a warm reset, at STATION_START in NORMAL (R139, R144, R145, R11): a kept program whose
definition is gone is aborted at its step; one whose step lies beyond the new table is DONE at the table's last step
with its hours as they were; one whose hours reach its step's duration takes the step end at once, which after the last
step leaves it DONE with hours and part hour 0 (assumption 13); and the others are re-pushed on their kept members,
which keeps those that take the push, or aborts the program when none does. Its step is then the one it stands at after
the step ends (assumption 38). The member clauses are for a station whose other program was not kept, and the model
checks and re-pushes program 1 whole before program 2 (assumption 29). -/
def Obligations.KeptProgramsAreCheckedAndPushedAgain : Prop :=
  ∀ (s : State) (p : Prog), s.loader.state = .loading → s.loader.imageStatus = .ok → ∃ t,
    exec .stationStart s = .next t ∧
    let i := instanceOf s p
    let kept := i.state = .running ∨ i.state = .paused
    let aborted := (t.recorder.kinds.get (kindIndex .dryoutAborted)).status = true
    let others := ∀ q, q ≠ p → (instanceOf s q).state ≠ .running ∧ (instanceOf s q).state ≠ .paused
    let pushed (d : ProgramDef) (after : DryInstance) : Prop :=
      let takes (n : Fin 12) : Bool := (t.loops.get n).any fun l => dryCode t p d.profile (l.chain.take 1) == 0
      let members := i.members.filter takes
      (∀ n l, t.loops.get n = some l →
        l.chain = l.chain.take 1 ++ if n ∈ members then [⟨d.profile, .dryout p⟩] else []) ∧
      (members ≠ [] → instanceOf t p = { after with state := .running, members := members }) ∧
      (members = [] → instanceOf t p = { after with state := .aborted, members := [] } ∧ aborted)
    (¬ kept → instanceOf t p = i) ∧
    (kept → programDef t p = none → instanceOf t p = { i with state := .aborted, members := [] } ∧ aborted) ∧
    (∀ d, kept → programDef t p = some d → d.steps.length < i.step.getD 0 →
      instanceOf t p = { i with state := .done, step := some d.steps.length, members := [] }) ∧
    (∀ d k st, kept → programDef t p = some d → i.step = some k → 0 < k → d.steps[k - 1]? = some st →
      (i.hours < st.hours → others → i.members.Nodup → pushed d i) ∧
      (∀ next, st.hours ≤ i.hours → d.steps[k]? = some next → 0 < next.hours → others → i.members.Nodup →
        pushed d { i with step := some (k + 1), hours := 0, part := ⟨0, 0⟩ }) ∧
      (st.hours ≤ i.hours → k = d.steps.length →
        instanceOf t p = { i with state := .done, hours := 0, part := ⟨0, 0⟩, members := [] }))

/-! ## Loops and chains (chapter 1) -/

/-- MODE_NOTICE of a room that enters BOOST (R14, R11, R15, R18, R8, R9): the notice before it has been carried out, and this one
makes a free number of its changes; the rest follow in later pieces, which make what they make at once (assumption 12). Carried
out whole, each present loop of the room takes the boost push or refuses it with the field code of the first check that fails,
and no other loop changes. The first refusal takes an empty pointer with its record: the loop, the field code, the profile
number, and the frame that carried the mode. A change made later is judged by the chain that it then finds. -/
def Obligations.ModeNoticeIntoBoostPushes : Prop :=
  (∀ (s : State) (k : Notice) (later : List Notice), s.rooms.notices = k :: later → k.after = .boost →
    let u := finishNotice { s with rooms := { s.rooms with notices := later } }
    let v := beginNotice u k
    let t := finishNotice v
    (∃ m, exec .modeNotice s = .next (piece noticeStep m v)) ∧
    NoticeFrame { s with rooms := { s.rooms with notices := later } } u ∧ u.visiting = none ∧
    (s.visiting = none → u = { s with rooms := { s.rooms with notices := later } }) ∧
    (∀ m, finishNotice (times noticeStep m v) = t) ∧ ChainFrame u t ∧
    (∀ n, u.loops.get n = none → t.loops.get n = none) ∧
    (∀ n l, u.loops.get n = some l → l.info.room ≠ k.room → t.loops.get n = some l) ∧
    (∀ n l p, u.loops.get n = some l → l.info.room = k.room → profileAt u l.info.boostEntry = some p →
      p.kind = .boost → (activeProfile u l.chain).overrides = true → l.chain.length ≤ 2 →
      t.loops.get n = some { l with
        chain := l.chain ++ [⟨l.info.boostEntry, .boost⟩], stale := true, boost := some (60 * 60000) }) ∧
    (∀ n l, u.loops.get n = some l → l.info.room = k.room →
      (profileAt u l.info.boostEntry = none ∨ (∃ p, profileAt u l.info.boostEntry = some p ∧ p.kind ≠ .boost) ∨
        (activeProfile u l.chain).overrides = false ∨ 3 ≤ l.chain.length) →
      t.loops.get n = some l ∧ (t.recorder.kinds.get (kindIndex .profileRefused)).status = true) ∧
    (∀ n l, u.loops.get n = some l → l.info.room = k.room → boostCode u l ≠ 0 →
      (∀ m h, m < n → u.loops.get m = some h → h.info.room = k.room → boostCode u h = 0) →
      u.recorder.pointer = none → (u.recorder.kinds.get (kindIndex .profileRefused)).masked = false →
      t.recorder.pointer = some .profileRefused ∧
      t.recorder.record = some (refusalRecord u n (boostCode u l) l.info.boostEntry (some k.frame)))) ∧
  (∀ (s : State) (k : Notice) (n : Fin 12) (l : Loop) (todo : List (Fin 12 × NoticeChange)),
    s.visiting = some ⟨k, (n, .push) :: todo⟩ → s.loops.get n = some l →
    let left : Option NoticeVisit := if todo = [] then none else some ⟨k, todo⟩
    (boostCode s l = 0 → noticeStep s = { s with
      visiting := left
      loops := s.loops.set n (some { l with
        chain := l.chain ++ [⟨l.info.boostEntry, .boost⟩], stale := true, boost := some (60 * 60000) }) }) ∧
    (boostCode s l ≠ 0 → noticeStep s = { report s
      ⟨.profileRefused, n.val + 1, ((boostCode s l : Nat) : Int), l.info.boostEntry.val, some k.frame⟩ with visiting := left }))

/-- MODE_NOTICE of a room that does not enter BOOST (R14, R10, R12, R18, R8, R9): the notice before it has been carried out, and
this one makes a free number of its changes; the rest follow in later pieces, which make what they make at once (assumption
12). Carried out whole, the BOOST entry is withdrawn when the room leaves BOOST, and the base is switched to the new mode's
entry or the switch refused with the field code of the first check that fails; the first refusal takes an empty pointer with
its record. A change made later is judged by the chain that it then finds. -/
def Obligations.ModeNoticeSwitchesTheBase : Prop :=
  let entry (k : Notice) (l : Loop) : Fin 16 := match k.after with
    | .comfort => l.info.comfort
    | .eco => l.info.eco
    | .away => l.info.away
    | .off => l.info.off
    | .boost => l.info.boostEntry
  (∀ (s : State) (k : Notice) (later : List Notice), s.rooms.notices = k :: later → k.after ≠ .boost →
    let u := finishNotice { s with rooms := { s.rooms with notices := later } }
    let v := beginNotice u k
    let t := finishNotice v
    (∃ m, exec .modeNotice s = .next (piece noticeStep m v)) ∧
    NoticeFrame { s with rooms := { s.rooms with notices := later } } u ∧ u.visiting = none ∧
    (s.visiting = none → u = { s with rooms := { s.rooms with notices := later } }) ∧
    (∀ m, finishNotice (times noticeStep m v) = t) ∧ ChainFrame u t ∧
    (∀ n, u.loops.get n = none → t.loops.get n = none) ∧
    (∀ n l, u.loops.get n = some l → l.info.room ≠ k.room → t.loops.get n = some l) ∧
    let left (chain : List Entry) : List Entry :=
      chain.take 1 ++ if k.before = .boost then chain.tail.filter (fun e => e.owner != .boost) else chain.tail
    let code (l : Loop) : Nat := switchCode u (left l.chain) (entry k l)
    (∀ n l bottom above, u.loops.get n = some l → l.info.room = k.room → l.chain = bottom :: above →
      let popped := k.before = .boost ∧ above.getLast?.map (·.owner) = some .boost
      let withdrawn : Loop := { l with
        chain := left l.chain
        stale := l.stale || decide popped
        boost := if k.before = .boost then none else l.boost }
      let rest := (left l.chain).tail
      let fits := ∃ p, profileAt u (entry k l) = some p ∧ baseKind p.kind = true ∧ (rest = [] ∨ p.overrides = true)
      (bottom.profile = entry k l → t.loops.get n = some withdrawn) ∧
      (bottom.profile ≠ entry k l → fits →
        t.loops.get n = some { withdrawn with
          chain := { bottom with profile := entry k l } :: rest
          stale := withdrawn.stale || rest.isEmpty }) ∧
      (bottom.profile ≠ entry k l → ¬ fits →
        t.loops.get n = some withdrawn ∧ (t.recorder.kinds.get (kindIndex .profileRefused)).status = true)) ∧
    (∀ n l, u.loops.get n = some l → l.info.room = k.room → code l ≠ 0 →
      (∀ m h, m < n → u.loops.get m = some h → h.info.room = k.room → code h = 0) →
      u.recorder.pointer = none → (u.recorder.kinds.get (kindIndex .profileRefused)).masked = false →
      t.recorder.pointer = some .profileRefused ∧
      t.recorder.record = some (refusalRecord u n (code l) (entry k l) (some k.frame)))) ∧
  (∀ (s : State) (k : Notice) (n : Fin 12) (l : Loop) (bottom : Entry) (above : List Entry)
    (todo : List (Fin 12 × NoticeChange)), s.loops.get n = some l → l.chain = bottom :: above →
    let left : Option NoticeVisit := if todo = [] then none else some ⟨k, todo⟩
    (s.visiting = some ⟨k, (n, .withdraw) :: todo⟩ → noticeStep s = { s with
      visiting := left
      loops := s.loops.set n (some { l with
        chain := bottom :: above.filter (fun e => e.owner != .boost)
        stale := l.stale || decide (above.getLast?.map (·.owner) = some .boost)
        boost := none }) }) ∧
    (s.visiting = some ⟨k, (n, .switch) :: todo⟩ →
      let code := switchCode s l.chain (entry k l)
      (bottom.profile = entry k l → noticeStep s = { s with visiting := left }) ∧
      (bottom.profile ≠ entry k l → code = 0 → noticeStep s = { s with
        visiting := left
        loops := s.loops.set n (some { l with
          chain := { bottom with profile := entry k l } :: above, stale := l.stale || above.isEmpty }) }) ∧
      (bottom.profile ≠ entry k l → code ≠ 0 → noticeStep s = { report s
        ⟨.profileRefused, n.val + 1, ((code : Nat) : Int), (entry k l).val, some k.frame⟩ with visiting := left })))

/-- BOOST_TIMER_EXPIRY (R16, R12): the timer stops and the BOOST entry leaves the chain; the flag is set exactly when
the entry was the top. -/
def Obligations.BoostExpiryWithdrawsTheBoostEntry : Prop :=
  ∀ (s : State) (n : Fin 12) (l : Loop) (left : Nat) (bottom : Entry) (above : List Entry),
    s.loops.get n = some l → l.boost = some left → l.chain = bottom :: above →
    exec (.boostTimerExpiry n) s = .next (setLoop (elapse left s) n { l with
      chain := bottom :: above.filter (fun e => e.owner != .boost)
      stale := l.stale || decide (above.getLast?.map (·.owner) = some .boost)
      boost := none })

/-! ## Rooms (chapter 2) -/

/-- ROOM_REPORT by its checks (R22 to R25, R29): ignored or refused, one counter rises, to 65535 at most, and nothing
else changes; taken, the values are stored, the setpoint clamped, the floor temperature dropped when missing or out of
range, and a mode notice is sent exactly when the mode differs. A request that is still being answered is answered first
(`UnusedFramesAndRefusedRequestsAreCounted`). -/
def Obligations.RoomReportByItsChecks : Prop :=
  ∀ (s : State) (f : Frame) (v : RoomFields),
    requestOpen s = false → s.bus.rx.head? = some f → f.kind = 2 → readRoom f.content = some v →
    (f.sender.toNat < 16 ∨ v.room = 0 ∨ roomRecord s v.room = none →
      exec .roomReport s = .next { popped s with
        rooms := { s.rooms with ignored := min 65535 (s.rooms.ignored + 1) } }) ∧
    (16 ≤ f.sender.toNat → v.room ≠ 0 → roomRecord s v.room ≠ none →
      (v.temperature < -2000 ∨ 5000 < v.temperature ∨ 4 < v.mode) →
      exec .roomReport s = .next { popped s with
        rooms := { s.rooms with refused := min 65535 (s.rooms.refused + 1) } }) ∧
    (∀ (r : Room) (mode : RoomMode), 16 ≤ f.sender.toNat → v.room ≠ 0 → roomRecord s v.room = some r →
      roomModeOf v.mode = some mode → -2000 ≤ v.temperature → v.temperature ≤ 5000 →
      ∃ t, exec .roomReport s = .next t ∧ t = { popped s with rooms := t.rooms } ∧
        roomRecord t v.room = some
          { room := v.room
            state := .fresh
            age := ⟨0, 0⟩
            temperature := some v.temperature
            setpoint := some (max 500 (min 3000 v.setpoint))
            mode := mode
            floor := v.floor.filter fun x => decide (-2000 ≤ x ∧ x ≤ 9000) } ∧
        (∀ m, m ≠ v.room → roomRecord t m = roomRecord s m) ∧
        t.rooms.ignored = s.rooms.ignored ∧ t.rooms.refused = s.rooms.refused ∧
        t.rooms.notices =
          if mode = r.mode then s.rooms.notices else s.rooms.notices ++ [⟨v.room, r.mode, mode, f⟩])

/-- ROOM_ENTERS_HELD and ROOM_STALE (R26, R27): at 301 s a FRESH record becomes HELD, silently; at 901 s a HELD or
NEVER record becomes ORPHAN and ROOM_STALE is reported for the lowest-numbered present loop of the room. -/
def Obligations.RoomAgesIntoHeldAndOrphan : Prop :=
  (∀ (s : State) (room : Nat) (r : Room), roomRecord s room = some r → r.state = .fresh →
    ∃ t, exec (.roomEntersHeld room) s = .next t ∧
      t = { elapse (roomLeft s room) s with rooms := t.rooms } ∧
      roomRecord t room = some { r with age := ⟨301, 0⟩, state := .held } ∧
      t.rooms.notices = s.rooms.notices ∧
      ∀ m, m ≠ room → roomRecord t m = roomRecord (elapse (roomLeft s room) s) m) ∧
  (∀ (s : State) (room : Nat) (r : Room) (n : Fin 12) (l : Loop), roomRecord s room = some r →
    r.state = .held ∨ r.state = .never → s.loops.get n = some l → l.info.room = room →
    (∀ m k, m < n → s.loops.get m = some k → k.info.room ≠ room) →
    ∃ t rooms, exec (.roomStale room) s = .next t ∧
      t = report { elapse (roomLeft s room) s with rooms := rooms }
        ⟨.roomStale, n.val + 1, room, if r.state = .never then 1 else 0, none⟩ ∧
      roomRecord t room = some { r with age := ⟨901, 0⟩, state := .orphan } ∧ t.rooms.notices = s.rooms.notices ∧
      ∀ m, m ≠ room → roomRecord t m = roomRecord (elapse (roomLeft s room) s) m)

/-! ## Probes (chapter 3) -/

/-- The linearisation (R37): each in-range code lies in one interval of the table, its temperature stays above the
interval's lower end and at or below its upper end, a point's code gives the point's temperature, and a higher code
never gives a higher temperature. -/
def Obligations.LinearisationFallsThroughTheTable : Prop :=
  (∀ x : Nat, 96 ≤ x → x ≤ 3999 →
    let k := (x - 96) / 122
    k ≤ 31 ∧ probeTable.getD (k + 1) 0 < linearise x ∧ linearise x ≤ probeTable.getD k 0) ∧
  (∀ k : Nat, k ≤ 31 → linearise (96 + 122 * k) = probeTable.getD k 0) ∧
  (∀ x y : Nat, 96 ≤ x → x ≤ y → y ≤ 3999 → linearise y ≤ linearise x)

/-- SAMPLE_EVENT (R36, R38, R39, R40). Of a GOOD channel: the filter follows in-range samples, two out-of-range samples in
a row change nothing it supplies, and the third puts it in HELD with PROBE_FAULT. Of a STARTING, HELD or FAILED channel: a
recovery run of three in-range samples brings it to GOOD, an out-of-range sample breaks the run, and the third
out-of-range sample in STARTING fails the start; that the channel then keeps its out-of-range run is the model's
(assumption 27), and so is that a conversion counts only for the channel the round has reached (assumption 26). -/
def Obligations.SamplesMoveTheProbe : Prop :=
  (∀ (s : State) (n : Fin 14) (code : BitVec 12) (later : List (Fin 14)),
     s.scanner.round = n :: later → (s.scanner.probes.get n).state = .good →
     let p := s.scanner.probes.get n
     let c := code.toNat
     let u : State := { s with scanner := { s.scanner with round := later } }
     let cause : ProbeCause := if 4000 ≤ c then .open else .shorted
     (96 ≤ c → c ≤ 3999 →
       let joined := p.samples ++ [linearise c]
       let samples := if 5 ≤ joined.length then joined.tail else joined
       exec (.sampleEvent n code) s = .next (setProbe u n { p with
         lastCode := some c, samples := samples, outRun := 0,
         filtered := some (samples.sum.tdiv samples.length) })) ∧
     (c < 96 ∨ 4000 ≤ c → p.outRun < 2 →
       exec (.sampleEvent n code) s = .next (setProbe u n { p with
         lastCode := some c, lastCause := some cause, outRun := p.outRun + 1 })) ∧
     (c < 96 ∨ 4000 ≤ c → 2 ≤ p.outRun →
       exec (.sampleEvent n code) s = .next (report
         (setProbe u n { p with
           state := .held, lastCode := some c, lastCause := some cause, samples := [], held := p.filtered,
           filtered := none, outRun := 0, holdCount := 0 })
         ⟨.probeFault, n.val + 1, if 4000 ≤ c then 1 else 2, c, none⟩))) ∧
  (∀ (s : State) (n : Fin 14) (code : BitVec 12) (later : List (Fin 14)),
     s.scanner.round = n :: later →
     ((s.scanner.probes.get n).state = .starting ∨ (s.scanner.probes.get n).state = .held ∨
       (s.scanner.probes.get n).state = .failed) →
     let p := s.scanner.probes.get n
     let c := code.toNat
     let u : State := { s with scanner := { s.scanner with round := later } }
     let samples := p.samples ++ [linearise c]
     let cause : ProbeCause := if 4000 ≤ c then .open else .shorted
     (96 ≤ c → c ≤ 3999 → 2 ≤ p.samples.length →
       exec (.sampleEvent n code) s = .next (setProbe u n { p with
         state := .good, lastCode := some c, samples := samples, held := none, outRun := 0, holdCount := 0,
         filtered := some (samples.sum.tdiv samples.length) })) ∧
     (96 ≤ c → c ≤ 3999 → p.samples.length < 2 →
       exec (.sampleEvent n code) s = .next (setProbe u n { p with
         lastCode := some c, samples := samples, outRun := 0 })) ∧
     (c < 96 ∨ 4000 ≤ c → p.state ≠ .starting →
       exec (.sampleEvent n code) s = .next (setProbe u n { p with
         lastCode := some c, lastCause := some cause, samples := [] })) ∧
     (c < 96 ∨ 4000 ≤ c → p.state = .starting → p.outRun < 2 →
       exec (.sampleEvent n code) s = .next (setProbe u n { p with
         lastCode := some c, lastCause := some cause, samples := [], outRun := p.outRun + 1 })) ∧
     (c < 96 ∨ 4000 ≤ c → p.state = .starting → 2 ≤ p.outRun →
       exec (.sampleEvent n code) s = .next (report
         (setProbe u n { p with
           state := .failed, lastCode := some c, lastCause := some cause, samples := [], outRun := p.outRun + 1 })
         ⟨.probeFault, n.val + 1, if 4000 ≤ c then 1 else 2, c, none⟩)))

/-- SCAN_ROUND, PROBE_HOLD_EXPIRY and the probe reading of a pass (R34, R41, R44): a round names every used channel
once, in channel order, and the next follows 2 s later, also when conversions of the round before are outstanding
(assumption 26); a pass raises the hold count of every HELD channel, supplies its held value once more and fails it at the
tenth hold, keeping its recovery run; probe M's implausible flag is set exactly when M lies more than 10 K from every GOOD
return, and reported with cause 3 when it passes from clear to set, after what a trim update that was still in progress reports
(`finishTrim`; assumption 12). PROBE_HOLD_EXPIRY is the pass whose reading is the
channel's tenth, and changes nothing where no such pass can be (assumption 25). -/
def Obligations.ScanRoundsAndProbeHolds : Prop :=
  (∀ (s : State) (left : Nat), s.scanner.timer = some left → ∃ t, exec .scanRound s = .next t ∧
    t = { elapse left s with scanner := { (elapse left s).scanner with
      timer := some 2000, round := t.scanner.round } } ∧
    t.scanner.round.Pairwise (· < ·) ∧
    ∀ n : Fin 14, n ∈ t.scanner.round ↔ 12 ≤ n.val ∨ ∃ h : n.val < 12, (s.loops.get ⟨n.val, h⟩).isSome) ∧
  (∀ (s : State) (n : Fin 14),
    let ready := (s.scanner.probes.get n).state = .held ∧ 9 ≤ (s.scanner.probes.get n).holdCount ∧
      s.engine.timer ≠ none ∧ s.engine.visit = none ∧ s.engine.work = none
    (ready → ∃ t, exec (.probeHoldExpiry n) s = .next t ∧ exec .passTimerExpiry s = .next t ∧
      t.scanner.probes.get n = { s.scanner.probes.get n with state := .failed, held := none, holdCount := 10 } ∧
      (n ≠ 13 → (openPass (elapse (passLeft s) s)).probes.get n = (.held, (s.scanner.probes.get n).held))) ∧
    (¬ ready → exec (.probeHoldExpiry n) s = .next s)) ∧
  (∀ (s : State) (left : Nat), s.engine.timer = some left → s.engine.visit = none → s.engine.work = none → ∃ t,
     exec .passTimerExpiry s = .next t ∧ t.scanner.round = s.scanner.round ∧
     (∀ n, (s.scanner.probes.get n).state ≠ .held → t.scanner.probes.get n = s.scanner.probes.get n) ∧
     (∀ n, (s.scanner.probes.get n).state = .held → (s.scanner.probes.get n).holdCount < 9 →
       t.scanner.probes.get n =
         { s.scanner.probes.get n with holdCount := (s.scanner.probes.get n).holdCount + 1 }) ∧
     (∀ n, (s.scanner.probes.get n).state = .held → 9 ≤ (s.scanner.probes.get n).holdCount →
       t.scanner.probes.get n =
         { s.scanner.probes.get n with state := .failed, held := none, holdCount := 10 }) ∧
     ((s.scanner.probes.get 13).state ≠ .good ∨ goodReturns s = [] →
       t.scanner.implausible = s.scanner.implausible) ∧
     (∀ m, (s.scanner.probes.get 13).state = .good → (s.scanner.probes.get 13).filtered = some m →
       goodReturns s ≠ [] →
       t.scanner.implausible = (goodReturns s).all (fun r => decide (1000 < (m - r).natAbs)) ∧
       (s.scanner.implausible = false → (∀ r ∈ goodReturns s, 1000 < (m - r).natAbs) →
         (t.recorder.kinds.get (kindIndex .probeFault)).status = true ∧
         ((finishTrim s).recorder.pointer = none → (s.recorder.kinds.get (kindIndex .probeFault)).masked = false →
           t.recorder.pointer = some .probeFault ∧
           t.recorder.record.map (fun e => (e.origin, e.item, e.first, e.second)) = some (.internal, 14, 3, m)))))

/-! ## The balancing pass (chapter 4) -/

/-- PASS_TIMER_EXPIRY (R46, R47, R49, R83, R84): a trim update that is still in progress is made to its end (R107; assumption
12), and with none there nothing comes before. Then the timer restarts at 30 s, the buffer is emptied, the opening takes its
readings (`OpeningReads`; assumption 39 on probe M), and the pass makes a number of its steps that is free (R32, R75;
assumption 12). However many it makes, the other blocks see nothing of the pass until its close: results, demands, channels
and trim factor stand. Of a loop only the history-stale flag may change, from set to clear. The first twelve steps read the
twelve loops, of which the absent ones change nothing, and a pass cut among them waits with the rest of them; after 38 steps
every pass has made its stages 3 to 6 (`PassStages`: R62, R63, R74, R91). The fault recorder and the bus take the
plausibility fault of probe M (R44) and then BYPASS_SHORT (R88), and nothing else. -/
def Obligations.PassRunsWithoutTouchingTheOtherBlocks : Prop :=
  ∀ (s : State) (left : Nat), s.engine.timer = some left → s.engine.visit = none → s.engine.work = none →
    let f := finishTrim s
    let u := elapse left f
    let o := openPass u
    let v := openVisit u
    let read := if v.scanner.implausible = true ∧ s.scanner.implausible = false then
      report u ⟨.probeFault, 14, 3, ((s.scanner.probes.get 13).filtered.getD 0), none⟩ else u
    (TrimFrame s f ∧ f.valves.update = none ∧ (s.valves.update = none → f = s)) ∧
    (∃ k, exec .passTimerExpiry s = .next { passSteps k v with cuts := s.cuts + 1 }) ∧
    OpeningReads u o ∧
    v = { read with
      scanner := v.scanner
      engine := { u.engine with
        timer := some 30000, buffer := Tab.fill 12 none, visit := some ⟨o, .read (List.finRange 12) []⟩ } } ∧
    v.scanner.round = s.scanner.round ∧
    ∀ k : Nat, let t := passSteps k v
      t.engine.timer = some 30000 ∧ t.now = u.now ∧ t.engine.result = s.engine.result ∧
      t.engine.demands = s.engine.demands ∧ t.engine.sourceSeen = s.engine.sourceSeen ∧
      t.channels = u.channels ∧ t.arbiter = s.arbiter ∧ t.peers = u.peers ∧
      t.rooms = u.rooms ∧ t.valves = f.valves ∧ t.meter = f.meter ∧ t.scanner = v.scanner ∧
      t.programOne = u.programOne ∧ t.programTwo = u.programTwo ∧ t.operation = s.operation ∧ t.visiting = s.visiting ∧
      t.config = s.config ∧ t.loader = s.loader ∧ t.phases = s.phases ∧ t.pending = s.pending ∧ t.draws = s.draws ∧
      t.bus.report = s.bus.report ∧ t.bus.reply = s.bus.reply ∧ t.bus.rx = s.bus.rx ∧
      (∀ n, s.loops.get n = none → t.loops.get n = none) ∧
      (∀ n l, u.loops.get n = some l →
        ∃ stale, t.loops.get n = some { l with stale := stale } ∧ (stale = true → l.stale = true)) ∧
      (k ≤ 12 → t.engine.work = none ∧ t.recorder = read.recorder ∧ t.bus = read.bus ∧
        t.engine.visit =
          some ⟨o, .read ((List.finRange 12).drop k) (((List.finRange 12).take k).flatMap (readingOf u))⟩) ∧
      (38 ≤ k → ∃ x, x = { v with loops := x.loops, engine := { v.engine with loops := x.engine.loops } } ∧
        PassStages x o ((List.finRange 12).flatMap (readingOf u)) t)

/-- What a pass makes of each loop, be it at the expiry, in a later idle step, or before the close, and in however many
pieces (R32, R75; where the pieces are cut is assumption 12). From any state in which a pass is reading its loops, the next
`k` loops are each read as they stand in that state: a loop takes its demand, its open-settled counter, its drop and its
request (`LoopRead`: R48, R51 to R61), and its active profile and stroke are kept when it serves; no other loop changes, and
the pass waits with the loops that remain. Whatever was read in earlier pieces, the stages that follow bring the loops in
service their allocations (R64), their scaled flags (R65; assumption 36 where a capped request and a bypass addition meet)
and their targets (R66 to R69), which fill the buffer; in FALLBACK the buffer holds the stroke of every usable channel (R70;
`PassStages`). Such a state is the one after the opening, and the idle step goes on from it. Each step of those stages is said
by itself too, so that what a reply shows in mid-pass is said (R75): stage 3 leaves every loop as it was; stage 4 of a loop
changes its allocation and its flag, and leaves its target and all other loops as they were; its stages 5 and 6 change its
target and its slot; then the next loop follows (assumption 45). -/
def Obligations.PassVisitsEachPresentLoop : Prop :=
  (∀ (s : State) (left : Nat), s.engine.timer = some left → s.engine.visit = none → s.engine.work = none →
    let u := elapse left (finishTrim s)
    let v := openVisit u
    PassLaw v ∧ v.engine.visit = some ⟨openPass u, .read (List.finRange 12) []⟩ ∧
    ∃ k, exec .passTimerExpiry s = .next { passSteps k v with cuts := s.cuts + 1 }) ∧
  (∀ s : State, s.pending = [] → works s = [.pass] → dueEvents s = [] → ∃ k, 0 < k ∧
    step s = .next { passSteps k s with cuts := s.cuts + 1 }) ∧
  (∀ (s : State) (n : Fin 12),
    (s.loops.get n = none → readingOf s n = []) ∧
    (∀ l, s.loops.get n = some l → ¬ Servable s n l → readingOf s n = []) ∧
    (∀ l stroke, s.loops.get n = some l → Servable s n l → (s.channels.get n).stroke = some stroke →
      readingOf s n = [⟨n, activeProfile s l.chain, stroke⟩])) ∧
  (∀ (s : State) (o : Opening) (todo : List (Fin 12)) (readings : List LoopReading) (k : Nat), PassLaw s →
    s.engine.visit = some ⟨o, .read todo readings⟩ →
    ∃ u, u = { s with loops := u.loops, engine := { s.engine with loops := u.engine.loops } } ∧
      (∀ n ∈ todo.take k, LoopRead s o n u) ∧
      (∀ n, n ∉ todo.take k → u.loops.get n = s.loops.get n ∧ u.engine.loops.get n = s.engine.loops.get n) ∧
      (k ≤ todo.length → passSteps k s = { u with engine := { u.engine with
        visit := some ⟨o, .read (todo.drop k) (readings ++ (todo.take k).flatMap (readingOf s))⟩ } }) ∧
      (38 ≤ k → PassStages u o (readings ++ todo.flatMap (readingOf s)) (passSteps k s))) ∧
  (∀ (s : State) (o : Opening) (readings : List LoopReading), s.engine.visit = some ⟨o, .read [] readings⟩ →
    let t := passStep s
    ∃ g, t = { s with
        engine := { s.engine with visit := some ⟨o, .allocate g readings⟩ }, recorder := t.recorder, bus := t.bus } ∧
      GrantMade s o readings g ∧ ShortReported s g t) ∧
  (∀ (s : State) (o : Opening) (g : PassGrant) (r : LoopReading) (todo : List LoopReading), PassLaw s →
    s.engine.visit = some ⟨o, .allocate g (r :: todo)⟩ →
    let t := passStep s
    let before := s.engine.loops.get r.loop
    let e := t.engine.loops.get r.loop
    t = { s with engine := { s.engine with visit := some ⟨o, .target g r todo⟩, loops := t.engine.loops } } ∧
    e = { before with qAlloc := e.qAlloc, scaled := e.scaled } ∧ LoopAllocated g r.loop before e ∧
    ∀ n, n ≠ r.loop → t.engine.loops.get n = s.engine.loops.get n) ∧
  (∀ (s : State) (o : Opening) (g : PassGrant) (r : LoopReading) (todo : List LoopReading),
    s.engine.visit = some ⟨o, .target g r todo⟩ →
    let t := passStep s
    let before := s.engine.loops.get r.loop
    let e := t.engine.loops.get r.loop
    t = { s with engine := { s.engine with
      visit := some ⟨o, .allocate g todo⟩, loops := t.engine.loops, buffer := t.engine.buffer } } ∧
    (∀ l v, s.loops.get r.loop = some l → validTable s l.info.valveType = some v →
      e = { before with lastTarget := e.lastTarget } ∧ LoopTargeted o l v r before.qAlloc e.lastTarget ∧
      t.engine.buffer.get r.loop = e.lastTarget) ∧
    ∀ n, n ≠ r.loop → t.engine.loops.get n = s.engine.loops.get n ∧ t.engine.buffer.get n = s.engine.buffer.get n) ∧
  (∀ (s : State) (o : Opening) (g : PassGrant), s.engine.visit = some ⟨o, .allocate g []⟩ →
    let t := passStep s
    t = { s with engine := { s.engine with visit := none, work := some g.work, buffer := t.engine.buffer } } ∧
    (s.loader.state ≠ .fallback → t.engine.buffer = s.engine.buffer) ∧
    (s.loader.state = .fallback → FallbackBuffer s t.engine.buffer))

/-- The demand of one loop (R51 to R57, but for the history-stale flag), and what its room supplies to it (R31): a FRESH or
HELD record its last values, a HELD one marked so, and a NEVER or ORPHAN record none, whatever it holds. The demand of a program
that stands at no step, as in the middle of its start, is free in 0 to 1000 ‰ (assumption 46). -/
def Obligations.DemandFollowsTheProfileAndTheRoom : Prop :=
  (roomSupply none = none ∧ ∀ r : Room,
    (r.state = .never ∨ r.state = .orphan → roomSupply (some r) = none) ∧
    (∀ t sp, r.temperature = some t → r.setpoint = some sp →
      (r.state = .fresh → roomSupply (some r) = some ⟨false, t, sp, r.floor⟩) ∧
      (r.state = .held → roomSupply (some r) = some ⟨true, t, sp, r.floor⟩))) ∧
  ∀ (s : State) (o : Opening) (n : Fin 12) (p : Profile) (stale : Bool) (room : Option RoomSupply) (e : EngineLoop),
    let d := demandOf s o n p stale room e
    let floored (x : Nat) : Nat :=
      let y := match room with
        | some r => if r.temperature < 500 ∧ p.kind ≠ .off then max x 150 else x
        | none => x
      match room.bind (·.floor) with
      | none => y
      | some f =>
        if (p.floorMax : Int) - f ≤ 0 then 0
        else if (p.floorMax : Int) - f < 50 then min y (1000 * ((p.floorMax : Int) - f).toNat / 50)
        else y
    (p.kind = .boost → d = (floored p.fixedDemand, e.integrator)) ∧
    (p.kind = .off → d = (0, e.integrator)) ∧
    (∀ prog st, p.kind = .dryout → p.program = some prog → currentStep s prog = some st →
      d = (floored st.demand, e.integrator)) ∧
    (p.kind = .dryout → (∀ prog, p.program = some prog → currentStep s prog = none) →
      ∃ x, x ≤ 1000 ∧ d = (floored x, e.integrator)) ∧
    (controlKind p.kind = true → room = none → d = (p.seed, e.integrator)) ∧
    (∀ r, controlKind p.kind = true → room = some r →
      let sp := max 500 (min 3000 (if p.mode = .offset then r.setpoint + p.setpoint else p.setpoint))
      let err := max (-500) (min 500 (sp - r.temperature))
      let hold := (e.dLast = some 1000 ∧ 0 < err) ∨ (e.dLast = some 0 ∧ err < 0) ∨ (e.scaled = true ∧ 0 < err) ∨
        o.source ≠ .heating ∨ r.held = true
      d.1 = floored (max 0 (min 1000 (((d.2 / 100 : Nat) : Int) + (s.config.kp * err).tdiv 100))).toNat ∧
      (stale = true → d.2 = e.dLast.getD p.seed * 100) ∧
      (stale = false → hold → d.2 = e.integrator) ∧
      (stale = false → ¬ hold →
        (d.2 : Int) = max 0 (min 100000 ((e.integrator : Int) + s.config.ki * err))))

/-- Stage 4 (R64): in every pass, once its stages are made, the allocations of the station's present loops sum to at most the
grant G (a pass makes its steps in free pieces, assumption 12, so the sum is said of any number of steps after the opening);
and every step keeps the law of a pass in progress, so that this holds from the end of the stages to the close, in however
many pieces the pass has been made. -/
def Obligations.AllocationsSumToAtMostTheGrant : Prop :=
  (∀ (s : State) (left k : Nat) (w : PassResult), s.engine.timer = some left → s.engine.visit = none →
    s.engine.work = none →
    let t := passSteps k (openVisit (elapse left s))
    t.engine.work = some w →
    (((List.finRange 12).filter fun n => (s.loops.get n).isSome).map fun n =>
      (t.engine.loops.get n).qAlloc).sum ≤ w.g) ∧
  (∀ s t : State, PassLaw s → step s = .next t → PassLaw t)

/-- PASS_CLOSE (R71, R72, R73, R103, R154): the results are handed on and the buffer is empty; the trim update begins,
and makes a free number of its steps before the comparison of the extra report (assumption 23) and a free number after
it (assumption 12); when the close reads DEFROST no channel and no queue entry changes. The steps that are left stand
over: what the trim update has made in pieces is what its steps make one after another. A pass that is still in its
stages makes the rest of them first (assumption 12). The comparison: an R that differs from the last reported R by more
than a sixteenth of it has its report built at once when the last one is 5 s old, or due 5 s after it, and a due time
already set is not moved. An extra report before any other is built at once (assumption 22). -/
def Obligations.PassCloseHandsOnTheResults : Prop :=
  (∀ (s : State) (w : PassResult), s.engine.visit = none → s.engine.work = some w → ∃ u j k t,
    exec .passClose s = .next t ∧ t = piece trimStep k (extraReport (piece trimStep j (beginTrim u))) ∧
    t.valves = (trimSteps (j + k) (beginTrim u)).valves ∧ t.meter = (trimSteps (j + k) (beginTrim u)).meter ∧
    u.valves = { s.valves with activity := u.valves.activity } ∧ u.cuts = s.cuts ∧
    u.engine = { s.engine with
      work := none
      result := w
      demands := u.engine.demands
      sourceSeen := effectiveState s
      buffer := Tab.fill 12 none } ∧
    (∀ n, u.engine.demands.get n = (s.engine.loops.get n).reported) ∧
    (effectiveState s = .defrost → u.channels = s.channels ∧ u.arbiter = s.arbiter ∧ u.valves = s.valves) ∧
    u.recorder = s.recorder ∧ u.bus = s.bus ∧ u.meter = s.meter ∧
    t.engine = u.engine ∧ t.channels = u.channels ∧ t.arbiter = u.arbiter ∧
    t.loops = s.loops ∧ t.rooms = s.rooms ∧ t.scanner = s.scanner ∧ t.peers = s.peers ∧ t.config = s.config ∧
    t.programOne = s.programOne ∧ t.programTwo = s.programTwo ∧ t.operation = s.operation ∧ t.visiting = s.visiting ∧
    t.loader = s.loader ∧ t.phases = s.phases ∧ t.bus.rx = s.bus.rx ∧ t.bus.reply = s.bus.reply) ∧
  (∀ s : State, s.engine.visit ≠ none →
    let u := passSteps (stepsLeft s) s
    exec .passClose s = exec .passClose u ∧ u.engine.visit = none ∧ u.engine.work.isSome = true) ∧
  (∀ s : State,
    let r := s.engine.result.r
    let last := s.bus.lastR
    (r ≤ last + last / 16 → last ≤ r + last / 16 → extraReport s = s) ∧
    (∀ at_, last + last / 16 < r ∨ r + last / 16 < last → s.bus.lastReportAt = some at_ → at_ + 5000 ≤ s.now →
      extraReport s = reported s) ∧
    (∀ at_, last + last / 16 < r ∨ r + last / 16 < last → s.bus.lastReportAt = some at_ → s.now < at_ + 5000 →
      extraReport s = { s with bus := { s.bus with
        extraDue := some (match s.bus.extraDue with
          | some due => due
          | none => at_ + 5000) } }) ∧
    (last + last / 16 < r ∨ r + last / 16 < last → s.bus.lastReportAt = none → extraReport s = reported s))

/-- The swap (R71, R112, R113, R115, R130). At one channel: a target for a usable channel becomes its live target, lowered
to the stroke, and an empty slot or a channel that is not usable changes nothing; a driving move keeps on with its limit
re-armed, arrives, or reverses; in every other state the new target only replaces the old one; a target equal to the old
one changes nothing. At PASS_CLOSE outside DEFROST, all channels together: each channel takes its target so, and an IDLE
channel whose new target lies more than 8 counts away asks for a move, and waits with its entry or drives toward the
target in its slot. In FALLBACK the targets are the strokes as they stand at the close (R70). The premises on the queue
are laws that every step keeps. -/
def Obligations.NewTargetReachesTheChannel : Prop :=
  (∀ (s : State) (n : Fin 12) (target stroke : Nat), s.engine.buffer.get n = some target →
    (s.channels.get n).stroke = some stroke → (s.channels.get n).calibrated = true →
    (s.channels.get n).state ≠ .disabled →
    ((swapChannel s n).channels.get n).live = some (min target stroke) ∧
    ((swapChannel s n).channels.get n).counter = (s.channels.get n).counter ∧
    ∀ m, m ≠ n → (swapChannel s n).channels.get m = s.channels.get m) ∧
  (∀ (s : State) (n : Fin 12), (s.engine.buffer.get n = none ∨ (s.channels.get n).calibrated = false ∨
    (s.channels.get n).state = .disabled) → swapChannel s n = s) ∧
  (∀ (s : State) (n : Fin 12) (target : Nat),
     let c := s.channels.get n
     let t := takeTarget s n target
     let off (m : MoveRecord) : MoveRecord := { m with direction := none, stall := 0, limit := none }
     (c.live = some target → t = s) ∧
     (c.live ≠ some target → (c.state ≠ .drivingOpen ∧ c.state ≠ .drivingClose) →
       t.channels.get n = { c with live := some target }) ∧
     (∀ m, c.live ≠ some target → c.move = some m →
       (c.state = .drivingOpen ∧ c.counter + 8 < target) ∨ (c.state = .drivingClose ∧ (target : Int) + 8 < c.counter) →
       t.channels.get n = { c with
         live := some target
         move := some { m with limit := some (2 * (c.counter - target).natAbs * s.config.countTime + 2000) } }) ∧
     (∀ m, c.live ≠ some target → c.move = some m →
       (c.state = .drivingOpen ∨ c.state = .drivingClose) → (c.counter - target).natAbs ≤ 8 →
       t.channels.get n = { c with
         live := some target, state := .settling, move := some (off m), wait := some 300 }) ∧
     (∀ m, c.live ≠ some target → c.move = some m →
       (c.state = .drivingOpen ∧ (target : Int) + 8 < c.counter) ∨ (c.state = .drivingClose ∧ c.counter + 8 < target) →
       t.channels.get n = { c with
         live := some target, state := .reversing, move := some (off m), wait := some 200 }) ∧
     (∀ k, k ≠ n → t.channels.get k = s.channels.get k) ∧ t.arbiter = s.arbiter) ∧
  (∀ (s : State) (w : PassResult), s.engine.visit = none → s.engine.work = some w → effectiveState s ≠ .defrost →
     DriveLaw s → GrantLaw s.arbiter → ∃ t, exec .passClose s = .next t ∧ ∀ n,
     let c := s.channels.get n
     let c' := t.channels.get n
     let slot := if s.loader.state = .fallback then c.stroke else s.engine.buffer.get n
     let target : Option Nat := if c.calibrated = true ∧ c.state ≠ .disabled then
       (match slot, c.stroke with
         | some x, some stroke => some (min x stroke)
         | _, _ => none) else none
     (target = none → c' = c) ∧
     (∀ x, target = some x → c.state ≠ .idle → c' = (takeTarget s n x).channels.get n) ∧
     (∀ x, target = some x → c.state = .idle → (c.live = some x ∨ (c.counter - x).natAbs ≤ 8) →
       c' = { c with live := some x }) ∧
     (∀ x, target = some x → c.state = .idle → c.live ≠ some x → 8 < (c.counter - x).natAbs →
       (c' = { c with live := some x, state := .queued } ∧ entryOf t n = some ⟨n, .move⟩) ∨
       (c' = { c with
          live := some x
          state := if c.counter < x then .drivingOpen else .drivingClose
          move := some ⟨.move, some (if c.counter < x then .open else .close), 0,
            some (2 * (c.counter - x).natAbs * s.config.countTime + 2000), 0, 0⟩
          wait := none } ∧ (slotOf t n).map (·.2) = some .move)))

/-! ## Sharing the source (chapter 5) -/

/-- The sharing computation (R85 to R89): the case in order, the grant of each case, a grant never above R + B nor,
when scaled, above the station's part of F_src, a bypass addition only for the duty holder in a deficit, and the deficit
spread over the candidates in order, each taking the lower of its headroom and what remains. That D stands in the deficit
case also without the duty is the model's reading of R91 (assumption 24). -/
def Obligations.SharingGrantsWithinItsBounds : Prop :=
  ∀ (station r fSrc fMin : Nat) (peers : List PeerView) (cands : List Candidate),
    let sh := share station r fSrc fMin peers cands
    let total := r + (peers.map (·.r)).sum
    let duty := cands ≠ [] ∧ ∀ p ∈ peers, p.capable = true → station < p.station
    sh.rTot = total ∧ (r ≤ 20000 → peers.length ≤ 7 → (∀ p ∈ peers, p.r ≤ 20000) → total ≤ 160000) ∧
    sh.g ≤ r + sh.b ∧ sh.b = (sh.additions.map (·.flow)).sum ∧
    (fSrc < total → sh.case = .scaling ∧ sh.g = r * fSrc / total ∧ sh.b = 0 ∧ sh.duty = false ∧
      sh.additions = [] ∧ sh.g * total ≤ r * fSrc) ∧
    (total ≤ fSrc → fMin ≤ total → sh.case = .fullGrant ∧ sh.g = r ∧ sh.b = 0 ∧ sh.duty = false ∧
      sh.additions = []) ∧
    (total ≤ fSrc → total < fMin → sh.case = .deficit ∧ sh.deficit = some (fMin - total) ∧
      sh.b ≤ fMin - total ∧ sh.g = r + sh.b ∧ sh.g ≤ fMin ∧ (sh.duty = true ↔ duty) ∧
      (¬ duty → sh.b = 0 ∧ sh.additions = []) ∧
      (duty → sh.b = min (fMin - total) (cands.map fun c => c.qMax - c.qReq).sum ∧
        sh.additions.map (·.loop) = cands.map (·.loop) ∧
        ∀ earlier c later, cands = earlier ++ c :: later →
          sh.additions[earlier.length]? = some ⟨c.loop, min (c.qMax - c.qReq)
            (fMin - total - ((sh.additions.take earlier.length).map (·.flow)).sum)⟩))

/-! ## Valve characteristics and flow trim (chapter 6) -/

/-- The characteristic lookups of a valid table (R66, R67, R94, R95): no flow closes the valve, the full-open flow
opens it whole, and any flow between stands it at the point found by the inverse lookup or at the minimum opening; the
forward interpolation meets every table point, rises with the position and stays in 0 to 1000. -/
def Obligations.CharacteristicLookups : Prop :=
  ∀ t : ValveTable, t.fractions.length = 11 → t.fractions.getD 0 0 = 0 → t.fractions.getD 10 0 = 1000 →
    (∀ k, k < 10 → t.fractions.getD k 0 < t.fractions.getD (k + 1) 0) → 10 ≤ t.minOpening → t.minOpening ≤ 200 →
    (∀ eff, positionFor t 0 eff = 0) ∧
    (∀ q eff, 0 < q → eff ≤ q → positionFor t q eff = 1000) ∧
    (∀ q eff, 0 < q → q < eff →
      ∃ k, k < 10 ∧ t.fractions.getD k 0 ≤ q * 1000 / eff ∧ q * 1000 / eff < t.fractions.getD (k + 1) 0 ∧
        positionFor t q eff = max t.minOpening (100 * k +
          (q * 1000 / eff - t.fractions.getD k 0) * 100 / (t.fractions.getD (k + 1) 0 - t.fractions.getD k 0)) ∧
        positionFor t q eff ≤ 999 ∧
        ∀ j, j < 10 → t.fractions.getD j 0 ≤ q * 1000 / eff → q * 1000 / eff < t.fractions.getD (j + 1) 0 →
          j = k) ∧
    (∀ k, k ≤ 10 → fractionAt t (100 * k) = t.fractions.getD k 0) ∧
    (∀ p k, 100 * k ≤ p → p < 100 * (k + 1) → k < 10 → fractionAt t p = t.fractions.getD k 0 +
      (t.fractions.getD (k + 1) 0 - t.fractions.getD k 0) * (p - 100 * k) / 100) ∧
    (∀ p q, p ≤ q → fractionAt t p ≤ fractionAt t q) ∧
    (∀ p, fractionAt t p ≤ 1000)

/-- METER_PULSE and the measurement (R97 to R102): a pulse raises the count, which wraps at 65536, and is not counted
before the counter's start; a measurement takes the period's pulses modulo 65536, its flow, the class of the sample, the
volume, and the moves between GOOD and SUSPECT with the faults they make. -/
def Obligations.PulsesAndMeasurementsMoveTheMeter : Prop :=
  (∀ s : State,
     (s.meter.counting = true → s.meter.pulses < 65535 →
       exec .meterPulse s = .next { s with meter := { s.meter with pulses := s.meter.pulses + 1 } }) ∧
     (s.meter.counting = true → s.meter.pulses = 65535 →
       exec .meterPulse s = .next { s with meter := { s.meter with pulses := 0 } }) ∧
     (s.meter.counting = false → exec .meterPulse s = .next s)) ∧
  (∀ (m : Meter) (p : Nat), m.state = .unconfigured → measure m p = ⟨m, none, none⟩) ∧
  (∀ (m : Meter) (p pitch top : Nat), m.state ≠ .unconfigured → m.pitch = some pitch → m.maximum = some top →
    m.pulses < 65536 → m.old < 65536 →
    let sub := if m.old ≤ m.pulses then m.pulses - m.old else m.pulses + 65536 - m.old
    let flow := sub * pitch * 120 / 1000
    let a := measure m p
    a.meter.new = m.pulses ∧ a.meter.old = m.pulses ∧ a.meter.sub = sub ∧ a.meter.pulses = m.pulses ∧
    (flow ≤ top → a.meter.flow = flow ∧ a.meter.sample = .inWindow ∧ a.flow = some flow ∧
      a.meter.remainder = (m.remainder + sub * pitch) % 1000 ∧
      a.meter.total = (m.total + (m.remainder + sub * pitch) / 1000) % 2 ^ 32) ∧
    (top < flow → a.meter.flow = m.flow ∧ a.meter.sample = .discarded ∧ a.flow = none ∧
      a.meter.remainder = m.remainder ∧ a.meter.total = m.total) ∧
    (m.state = .good → top < flow → a.meter.state = .suspect ∧ a.meter.zeroRun = 0 ∧ a.meter.recoveryRun = 0 ∧
      a.fault = some (1, ((min flow 65535 : Nat) : Int))) ∧
    (m.state = .good → flow ≤ top → flow = 0 → 200 ≤ p → 3 ≤ m.zeroRun → a.meter.state = .suspect ∧
      a.meter.zeroRun = 0 ∧ a.meter.recoveryRun = 0 ∧ a.fault = some (2, (p : Int))) ∧
    (m.state = .good → flow ≤ top → flow = 0 → 200 ≤ p → m.zeroRun < 3 → a.meter.state = .good ∧
      a.meter.zeroRun = m.zeroRun + 1 ∧ a.fault = none) ∧
    (m.state = .good → flow ≤ top → (0 < flow ∨ p < 200) → a.meter.state = .good ∧ a.meter.zeroRun = 0 ∧
      a.fault = none) ∧
    (m.state = .suspect → flow ≤ top → 0 < flow → 1 ≤ m.recoveryRun → a.meter.state = .good ∧
      a.meter.recoveryRun = 0 ∧ a.fault = none) ∧
    (m.state = .suspect → flow ≤ top → 0 < flow → m.recoveryRun = 0 → a.meter.state = .suspect ∧
      a.meter.recoveryRun = 1 ∧ a.fault = none) ∧
    (m.state = .suspect → (top < flow ∨ flow = 0) → a.meter.state = .suspect ∧ a.meter.recoveryRun = 0 ∧
      a.fault = none))

/-- The trim update (R100, R101, R103, R104, R106, R108), step by step from whatever state a step finds, and whole. Step 1
makes the predicted flow of its moment the last P. Step 2 makes the measurement with that P and reports a METER_FAULT that
it makes with its cause and value. Step 3 judges with what the measurement has returned (`Judged`): the first failing
condition is recorded and the factor stands, or the factor moves one eighth of the way to c × M / P and is clamped to 700 to
1300; the activity flag is then set exactly when some channel stands in one of the seven states of R105. P is the sum, over
the present loops with a calibrated channel that is not DISABLED and a valid table, of the trimmed full-open flow times the
fraction at the channel's position share (R104, R96), whatever the loop's profile. Between the steps the last P is new while
M and the factor are old, and then M is new while the factor is old. -/
def Obligations.TrimMovesOneEighthWhenThePeriodQualifies : Prop :=
  (∀ (c : Channel) (stroke : Nat), c.stroke = some stroke →
    (positionShare c : Int) = max 0 (min 1000 ((c.counter * 1000).tdiv stroke))) ∧
  (∀ s : State, predictedFlow s = ((List.finRange 12).map fun n =>
    match s.loops.get n with
    | none => 0
    | some l =>
      match validTable s l.info.valveType with
      | none => 0
      | some v =>
        if (s.channels.get n).calibrated = true ∧ (s.channels.get n).state ≠ .disabled then
          l.info.qFull * s.valves.trim / 1000 * fractionAt v (positionShare (s.channels.get n)) / 1000
        else 0).sum) ∧
  (∀ s : State, s.valves.update = some .predict →
    trimStep s = { s with valves := { s.valves with lastP := predictedFlow s, update := some .measure } }) ∧
  (∀ s : State, s.valves.update = some .measure →
    let a := measure s.meter s.valves.lastP
    let t := trimStep s
    TrimFrame s t ∧ t.meter = a.meter ∧
    t.valves = { s.valves with update := some (.judge a.meter.state a.flow) } ∧ FaultMade s a.fault t) ∧
  (∀ (s : State) (state : MeterState) (flow : Option Nat), s.valves.update = some (.judge state flow) →
    let t := trimStep s
    t = { s with valves := t.valves } ∧ Judged s s.valves.lastP state flow t.valves) ∧
  (∀ s : State, s.valves.update = none → trimStep s = s) ∧
  ∀ s : State,
    let p := predictedFlow s
    let a := measure s.meter p
    let t := trimSteps 3 (beginTrim s)
    TrimFrame s t ∧ t.meter = a.meter ∧ FaultMade s a.fault t ∧ Judged s p a.meter.state a.flow t.valves

/-! ## Peers and source (chapter 5) -/

/-- STATION_REPORT (R77, R78): the checks in order; a report that passes becomes the sender's record, FRESH at age 0 s,
in station-number order, and no other record changes. A request that is still being answered is answered first
(`UnusedFramesAndRefusedRequestsAreCounted`). -/
def Obligations.StationReportByItsChecks : Prop :=
  ∀ (s : State) (f : Frame) (c : CoreFields),
    requestOpen s = false → s.bus.rx.head? = some f → f.kind = 3 → readCore f.content = some c →
    let sender := f.sender.toNat
    let inRange := c.r ≤ 20000 ∧ c.b ≤ 60000 ∧ c.g ≤ 60000 ∧ c.m ≤ 60000 ∧ c.calling ≤ 12 ∧ c.outOfService ≤ 12 ∧
      c.stationState ≤ 1 ∧ c.sourceState ≤ 3
    (sender = 0 ∨ 8 < sender → exec .stationReport s = .next { popped s with
      peers := { s.peers with foreignReports := min 65535 (s.peers.foreignReports + 1) } }) ∧
    (sender = stationNumber s → exec .stationReport s = .next (report (popped s)
      ⟨.addressClash, stationNumber s, c.r, c.g, some f⟩)) ∧
    (1 ≤ sender → sender ≤ 8 → sender ≠ stationNumber s → ¬ inRange → exec .stationReport s = .next { popped s with
      peers := { s.peers with refusedReports := min 65535 (s.peers.refusedReports + 1) } }) ∧
    (∀ station : Fin 8, sender = station.val + 1 → sender ≠ stationNumber s → inRange → ∃ t src,
      exec .stationReport s = .next t ∧ sourceStateOf c.sourceState = some src ∧
      t = { popped s with peers := { s.peers with peers := t.peers.peers } } ∧
      t.peers.peers.find? (fun p => p.station == station) = some ⟨station,
        ⟨c.r, c.b, c.g, c.m, c.calling, c.outOfService, c.capable, c.duty, decide (c.stationState = 1), src⟩,
        ⟨0, 0⟩, true⟩ ∧
      (∀ other, other ≠ station → t.peers.peers.find? (fun p => p.station == other) =
        s.peers.peers.find? (fun p => p.station == other)) ∧
      ((s.peers.peers.map (·.station)).Pairwise (· < ·) → (t.peers.peers.map (·.station)).Pairwise (· < ·)))

/-- PEER_STALE and PEER_REMOVAL (R79): at 61 s a FRESH record becomes STALE, at 601 s a STALE record is removed, and
nothing is recorded or sent. -/
def Obligations.PeerRecordsAgeAndGo : Prop :=
  ∀ (s : State) (station : Fin 8) (p : Peer),
    s.peers.peers.find? (fun q => q.station == station) = some p →
    (p.fresh = true → ∃ t, exec (.peerStale station) s = .next t ∧
      t = { elapse (peerLeft s station) s with
        peers := { (elapse (peerLeft s station) s).peers with peers := t.peers.peers } } ∧
      t.peers.peers.find? (fun q => q.station == station) = some { p with age := ⟨61, 0⟩, fresh := false } ∧
      ∀ other, other ≠ station → t.peers.peers.find? (fun q => q.station == other) =
        (elapse (peerLeft s station) s).peers.peers.find? (fun q => q.station == other)) ∧
    (p.fresh = false → ∃ t, exec (.peerRemoval station) s = .next t ∧
      t = { elapse (peerLeft s station) s with
        peers := { (elapse (peerLeft s station) s).peers with peers := t.peers.peers } } ∧
      t.peers.peers.find? (fun q => q.station == station) = none ∧
      ∀ other, other ≠ station → t.peers.peers.find? (fun q => q.station == other) =
        (elapse (peerLeft s station) s).peers.peers.find? (fun q => q.station == other))

/-- SOURCE_REPORT by its checks (R80, R81, R135, R141, R142): another sender's report is counted; a malformed report from
address 9 is refused as a whole and reported; any other is taken. Then the arbiter's view follows DEFROST: into it nothing
moves, and out of it the waiting entries are granted. The dry-out programs pause on leaving HEATING and run again on
entering it, where a step end that fell due is made at once; after the last step that leaves the program DONE with hours and
part hour 0 (assumption 13), and its withdrawals, as far as they are not made at once, follow as the station's own work
(`finishDry`, assumption 12). A second that was due and not taken at the pause is not
counted (R141), and the milliseconds of a begun one are kept (assumption 31). The sequencer first makes to its end an operation
that it still has in progress, when the report takes the source into or out of HEATING (assumption 44); a request that is still
being answered is answered first (`UnusedFramesAndRefusedRequestsAreCounted`). -/
def Obligations.SourceReportByItsChecks : Prop :=
  (∀ (s : State) (f : Frame) (v : SourceFields), requestOpen s = false →
    s.bus.rx.head? = some f → f.kind = 1 → readSource f.content = some v →
    (f.sender ≠ 9 → exec .sourceReport s = .next { popped s with
      peers := { s.peers with foreignReports := min 65535 (s.peers.foreignReports + 1) } }) ∧
    (f.sender = 9 → (3 < v.state ∨ 60000 < v.fSrc ∨ 60000 < v.fMin ∨ v.fSrc < v.fMin) →
      exec .sourceReport s = .next (report (popped s) ⟨.sourceMalformed, 9, v.fMin, v.fSrc, some f⟩))) ∧
  (∀ (s : State) (f : Frame) (v : SourceFields) (st : SourceState), requestOpen s = false →
    s.bus.rx.head? = some f → f.kind = 1 → readSource f.content = some v → f.sender = 9 →
    sourceStateOf v.state = some st → v.fSrc ≤ 60000 → v.fMin ≤ v.fSrc → ∃ u t,
    exec .sourceReport s = .next t ∧
    ((effectiveState s = .heating ↔ st = .heating) → u = popped s) ∧
    (¬ (effectiveState s = .heating ↔ st = .heating) → u = finishDry (popped s) ∧ u.operation = none) ∧
    DryFrame (popped s) u ∧ (s.operation = none → u = popped s) ∧
    t.peers = { s.peers with source := ⟨.fresh, ⟨0, 0⟩, some st, some v.fSrc, some v.fMin, some v.setpoint⟩ } ∧
    t.arbiter.defrost = decide (st = .defrost) ∧
    (st = .defrost ∨ s.arbiter.defrost = false → t.channels = s.channels ∧ t.arbiter.queue = s.arbiter.queue ∧
      t.arbiter.slots = s.arbiter.slots) ∧
    (st ≠ .defrost → s.arbiter.defrost = true →
      let g := grants { u with arbiter := { u.arbiter with defrost := false } }
      t.channels = g.channels ∧ t.arbiter = g.arbiter) ∧
    (effectiveState s = .heating → st ≠ .heating → ∀ p, instanceOf t p =
      if (instanceOf u p).state = .running then { instanceOf u p with
        state := .paused, part := ⟨(instanceOf u p).part.secs, (instanceOf u p).part.ms % 1000⟩ }
      else instanceOf u p) ∧
    ((effectiveState s = .heating ↔ st = .heating) → ∀ p, instanceOf t p = instanceOf u p) ∧
    (effectiveState s ≠ .heating → st = .heating → ∀ p, let i := instanceOf u p
      (i.state ≠ .paused → instanceOf t p = i ∧ instanceOf (finishDry t) p = i) ∧
      (i.state = .paused → stepExhausted u p = false →
        instanceOf t p = { i with state := .running } ∧ instanceOf (finishDry t) p = { i with state := .running }) ∧
      (∀ d k e, i.state = .paused → programDef u p = some d → i.step = some k → 0 < k → d.steps[k - 1]? = some e →
        e.hours ≤ i.hours →
        (k < d.steps.length →
          instanceOf t p = { i with state := .running, step := some (k + 1), hours := 0, part := ⟨0, 0⟩ }) ∧
        (k = d.steps.length → (∃ members, instanceOf t p =
            { i with state := .done, hours := 0, part := ⟨0, 0⟩, members := members }) ∧
          let w := finishDry t
          instanceOf w p = { i with state := .done, hours := 0, part := ⟨0, 0⟩, members := [] } ∧ w.bus = u.bus ∧
          w.recorder = u.recorder ∧
          ∀ n l, n ∈ i.members → w.loops.get n = some l → ∀ x ∈ l.chain.tail, x.owner ≠ .dryout p))) ∧
    (∀ n, (∀ p, n ∉ (instanceOf u p).members) → t.loops.get n = u.loops.get n) ∧
    ((effectiveState s = .heating ∨ st ≠ .heating) → t.loops = u.loops ∧ t.operation = u.operation) ∧ t.bus = u.bus ∧ t.recorder = u.recorder ∧
    t.rooms = s.rooms ∧ t.engine = s.engine ∧ t.meter = s.meter ∧ t.scanner = s.scanner ∧ t.config = s.config ∧
    t.visiting = s.visiting ∧ t.loader = s.loader ∧ t.phases = s.phases ∧ t.valves.trim = s.valves.trim)

/-- SOURCE_STALE (R82, R83, R135, R141): the record becomes STALE at 61 s and keeps its values, SOURCE_STALE is
reported, the effective state becomes HEATING, and the arbiter and the programs follow it. The sequencer first makes to its end
an operation that it still has in progress, when the source was not HEATING (assumption 44). -/
def Obligations.SourceStepsIntoStale : Prop :=
  ∀ s : State, s.loader.state ≠ .loading → s.peers.source.validity ≠ .stale → ∃ u t,
    exec .sourceStale s = .next t ∧
    (effectiveState s = .heating → u = elapse (sourceLeft s) s) ∧
    (effectiveState s ≠ .heating → u = finishDry (elapse (sourceLeft s) s)) ∧
    DryFrame (elapse (sourceLeft s) s) u ∧ (s.operation = none → u = elapse (sourceLeft s) s) ∧
    t.peers.source = { s.peers.source with age := ⟨61, 0⟩, validity := .stale } ∧
    effectiveState t = .heating ∧ t.arbiter.defrost = false ∧
    (t.recorder.kinds.get (kindIndex .sourceStale)).status = true ∧
    (u.recorder.pointer = none → (s.recorder.kinds.get (kindIndex .sourceStale)).masked = false →
      t.recorder.pointer = some .sourceStale ∧
      t.recorder.record.map (fun e => (e.origin, e.item, e.first, e.second)) =
        some (.internal, 9, if s.peers.source.validity = .never then 1 else 0,
          ((s.peers.source.fSrc.getD 0 : Nat) : Int))) ∧
    (∀ p, (instanceOf u p).state = .paused → effectiveState s ≠ .heating → stepExhausted u p = false →
      instanceOf t p = { instanceOf u p with state := .running }) ∧
    t.rooms = (elapse (sourceLeft s) s).rooms ∧ t.engine = (elapse (sourceLeft s) s).engine ∧ t.meter = s.meter ∧
    t.bus.rx = s.bus.rx ∧ t.bus.reply = u.bus.reply

/-! ## Frames handed on and SERVICE requests (chapter 10) -/

/-- UNUSED_FRAME, and the checks of every SERVICE request (R151, R156): a frame of a kind that no block uses, or too
short for its kind, is discarded and counted; so is a request from no tool or for another station; a request that finds
the reply slot occupied is dropped and counted. Whatever the head frame calls for, a request that is still being answered is
answered first: its reply is placed before the next frame is handed on (R151, R156; assumption 12). -/
def Obligations.UnusedFramesAndRefusedRequestsAreCounted : Prop :=
  (∀ (s : State) (f : Frame), requestOpen s = true → s.bus.rx.head? = some f →
     exec (handOn f) s = exec (handOn f) (finishDry s) ∧ requestOpen (finishDry s) = false ∧
     (finishDry s).bus.rx = s.bus.rx ∧ (finishDry s).bus.reply ≠ none) ∧
  (∀ (s : State) (f : Frame), requestOpen s = false → s.bus.rx.head? = some f →
     (f.kind = 0 ∨ f.kind = 4 ∨ f.kind = 6 ∨ 7 ≤ f.kind.toNat ∨ (f.kind = 1 ∧ f.content.length < 7) ∨
       (f.kind = 2 ∧ f.content.length < 6) ∨ (f.kind = 3 ∧ f.content.length < 10) ∨
       (f.kind = 5 ∧ f.content.length < 2)) →
     exec .unusedFrame s = .next { s with bus := { s.bus with
       rx := s.bus.rx.tail, unused := min 65535 (s.bus.unused + 1) } }) ∧
  (∀ (s : State) (f : Frame) (target code : Byte) (args : List Byte), requestOpen s = false →
     s.bus.rx.head? = some f → f.kind = 5 → f.content = target :: code :: args →
     let tool := 10 ≤ f.sender.toNat ∧ f.sender.toNat ≤ 15
     let unused : State := { s with bus := { s.bus with
       rx := s.bus.rx.tail, unused := min 65535 (s.bus.unused + 1) } }
     (¬ tool → exec (requestCommand code.toNat) s = .next unused) ∧
     (tool → target.toNat ≠ stationNumber s → exec (requestCommand code.toNat) s = .next unused) ∧
     (tool → target.toNat = stationNumber s → s.bus.reply ≠ none →
       exec (requestCommand code.toNat) s = .next { s with bus := { s.bus with
         rx := s.bus.rx.tail, dropped := min 65535 (s.bus.dropped + 1) } }))

/-- The queries (R157, R173): a part that exists is answered OK with its data, and nothing else changes. What a part
holds is said of the parts themselves below. -/
def Obligations.QueriesAnswerTheirParts : Prop :=
  ∀ (s : State) (f : Frame) (k : Byte) (more data : List Byte),
    (∀ n : Fin 12, accepted s f 1 (BitVec.ofNat 8 (n.val + 1) :: k :: more) →
      (loopParts s n)[k.toNat]? = some data →
      exec .readLoop s = .next (replied (popped s) f 1 0 k (BitVec.ofNat 8 ((loopParts s n).length - 1)) data)) ∧
    (accepted s f 2 (k :: more) → (faultParts s)[k.toNat]? = some data →
      exec .readFaults s = .next (replied (popped s) f 2 0 k 3 data)) ∧
    (accepted s f 3 (k :: more) → (peerParts s)[k.toNat]? = some data →
      exec .readPeers s = .next (replied (popped s) f 3 0 k (BitVec.ofNat 8 ((peerParts s).length - 1)) data)) ∧
    (accepted s f 4 (k :: more) → (trimParts s)[k.toNat]? = some data →
      exec .readTrim s = .next (replied (popped s) f 4 0 k 2 data))

/-- Every part of a query: how many parts there are, that each fits the 55 data bytes of one reply, and its bytes
(section 13.3; R19, R33, R45, R75, R91, R108, R128, R137, R158, R166). The premises are laws that every reachable state
keeps. Where section 13.3 leaves a layout or a code open, what a part holds is the model's choice (assumption 10), and so is
that the engine's values are those that stand, during the first pass too (assumption 43). -/
def Obligations.QueryPartsFitOneReply : Prop :=
  (∀ (s : State) (n : Fin 12),
    let c := s.channels.get n
    let sc := s.scanner
    let probe (k : Fin 14) : List Byte := [u8 (probeStateCode (supply sc k).1)] ++ s16? (supply sc k).2 ++
      u16? (sc.probes.get k).lastCode ++ [code? probeCauseCode (sc.probes.get k).lastCause]
    let moveBytes : List Byte := match c.move with
      | some m => [u8 (opKindCode m.kind), code? directionCode m.direction] ++ u16 m.against ++ u16 m.illegal ++
          u32? m.limit
      | none => []
    let arbiterBytes : List Byte :=
      u16 s.arbiter.queue.length ++ u16 (s.arbiter.slots.items.filter Option.isNone).length ++
        [if s.arbiter.defrost then 0 else 1]
    let channelBytes (place : List Byte) : List Byte :=
      [u8 (channelStateCode c.state), flagByte c.calibrated] ++ s16 c.counter ++ u16? c.stroke ++ u16? c.live ++
        s16 c.rest ++ u16 c.blocked ++ s16? c.seatError ++ u16 c.illegalTotal ++ [flagByte c.remembered] ++ moveBytes ++
        place ++ arbiterBytes
    let placed (place : List Byte) : Prop :=
      (∀ i : Nat, ∀ e, s.arbiter.queue[i]? = some e → e.channel = n →
        (∀ x ∈ s.arbiter.queue.take i, x.channel ≠ n) → place = u16 (i + 1) ++ [u8 (opKindCode e.kind)]) ∧
      ((∀ e ∈ s.arbiter.queue, e.channel ≠ n) → ∀ i kind, slotOf s n = some (i, kind) →
        place = u16 (i.val + 1) ++ [u8 (opKindCode kind)]) ∧
      ((∀ e ∈ s.arbiter.queue, e.channel ≠ n) → slotOf s n = none → place = [])
    (ChainsLaw s → ∀ d ∈ loopParts s n, d.length ≤ 55) ∧
    (∀ l, s.loops.get n = some l → ∃ place, placed place ∧
      let p := activeProfile s l.chain
      let e := s.engine.loops.get n
      loopParts s n =
        [[1] ++ u16 l.info.room ++ u16 (l.info.valveType.val + 1) ++
          (u8 l.chain.length :: l.chain.flatMap fun x => u16 x.profile.val ++ [u8 (ownerCode x.owner)]) ++
          u16 (activeNumber l.chain).val ++ [u8 (profileKindCode p.kind), flagByte p.overrides, flagByte l.stale] ++
          u16 ((l.boost.getD 0 + 59999) / 60000) ++ [if l.boost.isSome then 0 else 1] ++
          (match roomRecord s l.info.room with
            | some r => [u8 (roomStateCode r.state)] ++ u16 r.age.secs ++ [u8 (roomModeCode r.mode)] ++
                s16? r.temperature ++ u16? (r.setpoint.map Int.toNat) ++ s16? r.floor
            | none => []),
         [flagByte e.inService] ++ u32 e.integrator ++ u16? e.dLast ++ u16 e.reported ++ [flagByte e.scaled] ++
           u16 e.openSettled ++ u16 e.qReq ++ u16 e.qAlloc ++ u16? e.dropEff ++ [flagByte e.dropValid] ++
           u16? e.lastTarget ++ probe ⟨n.val, by omega⟩ ++ probe 12,
         channelBytes place]) ∧
    (s.loops.get n = none → channelInUse s n = true → ∃ place, placed place ∧
      loopParts s n = [[0], channelBytes place]) ∧
    (s.loops.get n = none → channelInUse s n = false → loopParts s n = [[0]])) ∧
  (∀ s : State, (∀ e c, s.recorder.record = some e → e.frame = some c → c.bytes.length ≤ 8) →
    (faultParts s).length = 4 ∧ (∀ d ∈ faultParts s, d.length ≤ 55) ∧
    (∀ d, (faultParts s)[0]? = some d → d.length = 19 ∧
      (∀ k : Fin 16, ∃ b, d[k.val]? = some b ∧ b.getLsbD 7 = (s.recorder.kinds.get k).status ∧
        b.getLsbD 6 = (s.recorder.kinds.get k).masked ∧
        b.toNat % 64 = severityCode (s.recorder.kinds.get k).severity) ∧
      d.drop 16 = [pointerByte s.recorder.pointer, flagByte s.recorder.overflow, flagByte s.recorder.enable]) ∧
    (s.recorder.record = none → (faultParts s)[1]? = some (List.replicate 23 0)) ∧
    (∀ e, s.recorder.record = some e → (faultParts s)[1]? = some
      ([u8 (kindCode e.kind), u8 (severityCode e.severity), u8 (originCode e.origin), u8 e.item] ++ s32 e.first ++
        s32 e.second ++ match e.frame with
          | none => [0xFF, 0xFF, 0] ++ List.replicate 8 0
          | some f => u16 (f.kind.toNat * 4096 + f.sender.toNat * 64) ++ [u8 f.bytes.length] ++ f.bytes ++
              List.replicate (8 - f.bytes.length) 0)) ∧
    (faultParts s)[2]? = some (s.recorder.slots.items.flatMap fun a =>
      u16 a.kinds.toNat ++ u16 a.tag ++ [flagByte a.masked, flagByte a.pending] ++
        match a.latest with
        | some l => [u8 (kindCode l.kind), u8 (originCode l.origin)] ++ u16 l.item
        | none => [0xFF, 0xFF, 0xFF, 0xFF]) ∧
    (faultParts s)[3]? = some (u16 s.rooms.ignored ++ u16 s.rooms.refused ++ u16 s.bus.frameCheck ++ u16 s.bus.overflow ++
      u16 s.bus.unused ++ u16 s.bus.dropped ++ (List.finRange 14).map (fun n => u8 (probeStateCode (supply s.scanner n).1)) ++
      s16? (supply s.scanner 13).2 ++ u16? (s.scanner.probes.get 13).lastCode ++
      [code? probeCauseCode (s.scanner.probes.get 13).lastCause])) ∧
  (∀ s : State,
    let l := s.peers.peers
    let source := s.peers.source
    let w := s.engine.result
    let part (some_ : List Peer) : List Byte := u8 some_.length :: some_.flatMap fun p =>
      [u8 ((p.station.val + 1) * 16 + if p.fresh then 0 else 1)] ++ coreBytes p.core ++ u16 p.age.secs
    (l.length ≤ 8 → ∀ d ∈ peerParts s, d.length ≤ 55) ∧
    (peerParts s)[0]? = some ([u8 (validityCode source.validity)] ++ u16 source.age.secs ++
      [code? sourceStateCode source.state] ++ u16? source.fSrc ++ u16? source.fMin ++ s16? source.setpoint ++
      [u8 (sourceStateCode (effectiveState s))] ++ u16 (effectiveSrc s) ++ u16 (effectiveMin s) ++
      u16 s.peers.foreignReports ++ u16 s.peers.refusedReports ++ u32 w.rTot ++ [code? caseCode w.case] ++ u16 w.g ++
      u16 w.b ++ [flagByte w.duty] ++ u16? w.deficit) ∧
    (peerParts s).drop 1 =
      if l.length = 0 then [] else if l.length ≤ 4 then [part l] else [part (l.take 4), part (l.drop 4)]) ∧
  (∀ s : State, (∀ k t, s.valves.tables.get k = some t → t.fractions.length = 11) →
    (∀ d ∈ trimParts s, d.length ≤ 55) ∧
    let m := s.meter
    let v := s.valves
    let table (k : Fin 4) : List Byte := match v.tables.get k with
      | some t => [if t.valid then 0 else 1] ++ t.fractions.flatMap u16 ++ u16 t.minOpening
      | none => [1]
    trimParts s =
      [u16 v.trim ++ u16 v.lastP ++ [u8 (judgmentCode v.lastJudgment)] ++ u32? v.lastTarget ++
         [u8 (meterStateCode m.state), u8 (sampleCode m.sample)] ++ u16 m.sub ++ u16 m.flow ++ u16 m.zeroRun ++
         u16 m.recoveryRun ++ u32 m.total ++ u16 m.remainder ++ u16? m.pitch ++ u16? m.maximum,
       table 0 ++ table 1, table 2 ++ table 3])

/-- Requests answered BAD_ARGUMENT without data and without effect (R157, R173): a part beyond the last, a loop outside
1 to 12, missing arguments, and any unknown request code. What the part number is when none was named, and the last part
number when no loop was, are left free (assumption 5); that the reply to a request that is no query carries part 0 of 0, and
a query's BAD_ARGUMENT the part asked for, is the model's reading (assumption 14). -/
def Obligations.BadArgumentsChangeNothing : Prop :=
  ∀ (s : State) (f : Frame) (args : List Byte),
    (∀ n : Fin 12, ∀ k more, accepted s f 1 (BitVec.ofNat 8 (n.val + 1) :: k :: more) →
      (loopParts s n).length ≤ k.toNat →
      exec .readLoop s = .next (replied (popped s) f 1 2 k (BitVec.ofNat 8 ((loopParts s n).length - 1)) [])) ∧
    (∀ n more, accepted s f 1 (n :: more) → (n.toNat = 0 ∨ 12 < n.toNat) → ∃ part last draws,
      exec .readLoop s = .next (replied { popped s with draws := draws } f 1 2 part last [])) ∧
    (∀ k more, accepted s f 2 (k :: more) → 4 ≤ k.toNat →
      exec .readFaults s = .next (replied (popped s) f 2 2 k 3 [])) ∧
    (∀ k more, accepted s f 3 (k :: more) → (peerParts s).length ≤ k.toNat →
      exec .readPeers s = .next (replied (popped s) f 3 2 k (BitVec.ofNat 8 ((peerParts s).length - 1)) [])) ∧
    (∀ k more, accepted s f 4 (k :: more) → 3 ≤ k.toNat →
      exec .readTrim s = .next (replied (popped s) f 4 2 k 2 [])) ∧
    (∀ n : Fin 12, accepted s f 1 [BitVec.ofNat 8 (n.val + 1)] → ∃ part draws,
      exec .readLoop s = .next (replied { popped s with draws := draws } f 1 2 part
        (BitVec.ofNat 8 ((loopParts s n).length - 1)) [])) ∧
    (accepted s f 1 [] → ∃ part last draws,
      exec .readLoop s = .next (replied { popped s with draws := draws } f 1 2 part last [])) ∧
    (accepted s f 2 [] → ∃ part draws,
      exec .readFaults s = .next (replied { popped s with draws := draws } f 2 2 part 3 [])) ∧
    (accepted s f 3 [] → ∃ part last draws,
      exec .readPeers s = .next (replied { popped s with draws := draws } f 3 2 part last [])) ∧
    (accepted s f 4 [] → ∃ part draws,
      exec .readTrim s = .next (replied { popped s with draws := draws } f 4 2 part 2 [])) ∧
    (∀ p more, accepted s f 5 (p :: more) → p.toNat ≠ 1 → p.toNat ≠ 2 →
      exec .startDryout s = .next (replied (popped s) f 5 2 0 0 [])) ∧
    (∀ p more, accepted s f 6 (p :: more) → p.toNat ≠ 1 → p.toNat ≠ 2 →
      exec .stopDryout s = .next (replied (popped s) f 6 2 0 0 [])) ∧
    (∀ code : Byte, 5 ≤ code.toNat → code.toNat ≤ 10 → accepted s f code [] →
      exec (requestCommand code.toNat) s = .next (replied (popped s) f code 2 0 0 [])) ∧
    (∀ i, accepted s f 9 [i] → exec .alertMask s = .next (replied (popped s) f 9 2 0 0 [])) ∧
    (∀ code : Byte, (code.toNat = 0 ∨ 10 < code.toNat) → accepted s f code args →
      exec .unknownRequest s = .next (replied (popped s) f code 2 0 0 []))

/-- START_DRYOUT (R140, R139, R8, R9, R11): the result by program number, instance and usability; a usable program pushes its
profile on the present loops of its set, starts with those that took it, and is refused when none did. The first loop that
refuses has PROFILE_REFUSED recorded, with origin INTERNAL, when the pointer is empty. A program that takes no push keeps
its part hour beside state, step and hours (assumption 41). The start makes a free number of its steps at once, and the rest as
the station's own work; `finishDry` makes them all (assumption 12), and an operation before it is made to its end first
(assumption 44). Each step is said by itself: a push brings its loop into the member set or reports, the instance then takes its
new state, and the reply follows. Part and last part of the replies are 0 (assumption 14). -/
def Obligations.StartDryoutPushesTheProgram : Prop :=
  (∀ (s : State) (f : Frame) (p : Prog) (more : List Byte),
    accepted s f 5 (BitVec.ofNat 8 (progNumber p) :: more) →
    let u := finishDry (popped s)
    DryFrame (popped s) u ∧ u.operation = none ∧ (s.operation = none → u = popped s) ∧
    ((instanceOf u p).state = .running ∨ (instanceOf u p).state = .paused →
      exec .startDryout s = .next (replied u f 5 1 0 0 [])) ∧
    ((instanceOf u p).state ≠ .running → (instanceOf u p).state ≠ .paused → programDef u p = none →
      exec .startDryout s = .next (replied u f 5 3 0 0 [])) ∧
    (∀ d, (instanceOf u p).state ≠ .running → (instanceOf u p).state ≠ .paused → programDef u p = some d →
      d.loops.Nodup →
      let code (n : Fin 12) : Nat := (u.loops.get n).elim 0 fun l => dryCode u p d.profile l.chain
      let members := d.loops.filter fun n => (u.loops.get n).isSome && code n == 0
      let visited := d.loops.filter fun n => (u.loops.get n).isSome
      let v : State := { setInstance u p { instanceOf u p with members := [] } with
        operation := some ⟨p, instanceOf u p, .push f d.profile (decide (visited ≠ [])) visited⟩ }
      ∃ t data, (∃ k, exec .startDryout s = .next (piece dryStep k v)) ∧
        (∀ k, finishDry (times dryStep k v) = finishDry v) ∧
        DryFrame u t ∧ t.operation = none ∧
        finishDry v = replied t f 5 (if members = [] then 3 else 0) 0 0 data ∧
        (∀ n l, u.loops.get n = some l → t.loops.get n = some
          (if n ∈ members then { l with chain := l.chain ++ [⟨d.profile, .dryout p⟩], stale := true } else l)) ∧
        (∀ n, u.loops.get n = none → t.loops.get n = none) ∧
        (∀ q, q ≠ p → instanceOf t q = instanceOf u q) ∧
        (members ≠ [] → data = u16 (setWord members) ∧ instanceOf t p =
          ⟨if effectiveState s = .heating then .running else .paused, some 1, 0, ⟨0, 0⟩, members⟩) ∧
        (members = [] → instanceOf t p = { instanceOf u p with members := [] } ∧
          data = if visited = [] then [] else u16 0) ∧
        ((∀ n ∈ d.loops, code n = 0) → t.recorder = u.recorder ∧ t.bus = u.bus) ∧
        (∀ earlier n later, d.loops = earlier ++ n :: later → code n ≠ 0 → (∀ m ∈ earlier, code m = 0) →
          (t.recorder.kinds.get (kindIndex .profileRefused)).status = true ∧
          (u.recorder.pointer = none → (u.recorder.kinds.get (kindIndex .profileRefused)).masked = false →
            t.recorder.pointer = some .profileRefused ∧
            t.recorder.record = some (refusalRecord u n (code n) d.profile none))))) ∧
  (∀ (s : State) (f : Frame) (p : Prog) (i : DryInstance) (number : Fin 16) (tried : Bool),
    let at_ (stage : DryStage) : Option DryOperation := some ⟨p, i, stage⟩
    (∀ n l todo, s.operation = at_ (.push f number tried (n :: todo)) → s.loops.get n = some l →
      let code := dryCode s p number l.chain
      let next := at_ (.push f number tried todo)
      (code = 0 → dryStep s = { setInstance
        (setLoop s n { l with chain := l.chain ++ [⟨number, .dryout p⟩], stale := true }) p
          { instanceOf s p with members := (instanceOf s p).members ++ [n] } with operation := next }) ∧
      (code ≠ 0 → dryStep s = { report s
        ⟨.profileRefused, n.val + 1, ((code : Nat) : Int), number.val, none⟩ with operation := next })) ∧
    (s.operation = at_ (.push f number tried []) →
      ((instanceOf s p).members ≠ [] → dryStep s = { setInstance s p
        ⟨if effectiveState s = .heating then .running else .paused, some 1, 0, ⟨0, 0⟩, (instanceOf s p).members⟩ with
          operation := at_ (.reply f .started) }) ∧
      ((instanceOf s p).members = [] → dryStep s = { s with operation := at_ (.reply f (.refused tried)) })) ∧
    (s.operation = at_ (.reply f .started) →
      dryStep s = replied { s with operation := none } f 5 0 0 0 (u16 (setWord (instanceOf s p).members))) ∧
    (s.operation = at_ (.reply f (.refused tried)) →
      dryStep s = replied { s with operation := none } f 5 3 0 0 (if tried then u16 0 else [])))

/-- STOP_DRYOUT (R143, R139, R12): a RUNNING or PAUSED program is aborted at its step, its entries are withdrawn, each loop's
history-stale flag set exactly where the entry was the top, and DRYOUT_ABORTED is reported; any other is refused. That the
aborted program keeps its hours and part hour is the model's choice (assumption 37), and so is part 0 of 0 in the replies
(assumption 14). The stop makes a free number of its steps at once, and the rest as the station's own work; `finishDry` makes
them all (assumption 12), and an operation before it is made to its end first (assumption 44). Each step is said by itself: the
withdrawals, the emptying of the member set, the report, the reply. -/
def Obligations.StopDryoutAbortsTheProgram : Prop :=
  (∀ (s : State) (f : Frame) (p : Prog) (more : List Byte),
    accepted s f 6 (BitVec.ofNat 8 (progNumber p) :: more) →
    let u := finishDry (popped s)
    let i := instanceOf u p
    let v : State := { setInstance u p { i with state := .aborted } with
      operation := some ⟨p, i, .withdraw (some f) i.members⟩ }
    DryFrame (popped s) u ∧ u.operation = none ∧ (s.operation = none → u = popped s) ∧
    (i.state ≠ .running → i.state ≠ .paused → exec .stopDryout s = .next (replied u f 6 3 0 0 [])) ∧
    (i.state = .running ∨ i.state = .paused → ∃ w,
      (∃ k, exec .stopDryout s = .next (piece dryStep k v)) ∧ (∀ k, finishDry (times dryStep k v) = finishDry v) ∧
      finishDry v = replied
        (report w ⟨.dryoutAborted, stationNumber s, progNumber p, ((i.step.getD 0 : Nat) : Int), some f⟩) f 6 0 0 0 [] ∧
      DryFrame u w ∧ w.operation = none ∧ w.recorder = u.recorder ∧ w.bus = u.bus ∧
      instanceOf w p = { i with state := .aborted, members := [] } ∧
      (∀ q, q ≠ p → instanceOf w q = instanceOf u q) ∧
      (∀ n, n ∉ i.members → w.loops.get n = u.loops.get n) ∧
      (∀ n l bottom above, n ∈ i.members → u.loops.get n = some l → l.chain = bottom :: above →
        w.loops.get n = some { l with
          chain := bottom :: above.filter (fun e => e.owner != .dryout p)
          stale := l.stale || decide (above.getLast?.map (·.owner) = some (.dryout p)) }))) ∧
  (∀ (s : State) (f : Frame) (p : Prog) (i : DryInstance),
    let at_ (stage : DryStage) : Option DryOperation := some ⟨p, i, stage⟩
    (∀ n l bottom above todo, s.operation = at_ (.withdraw (some f) (n :: todo)) → s.loops.get n = some l →
      l.chain = bottom :: above → dryStep s = { setLoop s n { l with
        chain := bottom :: above.filter (fun e => e.owner != .dryout p)
        stale := l.stale || decide (above.getLast?.map (·.owner) = some (.dryout p)) } with
          operation := at_ (.withdraw (some f) todo) }) ∧
    (s.operation = at_ (.withdraw (some f) []) → dryStep s = { setInstance s p
      { instanceOf s p with members := [] } with operation := at_ (.abort f) }) ∧
    (s.operation = at_ (.abort f) → dryStep s = { report s ⟨.dryoutAborted, stationNumber s, progNumber p,
      (((instanceOf s p).step.getD 0 : Nat) : Int), some f⟩ with operation := at_ (.reply f .stopped) }) ∧
    (s.operation = at_ (.reply f .stopped) → dryStep s = replied { s with operation := none } f 6 0 0 0 []))

/-- RECALIBRATE (R157, R122): the result by the number and by use, and the requests made. Part and last part of the
replies are 0 (assumption 14). -/
def Obligations.RecalibrateRequestsCalibrations : Prop :=
  ∀ (s : State) (f : Frame) (n : Byte) (more : List Byte), accepted s f 7 (n :: more) →
    (12 < n.toNat → exec .recalibrate s = .next (replied (popped s) f 7 2 0 0 [])) ∧
    (∀ c : Fin 12, n.toNat = c.val + 1 → channelInUse s c = true →
      exec .recalibrate s = .next (replied (requestCalibration (popped s) c true) f 7 0 0 0 [])) ∧
    (∀ c : Fin 12, n.toNat = c.val + 1 → channelInUse s c = false →
      exec .recalibrate s = .next (replied (popped s) f 7 3 0 0 [])) ∧
    (n.toNat = 0 → (∀ c, channelInUse s c = false) →
      exec .recalibrate s = .next (replied (popped s) f 7 3 0 0 [])) ∧
    (n.toNat = 0 → (∃ c, channelInUse s c = true) →
      exec .recalibrate s = .next (replied
        (((List.finRange 12).filter (channelInUse s)).foldl (fun t c => requestCalibration t c true) (popped s))
        f 7 0 0 0 []))

/-- CLEAR_FAULTS (R162, R173): the named statuses clear, the pointer with its record and overflow flag only when it is
named; a bad list clears nothing. Part and last part of the replies are 0 (assumption 14). -/
def Obligations.ClearFaultsClearsTheNamedKinds : Prop :=
  ∀ (s : State) (f : Frame) (count : Byte) (codes : List Byte), accepted s f 8 (count :: codes) →
    let named := codes.take count.toNat
    let good := count.toNat ≤ 16 ∧ count.toNat ≤ codes.length ∧ ∀ c ∈ named, 1 ≤ c.toNat ∧ c.toNat ≤ 16
    (¬ good → exec .clearFaults s = .next (replied (popped s) f 8 2 0 0 [])) ∧
    (good → ∃ t, exec .clearFaults s = .next (replied t f 8 0 0 0
        (u16 (statusWord t) ++ [pointerByte t.recorder.pointer, flagByte t.recorder.overflow])) ∧
      t = { popped s with recorder := t.recorder } ∧
      t.recorder.slots = s.recorder.slots ∧ t.recorder.enable = s.recorder.enable ∧
      (∀ k : Fin 16, (t.recorder.kinds.get k).masked = (s.recorder.kinds.get k).masked ∧
        (t.recorder.kinds.get k).severity = (s.recorder.kinds.get k).severity ∧
        ((∃ c ∈ named, c.toNat = k.val + 1) → (t.recorder.kinds.get k).status = false) ∧
        ((∀ c ∈ named, c.toNat ≠ k.val + 1) →
          (t.recorder.kinds.get k).status = (s.recorder.kinds.get k).status)) ∧
      ((∃ k, s.recorder.pointer = some k ∧ ∃ c ∈ named, c.toNat = kindCode k) →
        t.recorder.pointer = none ∧ t.recorder.record = none ∧ t.recorder.overflow = false) ∧
      ((∀ k, s.recorder.pointer = some k → ∀ c ∈ named, c.toNat ≠ kindCode k) →
        t.recorder.pointer = s.recorder.pointer ∧ t.recorder.record = s.recorder.record ∧
        t.recorder.overflow = s.recorder.overflow))

/-- ALERT_MASK and ALERT_ENABLE (R164): masking keeps what pends; unmasking a masked slot that pends sends one ALERT
from its latest pending, placed at once unless earlier ALERTs are still on their way (R163; assumption 42); disabling clears
what pends; bad arguments change nothing. Part and last part of the
replies are 0 (assumption 14). -/
def Obligations.AlertMaskAndAlertEnable : Prop :=
  (∀ (s : State) (f : Frame) (i : Fin 4) (v : Byte) (more : List Byte),
    accepted s f 9 (BitVec.ofNat 8 (i.val + 1) :: v :: more) →
    let a := s.recorder.slots.get i
    let put (b : AlertSlot) : State :=
      { popped s with recorder := { s.recorder with slots := s.recorder.slots.set i b } }
    (1 < v.toNat → exec .alertMask s = .next (replied (popped s) f 9 2 0 0 [])) ∧
    (v = 1 → exec .alertMask s = .next (replied (put { a with masked := true }) f 9 0 0 0
      [1, if a.pending then 1 else 0])) ∧
    (∀ l, v = 0 → a.masked = true → a.pending = true → a.latest = some l →
      let freed := put { a with masked := false, pending := false, latest := none }
      let sent : Frame := ⟨4, ownAddress s,
        [BitVec.ofNat 8 (i.val + 1), BitVec.ofNat 8 a.tag, BitVec.ofNat 8 (kindCode l.kind),
          BitVec.ofNat 8 (severityCode (s.recorder.kinds.get (kindIndex l.kind)).severity),
          BitVec.ofNat 8 (originCode l.origin), BitVec.ofNat 8 l.item]⟩
      (s.bus.placing = [] →
        exec .alertMask s = .next (replied (placeFrame freed .alert sent) f 9 0 0 0 [0, 0])) ∧
      (s.bus.placing ≠ [] → exec .alertMask s = .next (replied { freed with
        bus := { freed.bus with placing := s.bus.placing ++ [sent] } } f 9 0 0 0 [0, 0]))) ∧
    (v = 0 → (a.masked = false ∨ a.pending = false) →
      exec .alertMask s = .next (replied (put { a with masked := false }) f 9 0 0 0
        [0, if a.pending then 1 else 0]))) ∧
  (∀ (s : State) (f : Frame) (i v : Byte) (more : List Byte), accepted s f 9 (i :: v :: more) →
    (i.toNat = 0 ∨ 4 < i.toNat) → exec .alertMask s = .next (replied (popped s) f 9 2 0 0 [])) ∧
  (∀ (s : State) (f : Frame) (v : Byte) (more : List Byte), accepted s f 10 (v :: more) →
    (1 < v.toNat → exec .alertEnable s = .next (replied (popped s) f 10 2 0 0 [])) ∧
    (v = 1 → exec .alertEnable s =
      .next (replied { popped s with recorder := { s.recorder with enable := true } } f 10 0 0 0 [1])) ∧
    (v = 0 → ∃ slots, exec .alertEnable s =
      .next (replied { popped s with recorder := { s.recorder with enable := false, slots := slots } } f 10 0 0 0
        [0]) ∧
      ∀ i, slots.get i = { s.recorder.slots.get i with pending := false, latest := none }))

/-! ## Screed dry-out (chapter 9) -/

/-- DRYOUT_HOUR and DRYOUT_STEP_END (R141, R142, R139, R12): an hour counts in a RUNNING program whose step has time left, and in
no other; at its duration's end the step advances, or the last step ends in DONE with the entries withdrawn and the member
set empty, a free number of the withdrawals at once and the rest as the station's own work (`finishDry`; assumption 12). That a
step end comes before the next hour follows the table's two rows (assumption 31), the hours of a
program that is DONE are 0 (assumption 13), and an operation that is still in progress is made to its end first (assumption
44). Each step of the withdrawals is said by itself. -/
def Obligations.DryoutHoursAndSteps : Prop :=
  (∀ (s : State) (p : Prog),
    let u := finishDry s
    let i := instanceOf u p
    DryFrame s u ∧ u.operation = none ∧ (s.operation = none → u = s) ∧
    (s.loader.state ≠ .loading → i.state = .running → stepExhausted u p = false →
      exec (.dryoutHour p) s = .next (setInstance (elapse (hourLeft u p) u) p
        { i with hours := i.hours + 1, part := ⟨0, 0⟩ })) ∧
    (s.loader.state = .loading ∨ i.state ≠ .running →
      exec (.dryoutHour p) s = .next s ∧ exec (.dryoutStepEnd p) s = .next s) ∧
    (∀ d k st, s.loader.state ≠ .loading → i.state = .running → programDef u p = some d → i.step = some k → 0 < k →
      d.steps[k - 1]? = some st → st.hours ≤ i.hours →
      exec (.dryoutHour p) s = .next s ∧
      (k < d.steps.length → exec (.dryoutStepEnd p) s = .next (setInstance u p
        { i with step := some (k + 1), hours := 0, part := ⟨0, 0⟩ })) ∧
      (k = d.steps.length →
        let v : State := { setInstance u p { i with state := .done, hours := 0, part := ⟨0, 0⟩ } with
          operation := some ⟨p, i, .withdraw none i.members⟩ }
        let t := finishDry v
        (∃ j, exec (.dryoutStepEnd p) s = .next (piece dryStep j v)) ∧ (∀ j, finishDry (times dryStep j v) = t) ∧
        DryFrame u t ∧ t.operation = none ∧ t.recorder = u.recorder ∧ t.bus = u.bus ∧
        instanceOf t p = { i with state := .done, hours := 0, part := ⟨0, 0⟩, members := [] } ∧
        (∀ q, q ≠ p → instanceOf t q = instanceOf u q) ∧
        (∀ n, n ∉ i.members → t.loops.get n = u.loops.get n) ∧
        (∀ n l bottom above, n ∈ i.members → u.loops.get n = some l → l.chain = bottom :: above →
          t.loops.get n = some { l with
            chain := bottom :: above.filter (fun e => e.owner != .dryout p)
            stale := l.stale || decide (above.getLast?.map (·.owner) = some (.dryout p)) })))) ∧
  (∀ (s : State) (p : Prog) (i : DryInstance),
    let at_ (todo : List (Fin 12)) : Option DryOperation := some ⟨p, i, .withdraw none todo⟩
    (∀ n l bottom above todo, s.operation = at_ (n :: todo) → s.loops.get n = some l → l.chain = bottom :: above →
      dryStep s = { setLoop s n { l with
        chain := bottom :: above.filter (fun e => e.owner != .dryout p)
        stale := l.stale || decide (above.getLast?.map (·.owner) = some (.dryout p)) } with operation := at_ todo }) ∧
    (s.operation = at_ [] → dryStep s = { setInstance s p
      { instanceOf s p with members := [] } with operation := none }))

/-! ## Actuator channels and the drive queue (chapters 7 and 8) -/

/-- FEEDBACK_EDGE (R110), in every channel state: a legal edge moves the counter by one within its ends, a change of
both phases leaves it and adds to the illegal total, and an unchanged pair changes nothing. -/
def Obligations.FeedbackEdgeCounts : Prop :=
  ∀ (s : State) (n : Fin 12) (a b : Bool),
    let old := s.phases.get n
    let c := s.channels.get n
    let toOpen := (old, a, b) ∈ ([(⟨false, false⟩, false, true), (⟨false, true⟩, true, true),
      (⟨true, true⟩, true, false), (⟨true, false⟩, false, false)] : List (PhasePair × Bool × Bool))
    let toClose := (old, a, b) ∈ ([(⟨false, false⟩, true, false), (⟨true, false⟩, true, true),
      (⟨true, true⟩, false, true), (⟨false, true⟩, false, false)] : List (PhasePair × Bool × Bool))
    (old = ⟨a, b⟩ → exec (.feedbackEdge n a b) s = .next s) ∧
    ∃ t, exec (.feedbackEdge n a b) s = .next t ∧ t.phases.get n = ⟨a, b⟩ ∧
      (∀ m, m ≠ n → t.phases.get m = s.phases.get m ∧ (t.channels.get m).counter = (s.channels.get m).counter) ∧
      (toOpen → (t.channels.get n).counter = max (-1024) (min 5119 (c.counter + 1)) ∧
        (t.channels.get n).illegalTotal = c.illegalTotal) ∧
      (toClose → (t.channels.get n).counter = max (-1024) (min 5119 (c.counter - 1)) ∧
        (t.channels.get n).illegalTotal = c.illegalTotal) ∧
      (a ≠ old.a → b ≠ old.b → (t.channels.get n).counter = c.counter ∧
        (t.channels.get n).illegalTotal = min 65535 (c.illegalTotal + 1)) ∧
      DriveFrame { s with phases := s.phases.set n ⟨a, b⟩ } t

/-- What an edge does beside the counting (R110, R114, R117, R120, R121, R122), from every phase pair and in both
directions. In a driving move the stall timer restarts and an edge against the drive is counted; an illegal count of 4 ends
the move with cause 1, nine counts against the drive with cause 3, and a counter that reaches the live target settles for
300 ms with the drive off, judged in this order (assumption 18); a move that FEEDBACK_ERROR ends keeps its rest position
(assumption 19). An IDLE channel, or one that waits with a MOVE entry, that strays more than 16 counts to either side of
its rest position reports cause 2. FEEDBACK_ERROR is followed by a calibration request. In the other states an edge only
counts. The premises on the queue hold in every state that keeps `DriveLaw`. -/
def Obligations.EdgesJudgedByTheChannel : Prop :=
  ∀ (s : State) (n : Fin 12) (d : Direction),
    let pins := s.phases.get n
    let c := s.channels.get n
    let unmasked := s.recorder.pointer = none ∧ (s.recorder.kinds.get (kindIndex .feedbackError)).masked = false
    let legal : PhasePair := if d = .open then ⟨pins.b, !pins.a⟩ else ⟨!pins.b, pins.a⟩
    let illegal : PhasePair := ⟨!pins.a, !pins.b⟩
    let seen (p : PhasePair) : State := { s with phases := s.phases.set n p }
    let moved : Int := max (-1024) (min 5119 (c.counter + if d = .open then 1 else -1))
    let failed (p : PhasePair) (counter cause : Int) (count : Nat) : Prop :=
      ∃ u, exec (.feedbackEdge n p.a p.b) s = .next (requestCalibration u n false) ∧ DriveFrame (seen p) u ∧
        (u.channels.get n).state = .idle ∧ (u.channels.get n).move = none ∧ (u.channels.get n).counter = counter ∧
        (u.channels.get n).rest = c.rest ∧ slotOf u n = none ∧
        (u.recorder.kinds.get (kindIndex .feedbackError)).status = true ∧
        (unmasked → u.recorder.record.map (fun e => (e.item, e.first, e.second)) =
          some (n.val + 1, cause, (count : Int)))
    let settles (p : PhasePair) (after : Channel) : Prop :=
      ∃ t, exec (.feedbackEdge n p.a p.b) s = .next t ∧ DriveFrame (seen p) t ∧ t.arbiter = s.arbiter ∧
        t.recorder = s.recorder ∧ t.channels.get n = { after with
          state := .settling
          move := after.move.map fun m => { m with direction := none, stall := 0, limit := none }
          wait := some 300 } ∧
        driveOpen (t.channels.get n) = false ∧ driveClose (t.channels.get n) = false
    let reached (counter : Int) (drive : Direction) (target : Nat) : Prop :=
      if drive = .open then (target : Int) ≤ counter else counter ≤ target
    (∀ (m : MoveRecord) (drive : Direction) (target : Nat),
       c.state = (if drive = .open then .drivingOpen else .drivingClose) → c.move = some m →
       m.direction = some drive → c.live = some target → entryOf s n = none →
       let against := if d = drive then m.against else min 255 (m.against + 1)
       let after : Channel := { c with counter := moved, move := some { m with stall := 0, against := against } }
       let many := min 255 (m.illegal + 1)
       let jumped : Channel := { c with
         illegalTotal := min 65535 (c.illegalTotal + 1), move := some { m with illegal := many } }
       (4 ≤ m.illegal → failed legal moved 1 m.illegal) ∧
       (m.illegal < 4 → 9 ≤ against → failed legal moved 3 against) ∧
       (m.illegal < 4 → against < 9 → reached moved drive target → settles legal after) ∧
       (m.illegal < 4 → against < 9 → ¬ reached moved drive target →
         exec (.feedbackEdge n legal.a legal.b) s = .next (setChannel (seen legal) n after)) ∧
       (3 ≤ m.illegal → failed illegal c.counter 1 many) ∧
       (m.illegal < 3 → m.against < 9 → ¬ reached c.counter drive target →
         exec (.feedbackEdge n illegal.a illegal.b) s = .next (setChannel (seen illegal) n jumped))) ∧
    ((c.state = .idle ∨ c.state = .queued ∧ (entryOf s n).map (·.kind) = some .move) → channelInUse s n = true →
       c.move = none →
       (16 < (moved - c.rest).natAbs → exec (.feedbackEdge n legal.a legal.b) s = .next (requestCalibration
         (report (setChannel (seen legal) n { c with counter := moved })
           ⟨.feedbackError, n.val + 1, 2, moved - c.rest, none⟩) n false)) ∧
       ((moved - c.rest).natAbs ≤ 16 →
         exec (.feedbackEdge n legal.a legal.b) s = .next (setChannel (seen legal) n { c with counter := moved })) ∧
       ((c.counter - c.rest).natAbs ≤ 16 → exec (.feedbackEdge n illegal.a illegal.b) s =
         .next (setChannel (seen illegal) n { c with illegalTotal := min 65535 (c.illegalTotal + 1) }))) ∧
    ((channelInUse s n = false ∧ c.state ≠ .drivingOpen ∧ c.state ≠ .drivingClose ∨ c.state = .uncalibrated ∨
        c.state = .queued ∧ (entryOf s n).map (·.kind) = some .calibrate ∨ c.state = .reversing ∨
        c.state = .settling ∨ c.state = .calClose ∨ c.state = .calOpen ∨ c.state = .disabled) →
       exec (.feedbackEdge n legal.a legal.b) s = .next (setChannel (seen legal) n { c with
         counter := moved
         move := c.move.map fun m => match m.direction with
           | some drive => { m with stall := 0, against := if d = drive then m.against else min 255 (m.against + 1) }
           | none => m }) ∧
       exec (.feedbackEdge n illegal.a illegal.b) s = .next (setChannel (seen illegal) n { c with
         illegalTotal := min 65535 (c.illegalTotal + 1)
         move := c.move.map fun m => { m with illegal := min 255 (m.illegal + 1) } }))

/-- STALL in a move (R117, R118): a closing stall at or below a sixteenth of the stroke finds the seat; any other is
reported with the counter and the live target and ends the move, and the second in a row disables the channel. Without a
live target, which a move that drives has, the second value would be -32768 (assumption 21). The premise on the queue holds
in every state that keeps `DriveLaw`. -/
def Obligations.StallInAMove : Prop :=
  ∀ (s : State) (n : Fin 12) (m : MoveRecord) (d : Direction) (stroke : Nat),
    (s.channels.get n).move = some m → m.direction = some d → (s.channels.get n).stroke = some stroke →
    let u := elapse (400 - m.stall) s
    let c := s.channels.get n
    let recorded (t : State) : Prop := (t.recorder.kinds.get (kindIndex .stallBlocked)).status = true ∧
      (s.recorder.pointer = none → (s.recorder.kinds.get (kindIndex .stallBlocked)).masked = false →
        t.recorder.pointer = some .stallBlocked ∧
        t.recorder.record.map (fun e => (e.origin, e.item, e.first, e.second, e.frame)) =
          some (.internal, n.val + 1, c.counter, (c.live.elim (-32768) fun x => (x : Int)), none))
    (c.state = .drivingClose → c.counter ≤ ((stroke / 16 : Nat) : Int) →
      ∃ t, exec (.stall n) s = .next t ∧ DriveFrame u t ∧ t.recorder = s.recorder ∧ t.arbiter = s.arbiter ∧
        (t.channels.get n).state = .settling ∧ (t.channels.get n).counter = 0 ∧
        (t.channels.get n).seatError = some c.counter ∧ (t.channels.get n).wait = some 300 ∧
        (t.channels.get n).blocked = c.blocked ∧
        (∀ k, k ≠ n → t.channels.get k = u.channels.get k)) ∧
    ((c.state = .drivingOpen ∨ (c.state = .drivingClose ∧ ((stroke / 16 : Nat) : Int) < c.counter)) →
      c.blocked = 0 → entryOf s n = none →
      ∃ t, exec (.stall n) s = .next (if c.remembered then requestCalibration t n false else t) ∧
        DriveFrame u t ∧ (t.channels.get n).state = .idle ∧
        (t.channels.get n).move = none ∧ (t.channels.get n).rest = c.counter ∧
        (t.channels.get n).counter = c.counter ∧ (t.channels.get n).blocked = 1 ∧
        (t.channels.get n).live = c.live ∧
        recorded t) ∧
    ((c.state = .drivingOpen ∨ (c.state = .drivingClose ∧ ((stroke / 16 : Nat) : Int) < c.counter)) →
      c.blocked ≠ 0 →
      ∃ t, exec (.stall n) s = .next t ∧ DriveFrame u t ∧ (t.channels.get n).state = .disabled ∧
        (t.channels.get n).move = none ∧ (t.channels.get n).live = none ∧
        (t.channels.get n).remembered = false ∧ (t.channels.get n).blocked = 0 ∧
        (t.channels.get n).rest = c.counter ∧ (t.channels.get n).counter = c.counter ∧
        (t.channels.get n).calibrated = c.calibrated ∧ slotOf t n = none ∧
        recorded t)

/-- STALL in a calibration (R123, R124, R125, R169): the stall of CAL_CLOSE sets the seat at 0 and begins CAL_OPEN with its
drive off for 200 ms; the stall of CAL_OPEN is judged as a stroke, accepted or failed: in NORMAL within 200 to 4000 counts
and the band of the loop's expected stroke, in FALLBACK within 200 to 1900 counts. A failed one is reported with cause 3 and
the counter. That the rest position stands in DISABLED is the model's choice (assumption 40). -/
def Obligations.StallInACalibration : Prop :=
  ∀ (s : State) (n : Fin 12) (m : MoveRecord) (d : Direction),
    (s.channels.get n).move = some m → m.direction = some d →
    let u := elapse (400 - m.stall) s
    let c := s.channels.get n
    let accepted : Prop := ∃ t, exec (.stall n) s = .next t ∧ DriveFrame u t ∧ t.recorder = s.recorder ∧
      (t.channels.get n).state = .settling ∧ (t.channels.get n).stroke = some c.counter.toNat ∧
      (t.channels.get n).calibrated = true ∧ (t.channels.get n).blocked = 0 ∧
      (t.channels.get n).wait = some 300 ∧ (t.channels.get n).counter = c.counter
    let failed : Prop := ∃ t, exec (.stall n) s = .next t ∧ DriveFrame u t ∧ (t.channels.get n).state = .disabled ∧
      (t.channels.get n).calibrated = c.calibrated ∧ (t.channels.get n).stroke = c.stroke ∧
      (t.channels.get n).counter = c.counter ∧ (t.channels.get n).rest = c.rest ∧
      (t.channels.get n).live = none ∧ (t.channels.get n).move = none ∧ slotOf t n = none ∧
      (t.recorder.kinds.get (kindIndex .calibrationFailed)).status = true ∧
      (s.recorder.pointer = none → (s.recorder.kinds.get (kindIndex .calibrationFailed)).masked = false →
        t.recorder.pointer = some .calibrationFailed ∧
        t.recorder.record.map (fun e => (e.origin, e.item, e.first, e.second, e.frame)) =
          some (.internal, n.val + 1, 3, c.counter, none))
    (c.state = .calClose → ∃ t, exec (.stall n) s = .next t ∧ DriveFrame u t ∧ t.recorder = s.recorder ∧
      (t.channels.get n).state = .calOpen ∧ (t.channels.get n).counter = 0 ∧
      (t.channels.get n).seatError = some c.counter ∧ (t.channels.get n).wait = some 200 ∧
      driveOpen (t.channels.get n) = false ∧ driveClose (t.channels.get n) = false) ∧
    (∀ l, c.state = .calOpen → s.loader.state = .normal → s.loops.get n = some l → 200 ≤ c.counter →
      c.counter ≤ 4000 → ((l.info.expectedStroke * 900 / 1000 : Nat) : Int) ≤ c.counter →
      c.counter ≤ ((l.info.expectedStroke * 1100 / 1000 : Nat) : Int) → accepted) ∧
    (∀ l, c.state = .calOpen → s.loader.state = .normal → s.loops.get n = some l →
      (c.counter < 200 ∨ 4000 < c.counter ∨ c.counter < ((l.info.expectedStroke * 900 / 1000 : Nat) : Int) ∨
        ((l.info.expectedStroke * 1100 / 1000 : Nat) : Int) < c.counter) → failed) ∧
    (c.state = .calOpen → s.loader.state = .fallback → 200 ≤ c.counter → c.counter ≤ 1900 → accepted) ∧
    (c.state = .calOpen → s.loader.state = .fallback → c.counter < 200 ∨ 1900 < c.counter → failed)

/-- MOVE_TIMEOUT and PHASE_LIMIT_EXPIRY (R119, R125): a timed-out move is reported with the counter and the live target,
ended and followed by a calibration request; an expired phase limit fails the calibration with cause 1 for CAL_CLOSE or 2 for
CAL_OPEN and the counter, and disables the channel. That the rest position stays after MOVE_TIMEOUT is the model's reading
(assumption 19), and so are that it stays in DISABLED (assumption 40) and the value -32768 without a live target, which a
move that drives has (assumption 21). The premise on the queue holds in every state that keeps `DriveLaw`. -/
def Obligations.TimeLimitsEndTheOperation : Prop :=
  (∀ (s : State) (n : Fin 12),
    (s.channels.get n).state = .drivingOpen ∨ (s.channels.get n).state = .drivingClose → entryOf s n = none →
    let c := s.channels.get n
    ∃ u, exec (.moveTimeout n) s = .next (requestCalibration u n false) ∧
      DriveFrame (elapse (limitLeft s n) s) u ∧ (u.channels.get n).state = .idle ∧
      (u.channels.get n).move = none ∧ (u.channels.get n).counter = c.counter ∧
      (u.channels.get n).blocked = c.blocked ∧ (u.channels.get n).rest = c.rest ∧
      (u.channels.get n).live = c.live ∧ slotOf u n = none ∧
      (u.recorder.kinds.get (kindIndex .moveTimeout)).status = true ∧
      (s.recorder.pointer = none → (s.recorder.kinds.get (kindIndex .moveTimeout)).masked = false →
        u.recorder.pointer = some .moveTimeout ∧
        u.recorder.record.map (fun e => (e.origin, e.item, e.first, e.second, e.frame)) =
          some (.internal, n.val + 1, c.counter, (c.live.elim (-32768) fun x => (x : Int)), none))) ∧
  (∀ (s : State) (n : Fin 12) (m : MoveRecord) (d : Direction),
    (s.channels.get n).state = .calClose ∨ (s.channels.get n).state = .calOpen →
    (s.channels.get n).move = some m → m.direction = some d →
    let c := s.channels.get n
    ∃ t, exec (.phaseLimitExpiry n) s = .next t ∧ DriveFrame (elapse (limitLeft s n) s) t ∧
      (t.channels.get n).state = .disabled ∧ (t.channels.get n).move = none ∧ (t.channels.get n).live = none ∧
      (t.channels.get n).calibrated = c.calibrated ∧ (t.channels.get n).stroke = c.stroke ∧
      (t.channels.get n).counter = c.counter ∧ (t.channels.get n).rest = c.rest ∧ slotOf t n = none ∧
      (t.recorder.kinds.get (kindIndex .calibrationFailed)).status = true ∧
      (s.recorder.pointer = none → (s.recorder.kinds.get (kindIndex .calibrationFailed)).masked = false →
        t.recorder.pointer = some .calibrationFailed ∧
        t.recorder.record.map (fun e => (e.origin, e.item, e.first, e.second, e.frame)) =
          some (.internal, n.val + 1, if c.state = .calClose then 1 else 2, c.counter, none)))

/-- SETTLING_END, CALIBRATION_SETTLING_END, REVERSING_END and CAL_OPEN_DEAD_INTERVAL_END (R112, R114, R116, R124). After a
settling the record goes, the rest position becomes the counter and the channel is IDLE; then a remembered calibration is
requested, or, where the live target lies beyond the deadband, a move. After 200 ms a reversed move drives toward its
target with its illegal count kept, or arrives, and the calibration drives open with its phase limit armed. The premise on
the queue holds in every state that keeps `DriveLaw`. -/
def Obligations.SettlingsAndDeadIntervalsEnd : Prop :=
  (∀ (s : State) (n : Fin 12) (m : MoveRecord), (s.channels.get n).state = .settling →
    (s.channels.get n).move = some m → entryOf s n = none →
    let u := elapse (waitLeft s n) s
    let c := s.channels.get n
    (m.kind = .move → ∃ t, exec (.settlingEnd n) s = .next
        (if c.remembered then requestCalibration t n false else if aim c = none then t else requestMove t n) ∧
      DriveFrame u t ∧ t.recorder = s.recorder ∧ (t.channels.get n).state = .idle ∧
      (t.channels.get n).move = none ∧ (t.channels.get n).rest = c.counter ∧
      (t.channels.get n).counter = c.counter ∧ (t.channels.get n).blocked = 0 ∧ (t.channels.get n).live = c.live) ∧
    (m.kind = .calibrate → ∃ t, exec (.calibrationSettlingEnd n) s = .next
        (if aim c = none then t else requestMove t n) ∧
      DriveFrame u t ∧ t.recorder = s.recorder ∧ (t.channels.get n).state = .idle ∧
      (t.channels.get n).move = none ∧ (t.channels.get n).rest = c.counter ∧
      (t.channels.get n).counter = c.counter ∧ (t.channels.get n).calibrated = c.calibrated ∧
      (t.channels.get n).live = c.live)) ∧
  (∀ (s : State) (n : Fin 12) (m : MoveRecord) (target : Nat), (s.channels.get n).state = .reversing →
    (s.channels.get n).move = some m → (s.channels.get n).live = some target →
    ∃ t, exec (.reversingEnd n) s = .next t ∧ DriveFrame (elapse (waitLeft s n) s) t ∧ t.arbiter = s.arbiter ∧
      t.recorder = s.recorder ∧ (t.channels.get n).counter = (s.channels.get n).counter ∧
      ((s.channels.get n).counter + 8 < target → (t.channels.get n).state = .drivingOpen ∧
        (t.channels.get n).move = some { m with
          direction := some .open, stall := 0, against := 0,
          limit := some (2 * ((s.channels.get n).counter - target).natAbs * s.config.countTime + 2000) }) ∧
      ((target : Int) + 8 < (s.channels.get n).counter → (t.channels.get n).state = .drivingClose ∧
        (t.channels.get n).move = some { m with
          direction := some .close, stall := 0, against := 0,
          limit := some (2 * ((s.channels.get n).counter - target).natAbs * s.config.countTime + 2000) }) ∧
      (((s.channels.get n).counter - target).natAbs ≤ 8 → (t.channels.get n).state = .settling ∧
        (t.channels.get n).wait = some 300)) ∧
  (∀ (s : State) (n : Fin 12) (m : MoveRecord), (s.channels.get n).state = .calOpen →
    (s.channels.get n).move = some m → m.direction = none →
    ∃ t, exec (.calOpenDeadIntervalEnd n) s = .next t ∧ DriveFrame (elapse (waitLeft s n) s) t ∧
      t.arbiter = s.arbiter ∧ t.recorder = s.recorder ∧ (t.channels.get n).state = .calOpen ∧
      driveOpen (t.channels.get n) = true ∧ driveClose (t.channels.get n) = false ∧
      (t.channels.get n).move = some { m with
        direction := some .open, stall := 0, against := 0,
        limit := some (2 * expectedStroke s n * s.config.countTime + 2000) })

/-- A calibration request (R122, R131): refused by a running calibration and, unless it comes from RECALIBRATE, by a
DISABLED channel; remembered by a move that holds its slot; sent to the arbiter by every other channel, which waits in
the queue or calibrates, with its flag clear. -/
def Obligations.CalibrationRequestByChannelState : Prop :=
  ∀ (s : State) (n : Fin 12) (service : Bool), ArbiterLaw s.arbiter → channelInUse s n = true →
    let c := s.channels.get n
    let t := requestCalibration s n service
    ((c.state = .calClose ∨ c.state = .calOpen ∨ (c.state = .settling ∧ c.move.map (·.kind) = some .calibrate) ∨
      (c.state = .queued ∧ (entryOf s n).map (·.kind) = some .calibrate) ∨
      (c.state = .disabled ∧ service = false)) → t = s) ∧
    ((c.state = .drivingOpen ∨ c.state = .drivingClose ∨ c.state = .reversing ∨
      (c.state = .settling ∧ c.move.map (·.kind) = some .move)) →
      t = setChannel s n { c with remembered := true }) ∧
    ((c.state = .uncalibrated ∨ c.state = .idle ∨ (c.state = .disabled ∧ service = true) ∨
      (c.state = .queued ∧ (entryOf s n).map (·.kind) = some .move)) → ¬ holdsSlot s.arbiter n →
      (t.channels.get n).calibrated = false ∧
      (((t.channels.get n).state = .queued ∧ entryOf t n = some ⟨n, .calibrate⟩) ∨
        ((t.channels.get n).state = .calClose ∧ (t.channels.get n).live = none ∧
          (slotOf t n).map (·.2) = some .calibrate)))

/-- The grants (R113, R123, R134, R135): with no free slot, or none but calibrations waiting in DEFROST, nothing is granted;
otherwise the lowest-numbered free slot goes to the oldest entry that may start, past the calibrations that wait in
DEFROST, the channel begins its operation, or ends a move that has no way to go and frees the slot, and the grants go on
from there. -/
def Obligations.GrantsGoToTheOldestThatMayStart : Prop :=
  (∀ s : State, GrantLaw s.arbiter → grants s = s) ∧
  (∀ (s : State) (earlier later : List DriveEntry) (n : Fin 12) (kind : OpKind) (slot : Fin 3),
    s.arbiter.queue = earlier ++ ⟨n, kind⟩ :: later →
    (∀ e ∈ earlier, e.kind = .calibrate ∧ s.arbiter.defrost = true) → (kind = .move ∨ s.arbiter.defrost = false) →
    s.arbiter.slots.get slot = none → (∀ j, j < slot → s.arbiter.slots.get j ≠ none) →
    (s.channels.get n).state = .queued →
    let c := s.channels.get n
    let a : Arbiter := { s.arbiter with queue := earlier ++ later, slots := s.arbiter.slots.set slot (some ⟨n, kind⟩) }
    let begun (c' : Channel) : State := { s with
      arbiter := a, channels := s.channels.set n c', valves := { s.valves with activity := true } }
    (kind = .calibrate → grants s = grants (begun { c with
      state := .calClose
      live := none
      remembered := false
      move := some ⟨.calibrate, some .close, 0, some (2 * expectedStroke s n * s.config.countTime + 2000), 0, 0⟩
      wait := none })) ∧
    (∀ target, kind = .move → c.live = some target → 8 < (c.counter - target).natAbs → grants s = grants (begun { c with
      state := if c.counter < target then .drivingOpen else .drivingClose
      move := some ⟨.move, some (if c.counter < target then .open else .close), 0,
        some (2 * (c.counter - target).natAbs * s.config.countTime + 2000), 0, 0⟩
      wait := none })) ∧
    (kind = .move → (c.live = none ∨ ∃ target, c.live = some target ∧ (c.counter - target).natAbs ≤ 8) →
      (∀ j e, s.arbiter.slots.get j = some e → e.channel ≠ n) →
      grants s = grants { s with
        arbiter := { s.arbiter with queue := earlier ++ later }
        channels := s.channels.set n { c with state := .idle, move := none, wait := none, rest := c.counter } }))

/-! ## Faults (chapter 11) -/

/-- A fault event (R160, R161, R163): its status is set; an unmasked one takes an empty pointer with its whole record,
or sets the overflow flag; a masked one does nothing more. With the enable on, an unmasked fault pends in every masked
alert slot that listens for its kind, and every unmasked slot that listens has an ALERT built; these go to the alert transmit
slot one after the other, in slot-number order and after those still on their way from an earlier fault: the first at once when
none is on its way, and each of the others in an event of its own, where it replaces the one before it unless that one has left
the slot (assumption 42). Otherwise nothing pends or is sent. -/
def Obligations.FaultEventIsRecordedAndAlerted : Prop :=
  (∀ (s : State) (e : FaultEvent),
     let t := report s e
     let masked := (s.recorder.kinds.get (kindIndex e.kind)).masked
     FaultFrame s t ∧ (t.recorder.kinds.get (kindIndex e.kind)).status = true ∧
     (∀ k, k ≠ kindIndex e.kind → t.recorder.kinds.get k = s.recorder.kinds.get k) ∧
     t.recorder.enable = s.recorder.enable ∧
     (masked = true → t.recorder.pointer = s.recorder.pointer ∧ t.recorder.record = s.recorder.record ∧
       t.recorder.overflow = s.recorder.overflow ∧ t.recorder.slots = s.recorder.slots ∧ t.bus = s.bus) ∧
     (∀ k, masked = false → s.recorder.pointer = some k → t.recorder.pointer = some k ∧
       t.recorder.record = s.recorder.record ∧ t.recorder.overflow = true) ∧
     (masked = false → s.recorder.pointer = none → t.recorder.pointer = some e.kind ∧
       t.recorder.overflow = s.recorder.overflow ∧
       t.recorder.record = some
         { kind := e.kind
           severity := (s.recorder.kinds.get (kindIndex e.kind)).severity
           origin := if e.frame.isSome then .frame else .internal
           item := e.item
           first := e.first
           second := e.second
           frame := e.frame.map fun f => ⟨f.kind, f.sender, f.content.take 8⟩ })) ∧
  (∀ (s : State) (e : FaultEvent), (s.recorder.kinds.get (kindIndex e.kind)).masked = false →
     let t := report s e
     let origin : Origin := if e.frame.isSome then .frame else .internal
     let hears (i : Fin 4) : Bool := (s.recorder.slots.get i).kinds.getLsbD (kindIndex e.kind).val
     let sent : List Frame := ((List.finRange 4).filter fun i => hears i && !(s.recorder.slots.get i).masked).map fun i =>
       ⟨4, ownAddress s,
         [BitVec.ofNat 8 (i.val + 1), BitVec.ofNat 8 (s.recorder.slots.get i).tag, BitVec.ofNat 8 (kindCode e.kind),
           BitVec.ofNat 8 (severityCode (s.recorder.kinds.get (kindIndex e.kind)).severity),
           BitVec.ofNat 8 (originCode origin), BitVec.ofNat 8 e.item]⟩
     (s.recorder.enable = false → t.recorder.slots = s.recorder.slots ∧ t.bus = s.bus) ∧
     (s.recorder.enable = true →
       (∀ i, hears i = true → (s.recorder.slots.get i).masked = true → t.recorder.slots.get i =
         { s.recorder.slots.get i with pending := true, latest := some ⟨e.kind, origin, e.item⟩ }) ∧
       (∀ i, hears i = false ∨ (s.recorder.slots.get i).masked = false →
         t.recorder.slots.get i = s.recorder.slots.get i) ∧
       (sent = [] → t.bus = s.bus) ∧
       (s.bus.placing ≠ [] → t.bus = { s.bus with placing := s.bus.placing ++ sent }) ∧
       (∀ first more, s.bus.placing = [] → sent = first :: more → t.bus = { s.bus with
         alert := some first, placing := more, tx := if s.bus.tx = .idle then .waiting else s.bus.tx }))) ∧
  (∀ s : State, (s.bus.placing = [] → placeAlert s = s) ∧
    ∀ first more, s.bus.placing = first :: more → placeAlert s = { s with bus := { s.bus with
      alert := some first, placing := more, tx := if s.bus.tx = .idle then .waiting else s.bus.tx } })

/-! ## The floor bus (chapter 10) -/

/-- FRAME_RECEIVED (R149, R150, R172): a good frame joins the queue at its tail while it holds fewer than 8, and is dropped,
counted and reported otherwise; a frame that is not good, one that ends within a field among them, is discarded, counted and
reported with the check it carried, or 0 when it was cut short, and the check formed over the bits of identity, length and
content that arrived (assumption 17). -/
def Obligations.FrameReceivedIsChecked : Prop :=
  (∀ (s : State) (f : RxFrame), s.loader.state ≠ .loading →
    let bits : List Bool := fieldBits f.kind ++ fieldBits f.sender ++ match f.length with
      | some n => fieldBits n ++ f.content.flatMap fieldBits ++ if f.content.length < n.toNat then f.rest else []
      | none => f.rest
    let formed := crcBits bits
    let good := ∃ n, f.length = some n ∧ n.toNat ≤ 60 ∧ f.content.length = n.toNat ∧
      f.check = some (crc16 (envelope f.kind f.sender n ++ f.content))
    let frame : Frame := ⟨f.kind, f.sender, f.content⟩
    (good → s.bus.rx.length < 8 →
      exec (.frameReceived f) s = .next { s with bus := { s.bus with rx := s.bus.rx ++ [frame] } }) ∧
    (good → 8 ≤ s.bus.rx.length →
      exec (.frameReceived f) s = .next (report
        { s with bus := { s.bus with overflow := min 65535 (s.bus.overflow + 1) } }
        ⟨.rxOverflow, f.sender.toNat, f.kind.toNat, ((min 65535 (s.bus.overflow + 1) : Nat) : Int), some frame⟩)) ∧
    (¬ good →
      exec (.frameReceived f) s = .next (report
        { s with bus := { s.bus with frameCheck := min 65535 (s.bus.frameCheck + 1) } }
        ⟨.frameCheck, f.sender.toNat, (((f.check.map BitVec.toNat).getD 0 : Nat) : Int), (formed.toNat : Int),
          some frame⟩))) ∧
  (∀ (kind : BitVec 4) (sender length : BitVec 6) (content : List Byte),
    crcBits (fieldBits kind ++ fieldBits sender ++ fieldBits length ++ content.flatMap fieldBits) =
      crc16 (envelope kind sender length ++ content)) ∧
  (∀ f : RxFrame, f.wellFormed = true →
    (f.length = none ∨ (∃ n, f.length = some n ∧ f.content.length < n.toNat) ∨ f.rest ≠ []) → f.check = none)

/-- The core of a STATION report reads back as it was written (section 13.2, R77, R90): for all values in their ranges,
with anything after the ten bytes. -/
def Obligations.CoreValuesReadBackAsWritten : Prop :=
  ∀ (c : CoreValues) (more : List Byte), c.r ≤ 20000 → c.b ≤ 60000 → c.g ≤ 60000 → c.m ≤ 60000 → c.calling ≤ 12 →
    c.outOfService ≤ 12 → (coreBytes c).length = 10 ∧ (readCore (coreBytes c ++ more)).bind coreOk = some c

/-- TRANSMIT_START, ARBITRATION_LOST, ARBITRATION_WON, FRAME_SENT and FRAME_BROKEN_OFF (R147, R148): the frame of the
lowest identity is offered, a lost frame stays in its slot, a won frame leaves it, and a broken-off frame returns to
its slot unless the slot has taken a newer one. -/
def Obligations.TransmitterFollowsTheLine : Prop :=
  ∀ s : State,
    (s.bus.tx = .waiting →
      (s.bus.report ≠ none → exec .transmitStart s = .next (setTx s (.arbitrating .report))) ∧
      (s.bus.report = none → s.bus.alert ≠ none → exec .transmitStart s = .next (setTx s (.arbitrating .alert))) ∧
      (s.bus.report = none → s.bus.alert = none → s.bus.reply ≠ none →
        exec .transmitStart s = .next (setTx s (.arbitrating .reply)))) ∧
    (∀ slot, s.bus.tx = .arbitrating slot → exec .arbitrationLost s = .next (setTx s .waiting)) ∧
    (∀ slot f, s.bus.tx = .arbitrating slot → txFrame s.bus slot = some f → ∃ t,
      exec .arbitrationWon s = .next t ∧ t.bus.tx = .sending slot f ∧ txFrame t.bus slot = none ∧
      (∀ other, other ≠ slot → txFrame t.bus other = txFrame s.bus other) ∧
      t = { s with bus := { s.bus with
        tx := t.bus.tx, report := t.bus.report, alert := t.bus.alert, reply := t.bus.reply } }) ∧
    (∀ slot f, s.bus.tx = .sending slot f → exec .frameSent s = .next (setTx s
      (if s.bus.report = none ∧ s.bus.alert = none ∧ s.bus.reply = none then .idle else .waiting))) ∧
    (∀ slot f, s.bus.tx = .sending slot f → ∃ t, exec .frameBrokenOff s = .next t ∧ t.bus.tx = .waiting ∧
      txFrame t.bus slot = some ((txFrame s.bus slot).getD f) ∧
      (∀ other, other ≠ slot → txFrame t.bus other = txFrame s.bus other) ∧
      t = { s with bus := { s.bus with
        tx := .waiting, report := t.bus.report, alert := t.bus.alert, reply := t.bus.reply } })

/-- REGULAR_REPORT and EXTRA_REPORT_DUE (R153, R155, section 13.2): a STATION report of the values of that moment replaces
what the report slot holds, its R and its moment are remembered, a due extra report is cleared and the rotation advances;
the regular report alone restarts the report timer, at 20 s. The content is the core, the LOOPS section of 20 bits for
each loop, the section the rotation names, and the end mark. -/
def Obligations.ReportsAreBuiltAndPlaced : Prop :=
  (∀ s : State,
    (∀ left, s.bus.reportTimer = some left → exec .regularReport s =
      let t := reported (elapse left s)
      .next { t with bus := { t.bus with reportTimer := some 20000 } }) ∧
    (∀ due, s.bus.extraDue = some due → exec .extraReportDue s = .next (reported (elapse (due - s.now) s)))) ∧
  (∀ s : State,
    let w := s.engine.result
    let core : CoreValues :=
      ⟨w.r, w.b, w.g, s.meter.flow, w.calling, w.outOfService, w.capable, w.duty, decide (s.loader.state = .fallback),
        s.engine.sourceSeen⟩
    let program (p : Prog) : List Byte :=
      let i := instanceOf s p
      [u8 (dryStateCode i.state * 16 + if (programDef s p).isSome then 1 else 0), u8 (i.step.getD 0), u8 i.hours,
        u8 (i.part.secs / 60)] ++ u16 (setWord i.members)
    ∃ loops status, reportContent s = coreBytes core ++ [1, 30] ++ loops ++
      (match s.bus.rotation with
        | .faults => [2, 3] ++ u16 status ++ [pointerByte s.recorder.pointer]
        | .dryout => [3, 12] ++ program .one ++ program .two
        | .trim => [4, 8] ++ u16 s.valves.trim ++ u16 s.valves.lastP ++ u32 s.meter.total) ++ [0] ∧
      (reportContent s).length = (match s.bus.rotation with
        | .faults => 48
        | .dryout => 57
        | .trim => 53) ∧
      loops.length = 30 ∧ status < 65536 ∧ (∀ k : Fin 16, status.testBit k.val = (s.recorder.kinds.get k).status) ∧
      ((∀ n, s.engine.demands.get n ≤ 1000) → ∀ n : Fin 12,
        loops.foldl (fun v b => v * 256 + b.toNat) 0 / 2 ^ (20 * (11 - n.val)) % 2 ^ 20 =
          if (s.loops.get n).isSome then s.engine.demands.get n * 1024 + positionShare (s.channels.get n) else 0)) ∧
  (∀ (members : List (Fin 12)) (n : Nat), (setWord members).testBit n = decide (∃ m ∈ members, m.val = n))

/-! ## Laws that every step keeps -/

/-- Every step keeps the law of the chains (R7). -/
def Obligations.EveryStepKeepsTheLawOfTheChains : Prop :=
  ∀ s t : State, ChainsLaw s → step s = .next t → ChainsLaw t

/-- Every step keeps the laws of the fault recorder (R160, R163). -/
def Obligations.EveryStepKeepsTheLawsOfTheRecorder : Prop :=
  ∀ s t : State, RecorderLaw s.recorder → step s = .next t → RecorderLaw t.recorder

/-- Every step keeps the law of the drive queue and the slots (R129, R133), and leaves no slot free while an entry waits that
may start (R134). -/
def Obligations.EveryStepKeepsTheLawOfTheDriveQueue : Prop :=
  (∀ s t : State, ArbiterLaw s.arbiter → step s = .next t → ArbiterLaw t.arbiter) ∧
  (∀ s t : State, GrantLaw s.arbiter → step s = .next t → GrantLaw t.arbiter)

/-- Every step keeps the law that binds the channels to the drive queue and the slots (Table 7.2, R113, R130 to R133):
a channel is QUEUED exactly while it has an entry, and drives, reverses, settles or calibrates exactly while it holds a
slot. -/
def Obligations.EveryStepBindsChannelsToQueueAndSlots : Prop :=
  ∀ s t : State, DriveLaw s → step s = .next t → DriveLaw t

/-- Every step keeps the ranges of the trim factor, the receive queue, the bus counters, the volume remainder and the
position counters (R99, R107, R110, R150). -/
def Obligations.EveryStepKeepsTheRanges : Prop :=
  ∀ s t : State, RangeLaw s → step s = .next t → RangeLaw t

/-- The laws hold after power-on reset. -/
def Obligations.TheLawsHoldAtReset : Prop :=
  ChainsLaw State.reset ∧ RecorderLaw State.reset.recorder ∧ ArbiterLaw State.reset.arbiter ∧
  GrantLaw State.reset.arbiter ∧ DriveLaw State.reset ∧ RangeLaw State.reset ∧ PassLaw State.reset
end

