-- ==== Sys2Proof/Laws/Tables.lean ====
section
/-! SUPPORT. Reading a table after each way of making one. -/

namespace Sys2Proof.Machine

@[simp] theorem Tab.get_set_self {n : Nat} {α : Type} (t : Tab n α) (i : Fin n) (x : α) : (t.set i x).get i = x := by
  simp [Tab.get, Tab.set]

theorem Tab.get_set_ne {n : Nat} {α : Type} (t : Tab n α) {i j : Fin n} (x : α) (h : i ≠ j) :
    (t.set i x).get j = t.get j := by
  have h' : i.val ≠ j.val := fun e => h (Fin.ext e)
  simp [Tab.get, Tab.set, List.getElem_set_ne h']

theorem Tab.get_set {n : Nat} {α : Type} (t : Tab n α) (i j : Fin n) (x : α) :
    (t.set i x).get j = if i = j then x else t.get j := by
  by_cases h : i = j
  · subst h; simp
  · rw [Tab.get_set_ne t x h, if_neg h]

@[simp] theorem Tab.get_fill {n : Nat} {α : Type} (x : α) (i : Fin n) : (Tab.fill n x).get i = x := by
  simp [Tab.get, Tab.fill]

@[simp] theorem Tab.get_map {n : Nat} {α β : Type} (f : α → β) (t : Tab n α) (i : Fin n) :
    (t.map f).get i = f (t.get i) := by
  simp [Tab.get, Tab.map]

@[simp] theorem Tab.get_tabulate {n : Nat} {α : Type} (f : Fin n → α) (i : Fin n) : (Tab.tabulate f).get i = f i := by
  simp [Tab.get, Tab.tabulate]

/-- Two tables with the same entries are the same table. -/
theorem Tab.ext_get {n : Nat} {α : Type} {t u : Tab n α} (h : ∀ i, t.get i = u.get i) : t = u := by
  obtain ⟨l, hl⟩ := t
  obtain ⟨m, hm⟩ := u
  have : l = m := by
    apply List.ext_getElem (by rw [hl, hm])
    intro i h1 h2
    exact h ⟨i, by omega⟩
  subst this
  rfl

end Sys2Proof.Machine
end

