-- ==== Sys2Proof/Laws/Elapse.lean ====
section
/-! SUPPORT. What the passing of time leaves as it was, and what it does to each timed item. -/

namespace Sys2Proof.Machine

open Sys2Proof

variable (s : State) (d : Nat)

@[simp] theorem elapse_loader : (elapse d s).loader = s.loader := by
  unfold elapse; repeat (first | rfl | split)

@[simp] theorem elapse_config : (elapse d s).config = s.config := by
  unfold elapse; repeat (first | rfl | split)

@[simp] theorem elapse_visiting : (elapse d s).visiting = s.visiting := by
  unfold elapse; repeat (first | rfl | split)

@[simp] theorem elapse_operation : (elapse d s).operation = s.operation := by
  unfold elapse; repeat (first | rfl | split)

@[simp] theorem elapse_valves : (elapse d s).valves = s.valves := by
  unfold elapse; repeat (first | rfl | split)

@[simp] theorem elapse_meter : (elapse d s).meter = s.meter := by
  unfold elapse; repeat (first | rfl | split)

@[simp] theorem elapse_phases : (elapse d s).phases = s.phases := by
  unfold elapse; repeat (first | rfl | split)

@[simp] theorem elapse_arbiter : (elapse d s).arbiter = s.arbiter := by
  unfold elapse; repeat (first | rfl | split)

@[simp] theorem elapse_recorder : (elapse d s).recorder = s.recorder := by
  unfold elapse; repeat (first | rfl | split)

@[simp] theorem elapse_draws : (elapse d s).draws = s.draws := by
  unfold elapse; repeat (first | rfl | split)

@[simp] theorem elapse_cuts : (elapse d s).cuts = s.cuts := by
  unfold elapse; repeat (first | rfl | split)

@[simp] theorem elapse_pending : (elapse d s).pending = s.pending := by
  unfold elapse; repeat (first | rfl | split)

@[simp] theorem elapse_scanner_probes : (elapse d s).scanner.probes = s.scanner.probes := by
  unfold elapse; repeat (first | rfl | split)

@[simp] theorem elapse_scanner_implausible : (elapse d s).scanner.implausible = s.scanner.implausible := by
  unfold elapse; repeat (first | rfl | split)

@[simp] theorem elapse_scanner_round : (elapse d s).scanner.round = s.scanner.round := by
  unfold elapse; repeat (first | rfl | split)

@[simp] theorem elapse_engine_loops : (elapse d s).engine.loops = s.engine.loops := by
  unfold elapse; repeat (first | rfl | split)

@[simp] theorem elapse_engine_buffer : (elapse d s).engine.buffer = s.engine.buffer := by
  unfold elapse; repeat (first | rfl | split)

@[simp] theorem elapse_engine_visit : (elapse d s).engine.visit = s.engine.visit := by
  unfold elapse; repeat (first | rfl | split)

@[simp] theorem elapse_engine_work : (elapse d s).engine.work = s.engine.work := by
  unfold elapse; repeat (first | rfl | split)

@[simp] theorem elapse_engine_result : (elapse d s).engine.result = s.engine.result := by
  unfold elapse; repeat (first | rfl | split)

@[simp] theorem elapse_engine_demands : (elapse d s).engine.demands = s.engine.demands := by
  unfold elapse; repeat (first | rfl | split)

@[simp] theorem elapse_engine_sourceSeen : (elapse d s).engine.sourceSeen = s.engine.sourceSeen := by
  unfold elapse; repeat (first | rfl | split)

@[simp] theorem elapse_rooms_ignored : (elapse d s).rooms.ignored = s.rooms.ignored := by
  unfold elapse; repeat (first | rfl | split)

@[simp] theorem elapse_rooms_refused : (elapse d s).rooms.refused = s.rooms.refused := by
  unfold elapse; repeat (first | rfl | split)

@[simp] theorem elapse_rooms_notices : (elapse d s).rooms.notices = s.rooms.notices := by
  unfold elapse; repeat (first | rfl | split)

@[simp] theorem elapse_peers_foreignReports : (elapse d s).peers.foreignReports = s.peers.foreignReports := by
  unfold elapse; repeat (first | rfl | split)

@[simp] theorem elapse_peers_refusedReports : (elapse d s).peers.refusedReports = s.peers.refusedReports := by
  unfold elapse; repeat (first | rfl | split)

@[simp] theorem elapse_peers_source_validity : (elapse d s).peers.source.validity = s.peers.source.validity := by
  unfold elapse; repeat (first | rfl | split)

@[simp] theorem elapse_peers_source_state : (elapse d s).peers.source.state = s.peers.source.state := by
  unfold elapse; repeat (first | rfl | split)

@[simp] theorem elapse_peers_source_fSrc : (elapse d s).peers.source.fSrc = s.peers.source.fSrc := by
  unfold elapse; repeat (first | rfl | split)

@[simp] theorem elapse_peers_source_fMin : (elapse d s).peers.source.fMin = s.peers.source.fMin := by
  unfold elapse; repeat (first | rfl | split)

@[simp] theorem elapse_peers_source_setpoint : (elapse d s).peers.source.setpoint = s.peers.source.setpoint := by
  unfold elapse; repeat (first | rfl | split)

@[simp] theorem elapse_bus_tx : (elapse d s).bus.tx = s.bus.tx := by
  unfold elapse; repeat (first | rfl | split)

@[simp] theorem elapse_bus_rx : (elapse d s).bus.rx = s.bus.rx := by
  unfold elapse; repeat (first | rfl | split)

@[simp] theorem elapse_bus_report : (elapse d s).bus.report = s.bus.report := by
  unfold elapse; repeat (first | rfl | split)

@[simp] theorem elapse_bus_alert : (elapse d s).bus.alert = s.bus.alert := by
  unfold elapse; repeat (first | rfl | split)

@[simp] theorem elapse_bus_placing : (elapse d s).bus.placing = s.bus.placing := by
  unfold elapse; repeat (first | rfl | split)

@[simp] theorem elapse_bus_reply : (elapse d s).bus.reply = s.bus.reply := by
  unfold elapse; repeat (first | rfl | split)

@[simp] theorem elapse_bus_frameCheck : (elapse d s).bus.frameCheck = s.bus.frameCheck := by
  unfold elapse; repeat (first | rfl | split)

@[simp] theorem elapse_bus_overflow : (elapse d s).bus.overflow = s.bus.overflow := by
  unfold elapse; repeat (first | rfl | split)

@[simp] theorem elapse_bus_unused : (elapse d s).bus.unused = s.bus.unused := by
  unfold elapse; repeat (first | rfl | split)

@[simp] theorem elapse_bus_dropped : (elapse d s).bus.dropped = s.bus.dropped := by
  unfold elapse; repeat (first | rfl | split)

@[simp] theorem elapse_bus_lastR : (elapse d s).bus.lastR = s.bus.lastR := by
  unfold elapse; repeat (first | rfl | split)

@[simp] theorem elapse_bus_lastReportAt : (elapse d s).bus.lastReportAt = s.bus.lastReportAt := by
  unfold elapse; repeat (first | rfl | split)

@[simp] theorem elapse_bus_extraDue : (elapse d s).bus.extraDue = s.bus.extraDue := by
  unfold elapse; repeat (first | rfl | split)

@[simp] theorem elapse_bus_rotation : (elapse d s).bus.rotation = s.bus.rotation := by
  unfold elapse; repeat (first | rfl | split)

/-- The clock. -/
@[simp] theorem elapse_now : (elapse d s).now = s.now + d := by
  unfold elapse; split
  · simp [*]
  · split <;> rfl

/-- What a loop keeps: everything but the time left of its boost timer, which stays running or stopped. -/
theorem elapse_loop (n : Fin 12) : ((elapse d s).loops.get n).map (fun l => (l.info, l.chain, l.stale, l.boost.isSome)) =
    (s.loops.get n).map (fun l => (l.info, l.chain, l.stale, l.boost.isSome)) := by
  unfold elapse; repeat (first | rfl | split)
  simp [loopAfter, Option.map_map, Function.comp_def]

/-- What a channel keeps: everything but its timers. -/
theorem elapse_channel (n : Fin 12) : ∃ move wait, (elapse d s).channels.get n =
    { s.channels.get n with move := move, wait := wait } ∧
    move.map (fun m => (m.kind, m.direction, m.against, m.illegal)) =
      (s.channels.get n).move.map (fun m => (m.kind, m.direction, m.against, m.illegal)) ∧
    wait.isSome = (s.channels.get n).wait.isSome := by
  unfold elapse; split
  · exact ⟨_, _, rfl, rfl, rfl⟩
  · split
    · exact ⟨_, _, rfl, rfl, rfl⟩
    · refine ⟨_, _, by simp only [Tab.get_map, channelAfter]; rfl, ?_, ?_⟩
      · cases (s.channels.get n).move <;> simp
      · cases (s.channels.get n).wait <;> simp

@[simp] theorem elapse_channel_state (n : Fin 12) : ((elapse d s).channels.get n).state = (s.channels.get n).state := by
  obtain ⟨_, _, h, -⟩ := elapse_channel s d n; rw [h]

@[simp] theorem elapse_channel_counter (n : Fin 12) :
    ((elapse d s).channels.get n).counter = (s.channels.get n).counter := by
  obtain ⟨_, _, h, -⟩ := elapse_channel s d n; rw [h]

@[simp] theorem elapse_channel_calibrated (n : Fin 12) :
    ((elapse d s).channels.get n).calibrated = (s.channels.get n).calibrated := by
  obtain ⟨_, _, h, -⟩ := elapse_channel s d n; rw [h]

@[simp] theorem elapse_channel_stroke (n : Fin 12) :
    ((elapse d s).channels.get n).stroke = (s.channels.get n).stroke := by
  obtain ⟨_, _, h, -⟩ := elapse_channel s d n; rw [h]

@[simp] theorem elapse_channel_live (n : Fin 12) : ((elapse d s).channels.get n).live = (s.channels.get n).live := by
  obtain ⟨_, _, h, -⟩ := elapse_channel s d n; rw [h]

/-- What a program instance keeps: everything but its part hour. -/
theorem elapse_instance (p : Prog) : ∃ part, instanceOf (elapse d s) p = { instanceOf s p with part := part } := by
  have key : ∀ i : DryInstance, ∃ part, instanceAfter d i = { i with part := part } := fun i => by
    unfold instanceAfter; split
    · exact ⟨_, rfl⟩
    · exact ⟨i.part, rfl⟩
  unfold elapse; split
  · exact ⟨_, rfl⟩
  · split
    · cases p <;> exact ⟨_, rfl⟩
    · cases p <;> exact key _

end Sys2Proof.Machine
end

