-- ==== Sys2Proof/Laws/State.lean ====
section
/-! SUPPORT. One lemma per field per update: what each named update of the state leaves, and what it sets. -/

namespace Sys2Proof.Machine

open Sys2Proof

variable (s : State)

@[simp] theorem setLoop_loader (n : Fin 12) (l : Loop) : (setLoop s n l).loader = s.loader := rfl
@[simp] theorem setLoop_config (n : Fin 12) (l : Loop) : (setLoop s n l).config = s.config := rfl
@[simp] theorem setLoop_visiting (n : Fin 12) (l : Loop) : (setLoop s n l).visiting = s.visiting := rfl
@[simp] theorem setLoop_rooms (n : Fin 12) (l : Loop) : (setLoop s n l).rooms = s.rooms := rfl
@[simp] theorem setLoop_scanner (n : Fin 12) (l : Loop) : (setLoop s n l).scanner = s.scanner := rfl
@[simp] theorem setLoop_engine (n : Fin 12) (l : Loop) : (setLoop s n l).engine = s.engine := rfl
@[simp] theorem setLoop_peers (n : Fin 12) (l : Loop) : (setLoop s n l).peers = s.peers := rfl
@[simp] theorem setLoop_valves (n : Fin 12) (l : Loop) : (setLoop s n l).valves = s.valves := rfl
@[simp] theorem setLoop_meter (n : Fin 12) (l : Loop) : (setLoop s n l).meter = s.meter := rfl
@[simp] theorem setLoop_channels (n : Fin 12) (l : Loop) : (setLoop s n l).channels = s.channels := rfl
@[simp] theorem setLoop_phases (n : Fin 12) (l : Loop) : (setLoop s n l).phases = s.phases := rfl
@[simp] theorem setLoop_arbiter (n : Fin 12) (l : Loop) : (setLoop s n l).arbiter = s.arbiter := rfl
@[simp] theorem setLoop_programOne (n : Fin 12) (l : Loop) : (setLoop s n l).programOne = s.programOne := rfl
@[simp] theorem setLoop_programTwo (n : Fin 12) (l : Loop) : (setLoop s n l).programTwo = s.programTwo := rfl
@[simp] theorem setLoop_operation (n : Fin 12) (l : Loop) : (setLoop s n l).operation = s.operation := rfl
@[simp] theorem setLoop_bus (n : Fin 12) (l : Loop) : (setLoop s n l).bus = s.bus := rfl
@[simp] theorem setLoop_recorder (n : Fin 12) (l : Loop) : (setLoop s n l).recorder = s.recorder := rfl
@[simp] theorem setLoop_now (n : Fin 12) (l : Loop) : (setLoop s n l).now = s.now := rfl
@[simp] theorem setLoop_draws (n : Fin 12) (l : Loop) : (setLoop s n l).draws = s.draws := rfl
@[simp] theorem setLoop_cuts (n : Fin 12) (l : Loop) : (setLoop s n l).cuts = s.cuts := rfl
@[simp] theorem setLoop_pending (n : Fin 12) (l : Loop) : (setLoop s n l).pending = s.pending := rfl

@[simp] theorem setChannel_loader (n : Fin 12) (c : Channel) : (setChannel s n c).loader = s.loader := rfl
@[simp] theorem setChannel_config (n : Fin 12) (c : Channel) : (setChannel s n c).config = s.config := rfl
@[simp] theorem setChannel_visiting (n : Fin 12) (c : Channel) : (setChannel s n c).visiting = s.visiting := rfl
@[simp] theorem setChannel_loops (n : Fin 12) (c : Channel) : (setChannel s n c).loops = s.loops := rfl
@[simp] theorem setChannel_rooms (n : Fin 12) (c : Channel) : (setChannel s n c).rooms = s.rooms := rfl
@[simp] theorem setChannel_scanner (n : Fin 12) (c : Channel) : (setChannel s n c).scanner = s.scanner := rfl
@[simp] theorem setChannel_engine (n : Fin 12) (c : Channel) : (setChannel s n c).engine = s.engine := rfl
@[simp] theorem setChannel_peers (n : Fin 12) (c : Channel) : (setChannel s n c).peers = s.peers := rfl
@[simp] theorem setChannel_valves (n : Fin 12) (c : Channel) : (setChannel s n c).valves = s.valves := rfl
@[simp] theorem setChannel_meter (n : Fin 12) (c : Channel) : (setChannel s n c).meter = s.meter := rfl
@[simp] theorem setChannel_phases (n : Fin 12) (c : Channel) : (setChannel s n c).phases = s.phases := rfl
@[simp] theorem setChannel_arbiter (n : Fin 12) (c : Channel) : (setChannel s n c).arbiter = s.arbiter := rfl
@[simp] theorem setChannel_programOne (n : Fin 12) (c : Channel) : (setChannel s n c).programOne = s.programOne := rfl
@[simp] theorem setChannel_programTwo (n : Fin 12) (c : Channel) : (setChannel s n c).programTwo = s.programTwo := rfl
@[simp] theorem setChannel_operation (n : Fin 12) (c : Channel) : (setChannel s n c).operation = s.operation := rfl
@[simp] theorem setChannel_bus (n : Fin 12) (c : Channel) : (setChannel s n c).bus = s.bus := rfl
@[simp] theorem setChannel_recorder (n : Fin 12) (c : Channel) : (setChannel s n c).recorder = s.recorder := rfl
@[simp] theorem setChannel_now (n : Fin 12) (c : Channel) : (setChannel s n c).now = s.now := rfl
@[simp] theorem setChannel_draws (n : Fin 12) (c : Channel) : (setChannel s n c).draws = s.draws := rfl
@[simp] theorem setChannel_cuts (n : Fin 12) (c : Channel) : (setChannel s n c).cuts = s.cuts := rfl
@[simp] theorem setChannel_pending (n : Fin 12) (c : Channel) : (setChannel s n c).pending = s.pending := rfl

@[simp] theorem setProbe_loader (n : Fin 14) (p : Probe) : (setProbe s n p).loader = s.loader := rfl
@[simp] theorem setProbe_config (n : Fin 14) (p : Probe) : (setProbe s n p).config = s.config := rfl
@[simp] theorem setProbe_visiting (n : Fin 14) (p : Probe) : (setProbe s n p).visiting = s.visiting := rfl
@[simp] theorem setProbe_loops (n : Fin 14) (p : Probe) : (setProbe s n p).loops = s.loops := rfl
@[simp] theorem setProbe_rooms (n : Fin 14) (p : Probe) : (setProbe s n p).rooms = s.rooms := rfl
@[simp] theorem setProbe_engine (n : Fin 14) (p : Probe) : (setProbe s n p).engine = s.engine := rfl
@[simp] theorem setProbe_peers (n : Fin 14) (p : Probe) : (setProbe s n p).peers = s.peers := rfl
@[simp] theorem setProbe_valves (n : Fin 14) (p : Probe) : (setProbe s n p).valves = s.valves := rfl
@[simp] theorem setProbe_meter (n : Fin 14) (p : Probe) : (setProbe s n p).meter = s.meter := rfl
@[simp] theorem setProbe_channels (n : Fin 14) (p : Probe) : (setProbe s n p).channels = s.channels := rfl
@[simp] theorem setProbe_phases (n : Fin 14) (p : Probe) : (setProbe s n p).phases = s.phases := rfl
@[simp] theorem setProbe_arbiter (n : Fin 14) (p : Probe) : (setProbe s n p).arbiter = s.arbiter := rfl
@[simp] theorem setProbe_programOne (n : Fin 14) (p : Probe) : (setProbe s n p).programOne = s.programOne := rfl
@[simp] theorem setProbe_programTwo (n : Fin 14) (p : Probe) : (setProbe s n p).programTwo = s.programTwo := rfl
@[simp] theorem setProbe_operation (n : Fin 14) (p : Probe) : (setProbe s n p).operation = s.operation := rfl
@[simp] theorem setProbe_bus (n : Fin 14) (p : Probe) : (setProbe s n p).bus = s.bus := rfl
@[simp] theorem setProbe_recorder (n : Fin 14) (p : Probe) : (setProbe s n p).recorder = s.recorder := rfl
@[simp] theorem setProbe_now (n : Fin 14) (p : Probe) : (setProbe s n p).now = s.now := rfl
@[simp] theorem setProbe_draws (n : Fin 14) (p : Probe) : (setProbe s n p).draws = s.draws := rfl
@[simp] theorem setProbe_cuts (n : Fin 14) (p : Probe) : (setProbe s n p).cuts = s.cuts := rfl
@[simp] theorem setProbe_pending (n : Fin 14) (p : Probe) : (setProbe s n p).pending = s.pending := rfl

@[simp] theorem drawn_loader : (drawn s).loader = s.loader := rfl
@[simp] theorem drawn_config : (drawn s).config = s.config := rfl
@[simp] theorem drawn_visiting : (drawn s).visiting = s.visiting := rfl
@[simp] theorem drawn_loops : (drawn s).loops = s.loops := rfl
@[simp] theorem drawn_rooms : (drawn s).rooms = s.rooms := rfl
@[simp] theorem drawn_scanner : (drawn s).scanner = s.scanner := rfl
@[simp] theorem drawn_engine : (drawn s).engine = s.engine := rfl
@[simp] theorem drawn_peers : (drawn s).peers = s.peers := rfl
@[simp] theorem drawn_valves : (drawn s).valves = s.valves := rfl
@[simp] theorem drawn_meter : (drawn s).meter = s.meter := rfl
@[simp] theorem drawn_channels : (drawn s).channels = s.channels := rfl
@[simp] theorem drawn_phases : (drawn s).phases = s.phases := rfl
@[simp] theorem drawn_arbiter : (drawn s).arbiter = s.arbiter := rfl
@[simp] theorem drawn_programOne : (drawn s).programOne = s.programOne := rfl
@[simp] theorem drawn_programTwo : (drawn s).programTwo = s.programTwo := rfl
@[simp] theorem drawn_operation : (drawn s).operation = s.operation := rfl
@[simp] theorem drawn_bus : (drawn s).bus = s.bus := rfl
@[simp] theorem drawn_recorder : (drawn s).recorder = s.recorder := rfl
@[simp] theorem drawn_now : (drawn s).now = s.now := rfl
@[simp] theorem drawn_pending : (drawn s).pending = s.pending := rfl

@[simp] theorem placeFrame_loader (slot : TxSlot) (f : Frame) : (placeFrame s slot f).loader = s.loader := rfl
@[simp] theorem placeFrame_config (slot : TxSlot) (f : Frame) : (placeFrame s slot f).config = s.config := rfl
@[simp] theorem placeFrame_visiting (slot : TxSlot) (f : Frame) : (placeFrame s slot f).visiting = s.visiting := rfl
@[simp] theorem placeFrame_loops (slot : TxSlot) (f : Frame) : (placeFrame s slot f).loops = s.loops := rfl
@[simp] theorem placeFrame_rooms (slot : TxSlot) (f : Frame) : (placeFrame s slot f).rooms = s.rooms := rfl
@[simp] theorem placeFrame_scanner (slot : TxSlot) (f : Frame) : (placeFrame s slot f).scanner = s.scanner := rfl
@[simp] theorem placeFrame_engine (slot : TxSlot) (f : Frame) : (placeFrame s slot f).engine = s.engine := rfl
@[simp] theorem placeFrame_peers (slot : TxSlot) (f : Frame) : (placeFrame s slot f).peers = s.peers := rfl
@[simp] theorem placeFrame_valves (slot : TxSlot) (f : Frame) : (placeFrame s slot f).valves = s.valves := rfl
@[simp] theorem placeFrame_meter (slot : TxSlot) (f : Frame) : (placeFrame s slot f).meter = s.meter := rfl
@[simp] theorem placeFrame_channels (slot : TxSlot) (f : Frame) : (placeFrame s slot f).channels = s.channels := rfl
@[simp] theorem placeFrame_phases (slot : TxSlot) (f : Frame) : (placeFrame s slot f).phases = s.phases := rfl
@[simp] theorem placeFrame_arbiter (slot : TxSlot) (f : Frame) : (placeFrame s slot f).arbiter = s.arbiter := rfl
@[simp] theorem placeFrame_programOne (slot : TxSlot) (f : Frame) : (placeFrame s slot f).programOne = s.programOne := rfl
@[simp] theorem placeFrame_programTwo (slot : TxSlot) (f : Frame) : (placeFrame s slot f).programTwo = s.programTwo := rfl
@[simp] theorem placeFrame_operation (slot : TxSlot) (f : Frame) : (placeFrame s slot f).operation = s.operation := rfl
@[simp] theorem placeFrame_recorder (slot : TxSlot) (f : Frame) : (placeFrame s slot f).recorder = s.recorder := rfl
@[simp] theorem placeFrame_now (slot : TxSlot) (f : Frame) : (placeFrame s slot f).now = s.now := rfl
@[simp] theorem placeFrame_draws (slot : TxSlot) (f : Frame) : (placeFrame s slot f).draws = s.draws := rfl
@[simp] theorem placeFrame_cuts (slot : TxSlot) (f : Frame) : (placeFrame s slot f).cuts = s.cuts := rfl
@[simp] theorem placeFrame_pending (slot : TxSlot) (f : Frame) : (placeFrame s slot f).pending = s.pending := rfl

@[simp] theorem putRoom_loader (r : Room) : (putRoom s r).loader = s.loader := rfl
@[simp] theorem putRoom_config (r : Room) : (putRoom s r).config = s.config := rfl
@[simp] theorem putRoom_visiting (r : Room) : (putRoom s r).visiting = s.visiting := rfl
@[simp] theorem putRoom_loops (r : Room) : (putRoom s r).loops = s.loops := rfl
@[simp] theorem putRoom_scanner (r : Room) : (putRoom s r).scanner = s.scanner := rfl
@[simp] theorem putRoom_engine (r : Room) : (putRoom s r).engine = s.engine := rfl
@[simp] theorem putRoom_peers (r : Room) : (putRoom s r).peers = s.peers := rfl
@[simp] theorem putRoom_valves (r : Room) : (putRoom s r).valves = s.valves := rfl
@[simp] theorem putRoom_meter (r : Room) : (putRoom s r).meter = s.meter := rfl
@[simp] theorem putRoom_channels (r : Room) : (putRoom s r).channels = s.channels := rfl
@[simp] theorem putRoom_phases (r : Room) : (putRoom s r).phases = s.phases := rfl
@[simp] theorem putRoom_arbiter (r : Room) : (putRoom s r).arbiter = s.arbiter := rfl
@[simp] theorem putRoom_programOne (r : Room) : (putRoom s r).programOne = s.programOne := rfl
@[simp] theorem putRoom_programTwo (r : Room) : (putRoom s r).programTwo = s.programTwo := rfl
@[simp] theorem putRoom_operation (r : Room) : (putRoom s r).operation = s.operation := rfl
@[simp] theorem putRoom_bus (r : Room) : (putRoom s r).bus = s.bus := rfl
@[simp] theorem putRoom_recorder (r : Room) : (putRoom s r).recorder = s.recorder := rfl
@[simp] theorem putRoom_now (r : Room) : (putRoom s r).now = s.now := rfl
@[simp] theorem putRoom_draws (r : Room) : (putRoom s r).draws = s.draws := rfl
@[simp] theorem putRoom_cuts (r : Room) : (putRoom s r).cuts = s.cuts := rfl
@[simp] theorem putRoom_pending (r : Room) : (putRoom s r).pending = s.pending := rfl

@[simp] theorem setPeers_loader (l : List Peer) : (setPeers s l).loader = s.loader := rfl
@[simp] theorem setPeers_config (l : List Peer) : (setPeers s l).config = s.config := rfl
@[simp] theorem setPeers_visiting (l : List Peer) : (setPeers s l).visiting = s.visiting := rfl
@[simp] theorem setPeers_loops (l : List Peer) : (setPeers s l).loops = s.loops := rfl
@[simp] theorem setPeers_rooms (l : List Peer) : (setPeers s l).rooms = s.rooms := rfl
@[simp] theorem setPeers_scanner (l : List Peer) : (setPeers s l).scanner = s.scanner := rfl
@[simp] theorem setPeers_engine (l : List Peer) : (setPeers s l).engine = s.engine := rfl
@[simp] theorem setPeers_valves (l : List Peer) : (setPeers s l).valves = s.valves := rfl
@[simp] theorem setPeers_meter (l : List Peer) : (setPeers s l).meter = s.meter := rfl
@[simp] theorem setPeers_channels (l : List Peer) : (setPeers s l).channels = s.channels := rfl
@[simp] theorem setPeers_phases (l : List Peer) : (setPeers s l).phases = s.phases := rfl
@[simp] theorem setPeers_arbiter (l : List Peer) : (setPeers s l).arbiter = s.arbiter := rfl
@[simp] theorem setPeers_programOne (l : List Peer) : (setPeers s l).programOne = s.programOne := rfl
@[simp] theorem setPeers_programTwo (l : List Peer) : (setPeers s l).programTwo = s.programTwo := rfl
@[simp] theorem setPeers_operation (l : List Peer) : (setPeers s l).operation = s.operation := rfl
@[simp] theorem setPeers_bus (l : List Peer) : (setPeers s l).bus = s.bus := rfl
@[simp] theorem setPeers_recorder (l : List Peer) : (setPeers s l).recorder = s.recorder := rfl
@[simp] theorem setPeers_now (l : List Peer) : (setPeers s l).now = s.now := rfl
@[simp] theorem setPeers_draws (l : List Peer) : (setPeers s l).draws = s.draws := rfl
@[simp] theorem setPeers_cuts (l : List Peer) : (setPeers s l).cuts = s.cuts := rfl
@[simp] theorem setPeers_pending (l : List Peer) : (setPeers s l).pending = s.pending := rfl

@[simp] theorem emptyBuffer_loader : (emptyBuffer s).loader = s.loader := rfl
@[simp] theorem emptyBuffer_config : (emptyBuffer s).config = s.config := rfl
@[simp] theorem emptyBuffer_visiting : (emptyBuffer s).visiting = s.visiting := rfl
@[simp] theorem emptyBuffer_loops : (emptyBuffer s).loops = s.loops := rfl
@[simp] theorem emptyBuffer_rooms : (emptyBuffer s).rooms = s.rooms := rfl
@[simp] theorem emptyBuffer_scanner : (emptyBuffer s).scanner = s.scanner := rfl
@[simp] theorem emptyBuffer_peers : (emptyBuffer s).peers = s.peers := rfl
@[simp] theorem emptyBuffer_valves : (emptyBuffer s).valves = s.valves := rfl
@[simp] theorem emptyBuffer_meter : (emptyBuffer s).meter = s.meter := rfl
@[simp] theorem emptyBuffer_channels : (emptyBuffer s).channels = s.channels := rfl
@[simp] theorem emptyBuffer_phases : (emptyBuffer s).phases = s.phases := rfl
@[simp] theorem emptyBuffer_arbiter : (emptyBuffer s).arbiter = s.arbiter := rfl
@[simp] theorem emptyBuffer_programOne : (emptyBuffer s).programOne = s.programOne := rfl
@[simp] theorem emptyBuffer_programTwo : (emptyBuffer s).programTwo = s.programTwo := rfl
@[simp] theorem emptyBuffer_operation : (emptyBuffer s).operation = s.operation := rfl
@[simp] theorem emptyBuffer_bus : (emptyBuffer s).bus = s.bus := rfl
@[simp] theorem emptyBuffer_recorder : (emptyBuffer s).recorder = s.recorder := rfl
@[simp] theorem emptyBuffer_now : (emptyBuffer s).now = s.now := rfl
@[simp] theorem emptyBuffer_draws : (emptyBuffer s).draws = s.draws := rfl
@[simp] theorem emptyBuffer_cuts : (emptyBuffer s).cuts = s.cuts := rfl
@[simp] theorem emptyBuffer_pending : (emptyBuffer s).pending = s.pending := rfl

@[simp] theorem countUnused_loader : (countUnused s).loader = s.loader := rfl
@[simp] theorem countUnused_config : (countUnused s).config = s.config := rfl
@[simp] theorem countUnused_visiting : (countUnused s).visiting = s.visiting := rfl
@[simp] theorem countUnused_loops : (countUnused s).loops = s.loops := rfl
@[simp] theorem countUnused_rooms : (countUnused s).rooms = s.rooms := rfl
@[simp] theorem countUnused_scanner : (countUnused s).scanner = s.scanner := rfl
@[simp] theorem countUnused_engine : (countUnused s).engine = s.engine := rfl
@[simp] theorem countUnused_peers : (countUnused s).peers = s.peers := rfl
@[simp] theorem countUnused_valves : (countUnused s).valves = s.valves := rfl
@[simp] theorem countUnused_meter : (countUnused s).meter = s.meter := rfl
@[simp] theorem countUnused_channels : (countUnused s).channels = s.channels := rfl
@[simp] theorem countUnused_phases : (countUnused s).phases = s.phases := rfl
@[simp] theorem countUnused_arbiter : (countUnused s).arbiter = s.arbiter := rfl
@[simp] theorem countUnused_programOne : (countUnused s).programOne = s.programOne := rfl
@[simp] theorem countUnused_programTwo : (countUnused s).programTwo = s.programTwo := rfl
@[simp] theorem countUnused_operation : (countUnused s).operation = s.operation := rfl
@[simp] theorem countUnused_recorder : (countUnused s).recorder = s.recorder := rfl
@[simp] theorem countUnused_now : (countUnused s).now = s.now := rfl
@[simp] theorem countUnused_draws : (countUnused s).draws = s.draws := rfl
@[simp] theorem countUnused_cuts : (countUnused s).cuts = s.cuts := rfl
@[simp] theorem countUnused_pending : (countUnused s).pending = s.pending := rfl

@[simp] theorem countDropped_loader : (countDropped s).loader = s.loader := rfl
@[simp] theorem countDropped_config : (countDropped s).config = s.config := rfl
@[simp] theorem countDropped_visiting : (countDropped s).visiting = s.visiting := rfl
@[simp] theorem countDropped_loops : (countDropped s).loops = s.loops := rfl
@[simp] theorem countDropped_rooms : (countDropped s).rooms = s.rooms := rfl
@[simp] theorem countDropped_scanner : (countDropped s).scanner = s.scanner := rfl
@[simp] theorem countDropped_engine : (countDropped s).engine = s.engine := rfl
@[simp] theorem countDropped_peers : (countDropped s).peers = s.peers := rfl
@[simp] theorem countDropped_valves : (countDropped s).valves = s.valves := rfl
@[simp] theorem countDropped_meter : (countDropped s).meter = s.meter := rfl
@[simp] theorem countDropped_channels : (countDropped s).channels = s.channels := rfl
@[simp] theorem countDropped_phases : (countDropped s).phases = s.phases := rfl
@[simp] theorem countDropped_arbiter : (countDropped s).arbiter = s.arbiter := rfl
@[simp] theorem countDropped_programOne : (countDropped s).programOne = s.programOne := rfl
@[simp] theorem countDropped_programTwo : (countDropped s).programTwo = s.programTwo := rfl
@[simp] theorem countDropped_operation : (countDropped s).operation = s.operation := rfl
@[simp] theorem countDropped_recorder : (countDropped s).recorder = s.recorder := rfl
@[simp] theorem countDropped_now : (countDropped s).now = s.now := rfl
@[simp] theorem countDropped_draws : (countDropped s).draws = s.draws := rfl
@[simp] theorem countDropped_cuts : (countDropped s).cuts = s.cuts := rfl
@[simp] theorem countDropped_pending : (countDropped s).pending = s.pending := rfl

@[simp] theorem setTx_loader (t : TxState) : (setTx s t).loader = s.loader := rfl
@[simp] theorem setTx_config (t : TxState) : (setTx s t).config = s.config := rfl
@[simp] theorem setTx_visiting (t : TxState) : (setTx s t).visiting = s.visiting := rfl
@[simp] theorem setTx_loops (t : TxState) : (setTx s t).loops = s.loops := rfl
@[simp] theorem setTx_rooms (t : TxState) : (setTx s t).rooms = s.rooms := rfl
@[simp] theorem setTx_scanner (t : TxState) : (setTx s t).scanner = s.scanner := rfl
@[simp] theorem setTx_engine (t : TxState) : (setTx s t).engine = s.engine := rfl
@[simp] theorem setTx_peers (t : TxState) : (setTx s t).peers = s.peers := rfl
@[simp] theorem setTx_valves (t : TxState) : (setTx s t).valves = s.valves := rfl
@[simp] theorem setTx_meter (t : TxState) : (setTx s t).meter = s.meter := rfl
@[simp] theorem setTx_channels (t : TxState) : (setTx s t).channels = s.channels := rfl
@[simp] theorem setTx_phases (t : TxState) : (setTx s t).phases = s.phases := rfl
@[simp] theorem setTx_arbiter (t : TxState) : (setTx s t).arbiter = s.arbiter := rfl
@[simp] theorem setTx_programOne (t : TxState) : (setTx s t).programOne = s.programOne := rfl
@[simp] theorem setTx_programTwo (t : TxState) : (setTx s t).programTwo = s.programTwo := rfl
@[simp] theorem setTx_operation (t : TxState) : (setTx s t).operation = s.operation := rfl
@[simp] theorem setTx_recorder (t : TxState) : (setTx s t).recorder = s.recorder := rfl
@[simp] theorem setTx_now (t : TxState) : (setTx s t).now = s.now := rfl
@[simp] theorem setTx_draws (t : TxState) : (setTx s t).draws = s.draws := rfl
@[simp] theorem setTx_cuts (t : TxState) : (setTx s t).cuts = s.cuts := rfl
@[simp] theorem setTx_pending (t : TxState) : (setTx s t).pending = s.pending := rfl

@[simp] theorem putSlot_loader (slot : Fin 4) (a : AlertSlot) : (putSlot s slot a).loader = s.loader := rfl
@[simp] theorem putSlot_config (slot : Fin 4) (a : AlertSlot) : (putSlot s slot a).config = s.config := rfl
@[simp] theorem putSlot_visiting (slot : Fin 4) (a : AlertSlot) : (putSlot s slot a).visiting = s.visiting := rfl
@[simp] theorem putSlot_loops (slot : Fin 4) (a : AlertSlot) : (putSlot s slot a).loops = s.loops := rfl
@[simp] theorem putSlot_rooms (slot : Fin 4) (a : AlertSlot) : (putSlot s slot a).rooms = s.rooms := rfl
@[simp] theorem putSlot_scanner (slot : Fin 4) (a : AlertSlot) : (putSlot s slot a).scanner = s.scanner := rfl
@[simp] theorem putSlot_engine (slot : Fin 4) (a : AlertSlot) : (putSlot s slot a).engine = s.engine := rfl
@[simp] theorem putSlot_peers (slot : Fin 4) (a : AlertSlot) : (putSlot s slot a).peers = s.peers := rfl
@[simp] theorem putSlot_valves (slot : Fin 4) (a : AlertSlot) : (putSlot s slot a).valves = s.valves := rfl
@[simp] theorem putSlot_meter (slot : Fin 4) (a : AlertSlot) : (putSlot s slot a).meter = s.meter := rfl
@[simp] theorem putSlot_channels (slot : Fin 4) (a : AlertSlot) : (putSlot s slot a).channels = s.channels := rfl
@[simp] theorem putSlot_phases (slot : Fin 4) (a : AlertSlot) : (putSlot s slot a).phases = s.phases := rfl
@[simp] theorem putSlot_arbiter (slot : Fin 4) (a : AlertSlot) : (putSlot s slot a).arbiter = s.arbiter := rfl
@[simp] theorem putSlot_programOne (slot : Fin 4) (a : AlertSlot) : (putSlot s slot a).programOne = s.programOne := rfl
@[simp] theorem putSlot_programTwo (slot : Fin 4) (a : AlertSlot) : (putSlot s slot a).programTwo = s.programTwo := rfl
@[simp] theorem putSlot_operation (slot : Fin 4) (a : AlertSlot) : (putSlot s slot a).operation = s.operation := rfl
@[simp] theorem putSlot_bus (slot : Fin 4) (a : AlertSlot) : (putSlot s slot a).bus = s.bus := rfl
@[simp] theorem putSlot_now (slot : Fin 4) (a : AlertSlot) : (putSlot s slot a).now = s.now := rfl
@[simp] theorem putSlot_draws (slot : Fin 4) (a : AlertSlot) : (putSlot s slot a).draws = s.draws := rfl
@[simp] theorem putSlot_cuts (slot : Fin 4) (a : AlertSlot) : (putSlot s slot a).cuts = s.cuts := rfl
@[simp] theorem putSlot_pending (slot : Fin 4) (a : AlertSlot) : (putSlot s slot a).pending = s.pending := rfl

@[simp] theorem handResults_loader (w : PassResult) (src : SourceState) : (handResults s w src).loader = s.loader := rfl
@[simp] theorem handResults_config (w : PassResult) (src : SourceState) : (handResults s w src).config = s.config := rfl
@[simp] theorem handResults_visiting (w : PassResult) (src : SourceState) : (handResults s w src).visiting = s.visiting := rfl
@[simp] theorem handResults_loops (w : PassResult) (src : SourceState) : (handResults s w src).loops = s.loops := rfl
@[simp] theorem handResults_rooms (w : PassResult) (src : SourceState) : (handResults s w src).rooms = s.rooms := rfl
@[simp] theorem handResults_scanner (w : PassResult) (src : SourceState) : (handResults s w src).scanner = s.scanner := rfl
@[simp] theorem handResults_peers (w : PassResult) (src : SourceState) : (handResults s w src).peers = s.peers := rfl
@[simp] theorem handResults_valves (w : PassResult) (src : SourceState) : (handResults s w src).valves = s.valves := rfl
@[simp] theorem handResults_meter (w : PassResult) (src : SourceState) : (handResults s w src).meter = s.meter := rfl
@[simp] theorem handResults_channels (w : PassResult) (src : SourceState) : (handResults s w src).channels = s.channels := rfl
@[simp] theorem handResults_phases (w : PassResult) (src : SourceState) : (handResults s w src).phases = s.phases := rfl
@[simp] theorem handResults_arbiter (w : PassResult) (src : SourceState) : (handResults s w src).arbiter = s.arbiter := rfl
@[simp] theorem handResults_programOne (w : PassResult) (src : SourceState) : (handResults s w src).programOne = s.programOne := rfl
@[simp] theorem handResults_programTwo (w : PassResult) (src : SourceState) : (handResults s w src).programTwo = s.programTwo := rfl
@[simp] theorem handResults_operation (w : PassResult) (src : SourceState) : (handResults s w src).operation = s.operation := rfl
@[simp] theorem handResults_bus (w : PassResult) (src : SourceState) : (handResults s w src).bus = s.bus := rfl
@[simp] theorem handResults_recorder (w : PassResult) (src : SourceState) : (handResults s w src).recorder = s.recorder := rfl
@[simp] theorem handResults_now (w : PassResult) (src : SourceState) : (handResults s w src).now = s.now := rfl
@[simp] theorem handResults_draws (w : PassResult) (src : SourceState) : (handResults s w src).draws = s.draws := rfl
@[simp] theorem handResults_cuts (w : PassResult) (src : SourceState) : (handResults s w src).cuts = s.cuts := rfl
@[simp] theorem handResults_pending (w : PassResult) (src : SourceState) : (handResults s w src).pending = s.pending := rfl

@[simp] theorem piece_loader (step : State → State) (k : Nat) : (piece step k s).loader = (times step k s).loader := rfl
@[simp] theorem piece_config (step : State → State) (k : Nat) : (piece step k s).config = (times step k s).config := rfl
@[simp] theorem piece_loops (step : State → State) (k : Nat) : (piece step k s).loops = (times step k s).loops := rfl
@[simp] theorem piece_visiting (step : State → State) (k : Nat) : (piece step k s).visiting = (times step k s).visiting := rfl
@[simp] theorem piece_rooms (step : State → State) (k : Nat) : (piece step k s).rooms = (times step k s).rooms := rfl
@[simp] theorem piece_scanner (step : State → State) (k : Nat) : (piece step k s).scanner = (times step k s).scanner := rfl
@[simp] theorem piece_engine (step : State → State) (k : Nat) : (piece step k s).engine = (times step k s).engine := rfl
@[simp] theorem piece_peers (step : State → State) (k : Nat) : (piece step k s).peers = (times step k s).peers := rfl
@[simp] theorem piece_valves (step : State → State) (k : Nat) : (piece step k s).valves = (times step k s).valves := rfl
@[simp] theorem piece_meter (step : State → State) (k : Nat) : (piece step k s).meter = (times step k s).meter := rfl
@[simp] theorem piece_channels (step : State → State) (k : Nat) : (piece step k s).channels = (times step k s).channels := rfl
@[simp] theorem piece_phases (step : State → State) (k : Nat) : (piece step k s).phases = (times step k s).phases := rfl
@[simp] theorem piece_arbiter (step : State → State) (k : Nat) : (piece step k s).arbiter = (times step k s).arbiter := rfl
@[simp] theorem piece_programOne (step : State → State) (k : Nat) : (piece step k s).programOne = (times step k s).programOne := rfl
@[simp] theorem piece_programTwo (step : State → State) (k : Nat) : (piece step k s).programTwo = (times step k s).programTwo := rfl
@[simp] theorem piece_operation (step : State → State) (k : Nat) : (piece step k s).operation = (times step k s).operation := rfl
@[simp] theorem piece_bus (step : State → State) (k : Nat) : (piece step k s).bus = (times step k s).bus := rfl
@[simp] theorem piece_recorder (step : State → State) (k : Nat) : (piece step k s).recorder = (times step k s).recorder := rfl
@[simp] theorem piece_now (step : State → State) (k : Nat) : (piece step k s).now = (times step k s).now := rfl
@[simp] theorem piece_draws (step : State → State) (k : Nat) : (piece step k s).draws = (times step k s).draws := rfl
@[simp] theorem piece_pending (step : State → State) (k : Nat) : (piece step k s).pending = (times step k s).pending := rfl
@[simp] theorem piece_cuts (step : State → State) (k : Nat) : (piece step k s).cuts = s.cuts + 1 := rfl

@[simp] theorem setStage_loader (o : Opening) (stage : PassStage) : (setStage s o stage).loader = s.loader := rfl
@[simp] theorem setStage_config (o : Opening) (stage : PassStage) : (setStage s o stage).config = s.config := rfl
@[simp] theorem setStage_visiting (o : Opening) (stage : PassStage) : (setStage s o stage).visiting = s.visiting := rfl
@[simp] theorem setStage_loops (o : Opening) (stage : PassStage) : (setStage s o stage).loops = s.loops := rfl
@[simp] theorem setStage_rooms (o : Opening) (stage : PassStage) : (setStage s o stage).rooms = s.rooms := rfl
@[simp] theorem setStage_scanner (o : Opening) (stage : PassStage) : (setStage s o stage).scanner = s.scanner := rfl
@[simp] theorem setStage_peers (o : Opening) (stage : PassStage) : (setStage s o stage).peers = s.peers := rfl
@[simp] theorem setStage_valves (o : Opening) (stage : PassStage) : (setStage s o stage).valves = s.valves := rfl
@[simp] theorem setStage_meter (o : Opening) (stage : PassStage) : (setStage s o stage).meter = s.meter := rfl
@[simp] theorem setStage_channels (o : Opening) (stage : PassStage) : (setStage s o stage).channels = s.channels := rfl
@[simp] theorem setStage_phases (o : Opening) (stage : PassStage) : (setStage s o stage).phases = s.phases := rfl
@[simp] theorem setStage_arbiter (o : Opening) (stage : PassStage) : (setStage s o stage).arbiter = s.arbiter := rfl
@[simp] theorem setStage_programOne (o : Opening) (stage : PassStage) : (setStage s o stage).programOne = s.programOne := rfl
@[simp] theorem setStage_programTwo (o : Opening) (stage : PassStage) : (setStage s o stage).programTwo = s.programTwo := rfl
@[simp] theorem setStage_operation (o : Opening) (stage : PassStage) : (setStage s o stage).operation = s.operation := rfl
@[simp] theorem setStage_bus (o : Opening) (stage : PassStage) : (setStage s o stage).bus = s.bus := rfl
@[simp] theorem setStage_recorder (o : Opening) (stage : PassStage) : (setStage s o stage).recorder = s.recorder := rfl
@[simp] theorem setStage_now (o : Opening) (stage : PassStage) : (setStage s o stage).now = s.now := rfl
@[simp] theorem setStage_draws (o : Opening) (stage : PassStage) : (setStage s o stage).draws = s.draws := rfl
@[simp] theorem setStage_cuts (o : Opening) (stage : PassStage) : (setStage s o stage).cuts = s.cuts := rfl
@[simp] theorem setStage_pending (o : Opening) (stage : PassStage) : (setStage s o stage).pending = s.pending := rfl
@[simp] theorem setStage_engine (o : Opening) (stage : PassStage) :
    (setStage s o stage).engine = { s.engine with visit := some ⟨o, stage⟩ } := rfl

@[simp] theorem allocateLoop_loader (g : PassGrant) (r : LoopReading) : (allocateLoop g s r).loader = s.loader := rfl
@[simp] theorem allocateLoop_config (g : PassGrant) (r : LoopReading) : (allocateLoop g s r).config = s.config := rfl
@[simp] theorem allocateLoop_visiting (g : PassGrant) (r : LoopReading) : (allocateLoop g s r).visiting = s.visiting := rfl
@[simp] theorem allocateLoop_loops (g : PassGrant) (r : LoopReading) : (allocateLoop g s r).loops = s.loops := rfl
@[simp] theorem allocateLoop_rooms (g : PassGrant) (r : LoopReading) : (allocateLoop g s r).rooms = s.rooms := rfl
@[simp] theorem allocateLoop_scanner (g : PassGrant) (r : LoopReading) : (allocateLoop g s r).scanner = s.scanner := rfl
@[simp] theorem allocateLoop_peers (g : PassGrant) (r : LoopReading) : (allocateLoop g s r).peers = s.peers := rfl
@[simp] theorem allocateLoop_valves (g : PassGrant) (r : LoopReading) : (allocateLoop g s r).valves = s.valves := rfl
@[simp] theorem allocateLoop_meter (g : PassGrant) (r : LoopReading) : (allocateLoop g s r).meter = s.meter := rfl
@[simp] theorem allocateLoop_channels (g : PassGrant) (r : LoopReading) : (allocateLoop g s r).channels = s.channels := rfl
@[simp] theorem allocateLoop_phases (g : PassGrant) (r : LoopReading) : (allocateLoop g s r).phases = s.phases := rfl
@[simp] theorem allocateLoop_arbiter (g : PassGrant) (r : LoopReading) : (allocateLoop g s r).arbiter = s.arbiter := rfl
@[simp] theorem allocateLoop_programOne (g : PassGrant) (r : LoopReading) : (allocateLoop g s r).programOne = s.programOne := rfl
@[simp] theorem allocateLoop_programTwo (g : PassGrant) (r : LoopReading) : (allocateLoop g s r).programTwo = s.programTwo := rfl
@[simp] theorem allocateLoop_operation (g : PassGrant) (r : LoopReading) : (allocateLoop g s r).operation = s.operation := rfl
@[simp] theorem allocateLoop_bus (g : PassGrant) (r : LoopReading) : (allocateLoop g s r).bus = s.bus := rfl
@[simp] theorem allocateLoop_recorder (g : PassGrant) (r : LoopReading) : (allocateLoop g s r).recorder = s.recorder := rfl
@[simp] theorem allocateLoop_now (g : PassGrant) (r : LoopReading) : (allocateLoop g s r).now = s.now := rfl
@[simp] theorem allocateLoop_draws (g : PassGrant) (r : LoopReading) : (allocateLoop g s r).draws = s.draws := rfl
@[simp] theorem allocateLoop_cuts (g : PassGrant) (r : LoopReading) : (allocateLoop g s r).cuts = s.cuts := rfl
@[simp] theorem allocateLoop_pending (g : PassGrant) (r : LoopReading) : (allocateLoop g s r).pending = s.pending := rfl

@[simp] theorem beginTrim_loader : (beginTrim s).loader = s.loader := rfl
@[simp] theorem beginTrim_config : (beginTrim s).config = s.config := rfl
@[simp] theorem beginTrim_visiting : (beginTrim s).visiting = s.visiting := rfl
@[simp] theorem beginTrim_loops : (beginTrim s).loops = s.loops := rfl
@[simp] theorem beginTrim_rooms : (beginTrim s).rooms = s.rooms := rfl
@[simp] theorem beginTrim_scanner : (beginTrim s).scanner = s.scanner := rfl
@[simp] theorem beginTrim_engine : (beginTrim s).engine = s.engine := rfl
@[simp] theorem beginTrim_peers : (beginTrim s).peers = s.peers := rfl
@[simp] theorem beginTrim_meter : (beginTrim s).meter = s.meter := rfl
@[simp] theorem beginTrim_channels : (beginTrim s).channels = s.channels := rfl
@[simp] theorem beginTrim_phases : (beginTrim s).phases = s.phases := rfl
@[simp] theorem beginTrim_arbiter : (beginTrim s).arbiter = s.arbiter := rfl
@[simp] theorem beginTrim_programOne : (beginTrim s).programOne = s.programOne := rfl
@[simp] theorem beginTrim_programTwo : (beginTrim s).programTwo = s.programTwo := rfl
@[simp] theorem beginTrim_operation : (beginTrim s).operation = s.operation := rfl
@[simp] theorem beginTrim_bus : (beginTrim s).bus = s.bus := rfl
@[simp] theorem beginTrim_recorder : (beginTrim s).recorder = s.recorder := rfl
@[simp] theorem beginTrim_now : (beginTrim s).now = s.now := rfl
@[simp] theorem beginTrim_draws : (beginTrim s).draws = s.draws := rfl
@[simp] theorem beginTrim_pending : (beginTrim s).pending = s.pending := rfl
@[simp] theorem beginTrim_cuts : (beginTrim s).cuts = s.cuts := rfl
@[simp] theorem beginTrim_valves : (beginTrim s).valves = { s.valves with update := some .predict } := rfl

@[simp] theorem setDryStage_loader (o : DryOperation) (stage : DryStage) : (setDryStage s o stage).loader = s.loader := rfl
@[simp] theorem setDryStage_config (o : DryOperation) (stage : DryStage) : (setDryStage s o stage).config = s.config := rfl
@[simp] theorem setDryStage_loops (o : DryOperation) (stage : DryStage) : (setDryStage s o stage).loops = s.loops := rfl
@[simp] theorem setDryStage_visiting (o : DryOperation) (stage : DryStage) : (setDryStage s o stage).visiting = s.visiting := rfl
@[simp] theorem setDryStage_rooms (o : DryOperation) (stage : DryStage) : (setDryStage s o stage).rooms = s.rooms := rfl
@[simp] theorem setDryStage_scanner (o : DryOperation) (stage : DryStage) : (setDryStage s o stage).scanner = s.scanner := rfl
@[simp] theorem setDryStage_engine (o : DryOperation) (stage : DryStage) : (setDryStage s o stage).engine = s.engine := rfl
@[simp] theorem setDryStage_peers (o : DryOperation) (stage : DryStage) : (setDryStage s o stage).peers = s.peers := rfl
@[simp] theorem setDryStage_valves (o : DryOperation) (stage : DryStage) : (setDryStage s o stage).valves = s.valves := rfl
@[simp] theorem setDryStage_meter (o : DryOperation) (stage : DryStage) : (setDryStage s o stage).meter = s.meter := rfl
@[simp] theorem setDryStage_channels (o : DryOperation) (stage : DryStage) : (setDryStage s o stage).channels = s.channels := rfl
@[simp] theorem setDryStage_phases (o : DryOperation) (stage : DryStage) : (setDryStage s o stage).phases = s.phases := rfl
@[simp] theorem setDryStage_arbiter (o : DryOperation) (stage : DryStage) : (setDryStage s o stage).arbiter = s.arbiter := rfl
@[simp] theorem setDryStage_programOne (o : DryOperation) (stage : DryStage) : (setDryStage s o stage).programOne = s.programOne := rfl
@[simp] theorem setDryStage_programTwo (o : DryOperation) (stage : DryStage) : (setDryStage s o stage).programTwo = s.programTwo := rfl
@[simp] theorem setDryStage_bus (o : DryOperation) (stage : DryStage) : (setDryStage s o stage).bus = s.bus := rfl
@[simp] theorem setDryStage_recorder (o : DryOperation) (stage : DryStage) : (setDryStage s o stage).recorder = s.recorder := rfl
@[simp] theorem setDryStage_now (o : DryOperation) (stage : DryStage) : (setDryStage s o stage).now = s.now := rfl
@[simp] theorem setDryStage_draws (o : DryOperation) (stage : DryStage) : (setDryStage s o stage).draws = s.draws := rfl
@[simp] theorem setDryStage_pending (o : DryOperation) (stage : DryStage) : (setDryStage s o stage).pending = s.pending := rfl
@[simp] theorem setDryStage_cuts (o : DryOperation) (stage : DryStage) : (setDryStage s o stage).cuts = s.cuts := rfl
@[simp] theorem setDryStage_operation (o : DryOperation) (stage : DryStage) : (setDryStage s o stage).operation = some { o with stage := stage } := rfl

@[simp] theorem setVisiting_loader (notice : Notice) (todo : List (Fin 12 × NoticeChange)) : (setVisiting s notice todo).loader = s.loader := rfl
@[simp] theorem setVisiting_config (notice : Notice) (todo : List (Fin 12 × NoticeChange)) : (setVisiting s notice todo).config = s.config := rfl
@[simp] theorem setVisiting_loops (notice : Notice) (todo : List (Fin 12 × NoticeChange)) : (setVisiting s notice todo).loops = s.loops := rfl
@[simp] theorem setVisiting_rooms (notice : Notice) (todo : List (Fin 12 × NoticeChange)) : (setVisiting s notice todo).rooms = s.rooms := rfl
@[simp] theorem setVisiting_scanner (notice : Notice) (todo : List (Fin 12 × NoticeChange)) : (setVisiting s notice todo).scanner = s.scanner := rfl
@[simp] theorem setVisiting_engine (notice : Notice) (todo : List (Fin 12 × NoticeChange)) : (setVisiting s notice todo).engine = s.engine := rfl
@[simp] theorem setVisiting_peers (notice : Notice) (todo : List (Fin 12 × NoticeChange)) : (setVisiting s notice todo).peers = s.peers := rfl
@[simp] theorem setVisiting_valves (notice : Notice) (todo : List (Fin 12 × NoticeChange)) : (setVisiting s notice todo).valves = s.valves := rfl
@[simp] theorem setVisiting_meter (notice : Notice) (todo : List (Fin 12 × NoticeChange)) : (setVisiting s notice todo).meter = s.meter := rfl
@[simp] theorem setVisiting_channels (notice : Notice) (todo : List (Fin 12 × NoticeChange)) : (setVisiting s notice todo).channels = s.channels := rfl
@[simp] theorem setVisiting_phases (notice : Notice) (todo : List (Fin 12 × NoticeChange)) : (setVisiting s notice todo).phases = s.phases := rfl
@[simp] theorem setVisiting_arbiter (notice : Notice) (todo : List (Fin 12 × NoticeChange)) : (setVisiting s notice todo).arbiter = s.arbiter := rfl
@[simp] theorem setVisiting_programOne (notice : Notice) (todo : List (Fin 12 × NoticeChange)) : (setVisiting s notice todo).programOne = s.programOne := rfl
@[simp] theorem setVisiting_programTwo (notice : Notice) (todo : List (Fin 12 × NoticeChange)) : (setVisiting s notice todo).programTwo = s.programTwo := rfl
@[simp] theorem setVisiting_operation (notice : Notice) (todo : List (Fin 12 × NoticeChange)) : (setVisiting s notice todo).operation = s.operation := rfl
@[simp] theorem setVisiting_bus (notice : Notice) (todo : List (Fin 12 × NoticeChange)) : (setVisiting s notice todo).bus = s.bus := rfl
@[simp] theorem setVisiting_recorder (notice : Notice) (todo : List (Fin 12 × NoticeChange)) : (setVisiting s notice todo).recorder = s.recorder := rfl
@[simp] theorem setVisiting_now (notice : Notice) (todo : List (Fin 12 × NoticeChange)) : (setVisiting s notice todo).now = s.now := rfl
@[simp] theorem setVisiting_draws (notice : Notice) (todo : List (Fin 12 × NoticeChange)) : (setVisiting s notice todo).draws = s.draws := rfl
@[simp] theorem setVisiting_pending (notice : Notice) (todo : List (Fin 12 × NoticeChange)) : (setVisiting s notice todo).pending = s.pending := rfl
@[simp] theorem setVisiting_cuts (notice : Notice) (todo : List (Fin 12 × NoticeChange)) : (setVisiting s notice todo).cuts = s.cuts := rfl
@[simp] theorem setVisiting_visiting (notice : Notice) (todo : List (Fin 12 × NoticeChange)) : (setVisiting s notice todo).visiting = if todo.isEmpty then none else some ⟨notice, todo⟩ := rfl

@[simp] theorem State.withPending_loader (q : List Instr) : (s.withPending q).loader = s.loader := rfl
@[simp] theorem State.withPending_config (q : List Instr) : (s.withPending q).config = s.config := rfl
@[simp] theorem State.withPending_visiting (q : List Instr) : (s.withPending q).visiting = s.visiting := rfl
@[simp] theorem State.withPending_loops (q : List Instr) : (s.withPending q).loops = s.loops := rfl
@[simp] theorem State.withPending_rooms (q : List Instr) : (s.withPending q).rooms = s.rooms := rfl
@[simp] theorem State.withPending_scanner (q : List Instr) : (s.withPending q).scanner = s.scanner := rfl
@[simp] theorem State.withPending_engine (q : List Instr) : (s.withPending q).engine = s.engine := rfl
@[simp] theorem State.withPending_peers (q : List Instr) : (s.withPending q).peers = s.peers := rfl
@[simp] theorem State.withPending_valves (q : List Instr) : (s.withPending q).valves = s.valves := rfl
@[simp] theorem State.withPending_meter (q : List Instr) : (s.withPending q).meter = s.meter := rfl
@[simp] theorem State.withPending_channels (q : List Instr) : (s.withPending q).channels = s.channels := rfl
@[simp] theorem State.withPending_phases (q : List Instr) : (s.withPending q).phases = s.phases := rfl
@[simp] theorem State.withPending_arbiter (q : List Instr) : (s.withPending q).arbiter = s.arbiter := rfl
@[simp] theorem State.withPending_programOne (q : List Instr) : (s.withPending q).programOne = s.programOne := rfl
@[simp] theorem State.withPending_programTwo (q : List Instr) : (s.withPending q).programTwo = s.programTwo := rfl
@[simp] theorem State.withPending_operation (q : List Instr) : (s.withPending q).operation = s.operation := rfl
@[simp] theorem State.withPending_bus (q : List Instr) : (s.withPending q).bus = s.bus := rfl
@[simp] theorem State.withPending_recorder (q : List Instr) : (s.withPending q).recorder = s.recorder := rfl
@[simp] theorem State.withPending_now (q : List Instr) : (s.withPending q).now = s.now := rfl
@[simp] theorem State.withPending_draws (q : List Instr) : (s.withPending q).draws = s.draws := rfl
@[simp] theorem State.withPending_cuts (q : List Instr) : (s.withPending q).cuts = s.cuts := rfl

@[simp] theorem popped_loader : (popped s).loader = s.loader := rfl
@[simp] theorem popped_config : (popped s).config = s.config := rfl
@[simp] theorem popped_visiting : (popped s).visiting = s.visiting := rfl
@[simp] theorem popped_loops : (popped s).loops = s.loops := rfl
@[simp] theorem popped_rooms : (popped s).rooms = s.rooms := rfl
@[simp] theorem popped_scanner : (popped s).scanner = s.scanner := rfl
@[simp] theorem popped_engine : (popped s).engine = s.engine := rfl
@[simp] theorem popped_peers : (popped s).peers = s.peers := rfl
@[simp] theorem popped_valves : (popped s).valves = s.valves := rfl
@[simp] theorem popped_meter : (popped s).meter = s.meter := rfl
@[simp] theorem popped_channels : (popped s).channels = s.channels := rfl
@[simp] theorem popped_phases : (popped s).phases = s.phases := rfl
@[simp] theorem popped_arbiter : (popped s).arbiter = s.arbiter := rfl
@[simp] theorem popped_programOne : (popped s).programOne = s.programOne := rfl
@[simp] theorem popped_programTwo : (popped s).programTwo = s.programTwo := rfl
@[simp] theorem popped_operation : (popped s).operation = s.operation := rfl
@[simp] theorem popped_recorder : (popped s).recorder = s.recorder := rfl
@[simp] theorem popped_now : (popped s).now = s.now := rfl
@[simp] theorem popped_draws : (popped s).draws = s.draws := rfl
@[simp] theorem popped_cuts : (popped s).cuts = s.cuts := rfl
@[simp] theorem popped_pending : (popped s).pending = s.pending := rfl

@[simp] theorem setLoop_loops (n : Fin 12) (l : Loop) : (setLoop s n l).loops = s.loops.set n (some l) := rfl
@[simp] theorem setChannel_channels (n : Fin 12) (c : Channel) : (setChannel s n c).channels = s.channels.set n c := rfl
@[simp] theorem setProbe_probes (n : Fin 14) (p : Probe) :
    (setProbe s n p).scanner.probes = s.scanner.probes.set n p := rfl
@[simp] theorem drawn_draws : (drawn s).draws = s.draws + 1 := rfl
@[simp] theorem drawn_cuts : (drawn s).cuts = s.cuts := rfl
@[simp] theorem setPeers_records (l : List Peer) : (setPeers s l).peers.peers = l := rfl
@[simp] theorem setPeers_source (l : List Peer) : (setPeers s l).peers.source = s.peers.source := rfl
@[simp] theorem emptyBuffer_buffer : (emptyBuffer s).engine.buffer = Tab.fill 12 none := rfl
@[simp] theorem setTx_tx (t : TxState) : (setTx s t).bus.tx = t := rfl
@[simp] theorem State.withPending_pending (q : List Instr) : (s.withPending q).pending = q := rfl
@[simp] theorem popped_rx : (popped s).bus.rx = s.bus.rx.tail := rfl

@[simp] theorem popped_tx : (popped s).bus.tx = s.bus.tx := rfl
@[simp] theorem popped_report : (popped s).bus.report = s.bus.report := rfl
@[simp] theorem popped_alert : (popped s).bus.alert = s.bus.alert := rfl
@[simp] theorem popped_placing : (popped s).bus.placing = s.bus.placing := rfl
@[simp] theorem popped_reply : (popped s).bus.reply = s.bus.reply := rfl
@[simp] theorem popped_frameCheck : (popped s).bus.frameCheck = s.bus.frameCheck := rfl
@[simp] theorem popped_overflow : (popped s).bus.overflow = s.bus.overflow := rfl
@[simp] theorem popped_unused : (popped s).bus.unused = s.bus.unused := rfl
@[simp] theorem popped_dropped : (popped s).bus.dropped = s.bus.dropped := rfl
@[simp] theorem popped_reportTimer : (popped s).bus.reportTimer = s.bus.reportTimer := rfl
@[simp] theorem popped_lastR : (popped s).bus.lastR = s.bus.lastR := rfl
@[simp] theorem popped_lastReportAt : (popped s).bus.lastReportAt = s.bus.lastReportAt := rfl
@[simp] theorem popped_extraDue : (popped s).bus.extraDue = s.bus.extraDue := rfl
@[simp] theorem popped_rotation : (popped s).bus.rotation = s.bus.rotation := rfl
@[simp] theorem placeFrame_placing (slot : TxSlot) (f : Frame) : (placeFrame s slot f).bus.placing = s.bus.placing := by
  cases slot <;> rfl
@[simp] theorem placeFrame_rx (slot : TxSlot) (f : Frame) : (placeFrame s slot f).bus.rx = s.bus.rx := by
  cases slot <;> rfl
@[simp] theorem placeFrame_frameCheck (slot : TxSlot) (f : Frame) : (placeFrame s slot f).bus.frameCheck = s.bus.frameCheck := by
  cases slot <;> rfl
@[simp] theorem placeFrame_overflow (slot : TxSlot) (f : Frame) : (placeFrame s slot f).bus.overflow = s.bus.overflow := by
  cases slot <;> rfl
@[simp] theorem placeFrame_unused (slot : TxSlot) (f : Frame) : (placeFrame s slot f).bus.unused = s.bus.unused := by
  cases slot <;> rfl
@[simp] theorem placeFrame_dropped (slot : TxSlot) (f : Frame) : (placeFrame s slot f).bus.dropped = s.bus.dropped := by
  cases slot <;> rfl
@[simp] theorem placeFrame_reportTimer (slot : TxSlot) (f : Frame) : (placeFrame s slot f).bus.reportTimer = s.bus.reportTimer := by
  cases slot <;> rfl
@[simp] theorem placeFrame_lastR (slot : TxSlot) (f : Frame) : (placeFrame s slot f).bus.lastR = s.bus.lastR := by
  cases slot <;> rfl
@[simp] theorem placeFrame_lastReportAt (slot : TxSlot) (f : Frame) : (placeFrame s slot f).bus.lastReportAt = s.bus.lastReportAt := by
  cases slot <;> rfl
@[simp] theorem placeFrame_extraDue (slot : TxSlot) (f : Frame) : (placeFrame s slot f).bus.extraDue = s.bus.extraDue := by
  cases slot <;> rfl
@[simp] theorem placeFrame_rotation (slot : TxSlot) (f : Frame) : (placeFrame s slot f).bus.rotation = s.bus.rotation := by
  cases slot <;> rfl

@[simp] theorem setInstance_loader (p : Prog) (i : DryInstance) : (setInstance s p i).loader = s.loader := by
  cases p <;> rfl
@[simp] theorem setInstance_config (p : Prog) (i : DryInstance) : (setInstance s p i).config = s.config := by
  cases p <;> rfl
@[simp] theorem setInstance_visiting (p : Prog) (i : DryInstance) : (setInstance s p i).visiting = s.visiting := by
  cases p <;> rfl
@[simp] theorem setInstance_loops (p : Prog) (i : DryInstance) : (setInstance s p i).loops = s.loops := by
  cases p <;> rfl
@[simp] theorem setInstance_rooms (p : Prog) (i : DryInstance) : (setInstance s p i).rooms = s.rooms := by
  cases p <;> rfl
@[simp] theorem setInstance_scanner (p : Prog) (i : DryInstance) : (setInstance s p i).scanner = s.scanner := by
  cases p <;> rfl
@[simp] theorem setInstance_engine (p : Prog) (i : DryInstance) : (setInstance s p i).engine = s.engine := by
  cases p <;> rfl
@[simp] theorem setInstance_peers (p : Prog) (i : DryInstance) : (setInstance s p i).peers = s.peers := by
  cases p <;> rfl
@[simp] theorem setInstance_valves (p : Prog) (i : DryInstance) : (setInstance s p i).valves = s.valves := by
  cases p <;> rfl
@[simp] theorem setInstance_meter (p : Prog) (i : DryInstance) : (setInstance s p i).meter = s.meter := by
  cases p <;> rfl
@[simp] theorem setInstance_channels (p : Prog) (i : DryInstance) : (setInstance s p i).channels = s.channels := by
  cases p <;> rfl
@[simp] theorem setInstance_phases (p : Prog) (i : DryInstance) : (setInstance s p i).phases = s.phases := by
  cases p <;> rfl
@[simp] theorem setInstance_arbiter (p : Prog) (i : DryInstance) : (setInstance s p i).arbiter = s.arbiter := by
  cases p <;> rfl
@[simp] theorem setInstance_operation (p : Prog) (i : DryInstance) : (setInstance s p i).operation = s.operation := by
  cases p <;> rfl
@[simp] theorem setInstance_bus (p : Prog) (i : DryInstance) : (setInstance s p i).bus = s.bus := by
  cases p <;> rfl
@[simp] theorem setInstance_recorder (p : Prog) (i : DryInstance) : (setInstance s p i).recorder = s.recorder := by
  cases p <;> rfl
@[simp] theorem setInstance_now (p : Prog) (i : DryInstance) : (setInstance s p i).now = s.now := by
  cases p <;> rfl
@[simp] theorem setInstance_draws (p : Prog) (i : DryInstance) : (setInstance s p i).draws = s.draws := by
  cases p <;> rfl
@[simp] theorem setInstance_cuts (p : Prog) (i : DryInstance) : (setInstance s p i).cuts = s.cuts := by
  cases p <;> rfl
@[simp] theorem setInstance_pending (p : Prog) (i : DryInstance) : (setInstance s p i).pending = s.pending := by
  cases p <;> rfl
@[simp] theorem instanceOf_setInstance (p : Prog) (i : DryInstance) : instanceOf (setInstance s p i) p = i := by
  cases p <;> rfl

end Sys2Proof.Machine
end

