-- ==== Sys2Proof/Laws/Frames.lean ====
section
/-! SUPPORT. What each shared operation can change, once: the frames of reporting a fault, of the chain changes, of
the drive, of the dry-out sequencer and of the pass. -/

namespace Sys2Proof.Machine

open Sys2Proof

/-! ## Faults -/

theorem FaultFrame.refl (s : State) : FaultFrame s s := ⟨s.recorder, s.bus.alert, s.bus.placing, s.bus.tx, rfl⟩

theorem FaultFrame.trans {s t u : State} (h : FaultFrame s t) (k : FaultFrame t u) : FaultFrame s u := by
  obtain ⟨r, a, w, x, rfl⟩ := h
  obtain ⟨r', a', w', x', rfl⟩ := k
  exact ⟨r', a', w', x', rfl⟩

theorem placeFrame_alert_frame (s : State) (f : Frame) : FaultFrame s (placeFrame s .alert f) :=
  ⟨s.recorder, some f, s.bus.placing, if s.bus.tx = .idle then .waiting else s.bus.tx, rfl⟩

theorem placeAlert_frame (s : State) : FaultFrame s (placeAlert s) := by
  unfold placeAlert
  split
  · exact .refl s
  · exact .trans ⟨s.recorder, s.bus.alert, _, s.bus.tx, rfl⟩ (placeFrame_alert_frame _ _)

/-- ALERTs on their way touch nothing but the alert slot, those that wait for it, and the transmitter state. -/
theorem raiseAlerts_frame (s : State) (frames : List Frame) : FaultFrame s (raiseAlerts s frames) := by
  have h : FaultFrame s { s with bus := { s.bus with placing := s.bus.placing ++ frames } } :=
    ⟨s.recorder, s.bus.alert, _, s.bus.tx, rfl⟩
  unfold raiseAlerts
  dsimp only
  split
  · exact h.trans (placeAlert_frame _)
  · exact h

theorem offerAlerts_frame (s : State) (e : FaultEvent) : FaultFrame s (offerAlerts s e) :=
  .trans ⟨_, s.bus.alert, s.bus.placing, s.bus.tx, rfl⟩ (raiseAlerts_frame _ _)

/-- A fold of operations that keep a reflexive and transitive frame keeps it. -/
theorem foldl_frame {α : Type} {R : State → State → Prop} (refl : ∀ s, R s s)
    (trans : ∀ {s t u}, R s t → R t u → R s u) {f : State → α → State} (step : ∀ s a, R s (f s a)) :
    ∀ (l : List α) (s : State), R s (l.foldl f s)
  | [], s => refl s
  | a :: l, s => trans (step s a) (foldl_frame refl trans step l (f s a))

/-- Steps that keep a reflexive and transitive frame keep it however many are made. -/
theorem times_frame {R : State → State → Prop} (refl : ∀ s, R s s) (trans : ∀ {s t u}, R s t → R t u → R s u)
    {step : State → State} (one : ∀ s, R s (step s)) : ∀ (k : Nat) (s : State), R s (times step k s)
  | 0, s => refl s
  | k + 1, s => trans (one s) (times_frame refl trans one k (step s))

/-- Reporting a fault changes the recorder, the ALERTs on their way, the alert slot and the transmitter state only. -/
theorem report_frame (s : State) (e : FaultEvent) : FaultFrame s (report s e) := by
  unfold report
  dsimp only
  have h : FaultFrame s { s with recorder := recordFault s.recorder e } := ⟨_, s.bus.alert, s.bus.placing, s.bus.tx, rfl⟩
  split
  · exact h
  · exact h.trans (offerAlerts_frame _ _)

theorem reportAll_frame (s : State) (l : List FaultEvent) : FaultFrame s (reportAll s l) :=
  foldl_frame FaultFrame.refl FaultFrame.trans report_frame l s

/-! ## Chains -/

theorem ChainFrame.refl (s : State) : ChainFrame s s := ⟨s.loops, s.recorder, s.bus.alert, s.bus.placing, s.bus.tx, rfl⟩

theorem ChainFrame.trans {s t u : State} (h : ChainFrame s t) (k : ChainFrame t u) : ChainFrame s u := by
  obtain ⟨l, r, a, w, x, rfl⟩ := h
  obtain ⟨l', r', a', w', x', rfl⟩ := k
  exact ⟨l', r', a', w', x', rfl⟩

theorem FaultFrame.chain {s t : State} (h : FaultFrame s t) : ChainFrame s t := by
  obtain ⟨r, a, w, x, rfl⟩ := h
  exact ⟨s.loops, r, a, w, x, rfl⟩

theorem setLoop_frame (s : State) (n : Fin 12) (l : Loop) : ChainFrame s (setLoop s n l) :=
  ⟨_, s.recorder, s.bus.alert, s.bus.placing, s.bus.tx, rfl⟩

theorem baseSwitch_frame (s : State) (n k) (f) : ChainFrame s (baseSwitch s n k f) := by
  unfold baseSwitch
  split
  · exact .refl s
  · split
    · exact .refl s
    · split
      · exact .refl s
      · split
        · exact (report_frame _ _).chain
        · exact setLoop_frame _ _ _

theorem push_frame (s : State) (n c k f) : ChainFrame s (push s n c k f).1 := by
  unfold push
  split
  · exact .refl s
  · split
    · exact (report_frame _ _).chain
    · exact setLoop_frame _ _ _

theorem withdraw_frame (s : State) (n o) : ChainFrame s (withdraw s n o) := by
  unfold withdraw
  split
  · exact .refl s
  · exact setLoop_frame _ _ _

/-- A change of a mode notice changes one loop, or a refused change reports. -/
theorem noticeChange_frame (k : Notice) (s : State) (x) : ChainFrame s (noticeChange k s x) := by
  unfold noticeChange
  split
  · exact .refl s
  · split
    · exact push_frame _ _ _ _ _
    · exact withdraw_frame _ _ _
    · exact baseSwitch_frame _ _ _ _

theorem NoticeFrame.refl (s : State) : NoticeFrame s s := ⟨_, _, _, _, _, _, rfl⟩

theorem NoticeFrame.trans {s t u : State} (h : NoticeFrame s t) (k : NoticeFrame t u) : NoticeFrame s u := by
  obtain ⟨_, _, _, _, _, _, rfl⟩ := h
  obtain ⟨_, _, _, _, _, _, rfl⟩ := k
  exact ⟨_, _, _, _, _, _, rfl⟩

theorem ChainFrame.notice {s t : State} (h : ChainFrame s t) : NoticeFrame s t := by
  obtain ⟨_, _, _, _, _, rfl⟩ := h
  exact ⟨_, _, _, _, _, _, rfl⟩

/-- A step of a mode notice changes loops, what is left of the notice, and what refused changes report. -/
theorem noticeStep_frame (s : State) : NoticeFrame s (noticeStep s) := by
  unfold noticeStep
  split
  · exact .refl s
  · exact ⟨_, _, _, _, _, _, rfl⟩
  · exact (noticeChange_frame _ s _).notice.trans ⟨_, _, _, _, _, _, rfl⟩

theorem noticeSteps_frame (k : Nat) (s : State) : NoticeFrame s (times noticeStep k s) :=
  times_frame .refl .trans noticeStep_frame k s

theorem finishNotice_frame (s : State) : NoticeFrame s (finishNotice s) := noticeSteps_frame _ s

theorem buildChains_frame (s : State) : ChainFrame s (buildChains s) := by
  refine foldl_frame ChainFrame.refl ChainFrame.trans (fun s n => ?_) _ _
  unfold comfortSwitch
  split
  · exact .refl s
  · exact baseSwitch_frame _ _ _ _

/-! ## Drive -/

theorem DriveFrame.refl (s : State) : DriveFrame s s :=
  ⟨s.channels, s.arbiter, s.valves.activity, s.recorder, s.bus.alert, s.bus.placing, s.bus.tx, rfl⟩

theorem DriveFrame.trans {s t u : State} (h : DriveFrame s t) (k : DriveFrame t u) : DriveFrame s u := by
  obtain ⟨c, a, v, r, al, w, x, rfl⟩ := h
  obtain ⟨c', a', v', r', al', w', x', rfl⟩ := k
  exact ⟨c', a', v', r', al', w', x', rfl⟩

theorem FaultFrame.drive {s t : State} (h : FaultFrame s t) : DriveFrame s t := by
  obtain ⟨r, a, w, x, rfl⟩ := h
  exact ⟨s.channels, s.arbiter, s.valves.activity, r, a, w, x, rfl⟩

theorem putChannel_frame (s : State) (n c) : DriveFrame s (putChannel s n c) := by
  refine ⟨s.channels.set n c, s.arbiter,
    if activeState c.state && c.state != (s.channels.get n).state then true else s.valves.activity, s.recorder,
    s.bus.alert, s.bus.placing, s.bus.tx, ?_⟩
  unfold putChannel
  dsimp only
  split <;> rfl

theorem setChannel_frame (s : State) (n c) : DriveFrame s (setChannel s n c) :=
  ⟨_, s.arbiter, s.valves.activity, s.recorder, s.bus.alert, s.bus.placing, s.bus.tx, rfl⟩

theorem arbiter_frame (s : State) (a : Arbiter) : DriveFrame s { s with arbiter := a } :=
  ⟨s.channels, a, s.valves.activity, s.recorder, s.bus.alert, s.bus.placing, s.bus.tx, rfl⟩

theorem settle_frame (s : State) (n) : DriveFrame s (settle s n) := putChannel_frame _ _ _

theorem reverse_frame (s : State) (n) : DriveFrame s (reverse s n) := putChannel_frame _ _ _

theorem startDrive_frame (s : State) (n m d) : DriveFrame s (startDrive s n m d) := putChannel_frame _ _ _

theorem moveGranted_frame (s : State) (n) : DriveFrame s (moveGranted s n) := by
  unfold moveGranted
  dsimp only
  split
  · exact startDrive_frame _ _ _ _
  · exact (putChannel_frame _ _ _).trans (arbiter_frame _ _)

theorem grantTo_frame (s : State) (i e) : DriveFrame s (grantTo s i e) := by
  unfold grantTo
  dsimp only
  split
  · exact (arbiter_frame _ _).trans (moveGranted_frame _ _)
  · exact (arbiter_frame _ _).trans (putChannel_frame _ _ _)

theorem grantLoop_frame : ∀ (fuel : Nat) (s : State), DriveFrame s (grantLoop fuel s)
  | 0, s => .refl s
  | fuel + 1, s => by
    unfold grantLoop
    split
    · exact (grantTo_frame _ _ _).trans (grantLoop_frame fuel _)
    · exact .refl s

theorem grants_frame (s : State) : DriveFrame s (grants s) := grantLoop_frame _ _

theorem freeSlot_frame (s : State) (n) : DriveFrame s (freeSlot s n) := (arbiter_frame _ _).trans (grants_frame _)

theorem joinMove_frame (s : State) (n) : DriveFrame s (joinMove s n) := by
  unfold joinMove
  split
  · exact .refl s
  · exact arbiter_frame _ _

theorem joinCalibrate_frame (s : State) (n) : DriveFrame s (joinCalibrate s n) := by
  unfold joinCalibrate
  split
  · exact arbiter_frame _ _
  · split
    · exact .refl s
    · exact arbiter_frame _ _

theorem requestMove_frame (s : State) (n) : DriveFrame s (requestMove s n) :=
  ((putChannel_frame _ _ _).trans (joinMove_frame _ _)).trans (grants_frame _)

theorem compareTarget_frame (s : State) (n) : DriveFrame s (compareTarget s n) := by
  unfold compareTarget
  dsimp only
  split
  · exact requestMove_frame _ _
  · exact .refl s

theorem sendCalibrate_frame (s : State) (n) : DriveFrame s (sendCalibrate s n) :=
  ((putChannel_frame _ _ _).trans (joinCalibrate_frame _ _)).trans (grants_frame _)

/-- A calibration request changes channels, arbiter and activity flag only. -/
theorem requestCalibration_frame (s : State) (n b) : DriveFrame s (requestCalibration s n b) := by
  unfold requestCalibration
  split
  · exact .refl s
  · dsimp only
    split <;> first
      | exact sendCalibrate_frame _ _
      | exact setChannel_frame _ _ _
      | exact .refl s
      | (split <;> first
          | exact sendCalibrate_frame _ _
          | exact .refl s
          | (split <;> first
              | exact setChannel_frame _ _ _
              | exact .refl s))

theorem takeTarget_frame (s : State) (n t) : DriveFrame s (takeTarget s n t) := by
  unfold takeTarget
  dsimp only
  split
  · exact .refl s
  · split
    · split
      · exact (setChannel_frame _ _ _).trans (setChannel_frame _ _ _)
      · exact (setChannel_frame _ _ _).trans (reverse_frame _ _)
      · exact (setChannel_frame _ _ _).trans (settle_frame _ _)
    · split
      · exact (setChannel_frame _ _ _).trans (setChannel_frame _ _ _)
      · exact (setChannel_frame _ _ _).trans (reverse_frame _ _)
      · exact (setChannel_frame _ _ _).trans (settle_frame _ _)
    · exact setChannel_frame _ _ _

theorem dropMove_frame (s : State) (n) : DriveFrame s (dropMove s n) :=
  (putChannel_frame _ _ _).trans (freeSlot_frame _ _)

theorem disable_frame (s : State) (n) : DriveFrame s (disable s n) :=
  ((putChannel_frame _ _ _).trans (arbiter_frame _ _)).trans (freeSlot_frame _ _)

theorem feedbackError_frame (s : State) (n c k) : DriveFrame s (feedbackError s n c k) :=
  ((report_frame _ _).drive.trans (dropMove_frame _ _)).trans (requestCalibration_frame _ _ _)

theorem failCalibration_frame (s : State) (n c) : DriveFrame s (failCalibration s n c) :=
  (report_frame _ _).drive.trans (disable_frame _ _)

theorem seatFound_frame (s : State) (n) : DriveFrame s (seatFound s n) :=
  (setChannel_frame _ _ _).trans (settle_frame _ _)

theorem blockedStall_frame (s : State) (n) : DriveFrame s (blockedStall s n) := by
  unfold blockedStall
  dsimp only
  have h := fun (c : Channel) => ((report_frame s
    ⟨.stallBlocked, channelItem n, (s.channels.get n).counter, liveValue (s.channels.get n), none⟩).drive.trans
      (putChannel_frame _ n c)).trans (freeSlot_frame _ n)
  split
  · split
    · exact (h _).trans (requestCalibration_frame _ _ _)
    · exact h _
  · exact (h _).trans (disable_frame _ _)

theorem calibrationStroke_frame (s : State) (n) : DriveFrame s (calibrationStroke s n) := by
  unfold calibrationStroke
  dsimp only
  split
  · exact putChannel_frame _ _ _
  · exact failCalibration_frame _ _ _

theorem judgeChannel_frame (s : State) (n) : DriveFrame s (judgeChannel s n) := by
  unfold judgeChannel
  dsimp only
  split
  all_goals first
    | exact .refl s
    | (split
       · split
         · exact feedbackError_frame _ _ _ _
         · split
           · exact feedbackError_frame _ _ _ _
           · split
             · exact settle_frame _ _
             · exact .refl s
       · exact .refl s)
    | (split
       · exact (report_frame _ _).drive.trans (requestCalibration_frame _ _ _)
       · exact .refl s)

/-! ## Dry-out -/

theorem DryFrame.refl (s : State) : DryFrame s s := ⟨_, _, _, _, _, _, _, _, _, rfl⟩

theorem DryFrame.trans {s t u : State} (h : DryFrame s t) (k : DryFrame t u) : DryFrame s u := by
  obtain ⟨_, _, _, _, _, _, _, _, _, rfl⟩ := h
  obtain ⟨_, _, _, _, _, _, _, _, _, rfl⟩ := k
  exact ⟨_, _, _, _, _, _, _, _, _, rfl⟩

theorem ChainFrame.dry {s t : State} (h : ChainFrame s t) : DryFrame s t := by
  obtain ⟨_, _, _, _, _, rfl⟩ := h
  exact ⟨_, _, _, _, _, _, _, _, _, rfl⟩

theorem setInstance_frame (s : State) (p i) : DryFrame s (setInstance s p i) := by
  cases p <;> exact ⟨_, _, _, _, _, _, _, _, _, rfl⟩

theorem setOperation_frame (s : State) (o) : DryFrame s { s with operation := o } := ⟨_, _, _, _, _, _, _, _, _, rfl⟩

theorem sendReply_frame (s : State) (f c a) : DryFrame s (sendReply s f c a) := ⟨_, _, _, _, _, _, _, _, _, rfl⟩

theorem pushMember_frame (p k) (s : State) (n) : DryFrame s (pushMember p k s n) := by
  unfold pushMember
  dsimp only
  split
  · exact (push_frame _ _ _ _ _).dry.trans (setInstance_frame _ _ _)
  · exact (push_frame _ _ _ _ _).dry

theorem endStart_frame (s : State) (o r b) : DryFrame s (endStart s o r b) := by
  unfold endStart
  dsimp only
  split
  · exact setOperation_frame _ _
  · exact (setInstance_frame _ _ _).trans (setOperation_frame _ _)

theorem endWithdrawals_frame (s : State) (o r) : DryFrame s (endWithdrawals s o r) := by
  unfold endWithdrawals
  dsimp only
  split <;> exact (setInstance_frame _ _ _).trans (setOperation_frame _ _)

theorem dryReply_frame (s : State) (o f r) : DryFrame s (dryReply s o f r) := by
  unfold dryReply
  split <;> exact sendReply_frame _ _ _ _

/-- A step of the sequencer changes loops, program instances, the operation, the reply slot, and what a fault touches. -/
theorem dryStep_frame (s : State) : DryFrame s (dryStep s) := by
  unfold dryStep
  split
  · exact .refl s
  · split
    · exact (pushMember_frame _ _ _ _).trans (setOperation_frame _ _)
    · exact endStart_frame _ _ _ _
    · exact (withdraw_frame _ _ _).dry.trans (setOperation_frame _ _)
    · exact endWithdrawals_frame _ _ _
    · exact (report_frame _ _).chain.dry.trans (setOperation_frame _ _)
    · exact (dryReply_frame _ _ _ _).trans (setOperation_frame _ _)

theorem drySteps_frame (k : Nat) (s : State) : DryFrame s (times dryStep k s) :=
  times_frame .refl .trans dryStep_frame k s

theorem finishDry_frame (s : State) : DryFrame s (finishDry s) := drySteps_frame _ s

theorem abortAtStart_frame (s : State) (p) : DryFrame s (abortAtStart s p) :=
  (setInstance_frame _ _ _).trans (report_frame _ _).chain.dry

theorem repush_frame (s : State) (p d) : DryFrame s (repush s p d) := by
  unfold repush
  dsimp only
  have h (l) : DryFrame s (List.foldl (pushMember p d.profile) (setInstance s p { instanceOf s p with members := [] }) l) :=
    (setInstance_frame _ _ _).trans (foldl_frame .refl .trans (pushMember_frame p d.profile) l _)
  split
  · exact (h _).trans (abortAtStart_frame _ _)
  · exact h _

theorem checkKept_frame (s : State) (p) : DryFrame s (checkKept s p) := by
  unfold checkKept
  dsimp only
  split
  · exact .refl s
  · split
    · exact abortAtStart_frame _ _
    · split
      · exact setInstance_frame _ _ _
      · split
        · exact (setInstance_frame _ _ _).trans (repush_frame _ _ _)
        · exact setInstance_frame _ _ _

theorem restartProgram_frame (s : State) (p) : DryFrame s (restartProgram s p) :=
  (setInstance_frame _ _ _).trans (checkKept_frame _ _)

theorem pauseProgram_frame (s : State) (p) : DryFrame s (pauseProgram s p) := by
  unfold pauseProgram
  dsimp only
  split
  · exact setInstance_frame _ _ _
  · exact .refl s

theorem resumeProgram_frame (s : State) (p) : DryFrame s (resumeProgram s p) := by
  unfold resumeProgram
  dsimp only
  split
  · exact setInstance_frame _ _ _
  · exact .refl s

/-! ## Operations of the sequencer, which count the pieces that they draw -/

theorem DryFrame.counted {s t : State} (h : DryFrame s t) : DryFrame { s with cuts := t.cuts } t := by
  obtain ⟨_, _, _, _, _, _, _, _, _, rfl⟩ := h
  exact ⟨_, _, _, _, _, _, _, _, _, rfl⟩

theorem DryFrame.countedTrans {s t u : State} (h : DryFrame { s with cuts := t.cuts } t)
    (k : DryFrame { t with cuts := u.cuts } u) : DryFrame { s with cuts := u.cuts } u := by
  obtain ⟨_, _, _, _, _, _, _, _, _, e⟩ := h
  obtain ⟨_, _, _, _, _, _, _, _, _, d⟩ := k
  rw [e] at d
  exact ⟨_, _, _, _, _, _, _, _, _, d⟩

/-- A piece of an operation changes nothing more, but that it is counted. -/
theorem dryPiece_frame (k : Nat) (s : State) : DryFrame { s with cuts := s.cuts + 1 } (piece dryStep k s) := by
  obtain ⟨_, _, _, _, _, _, _, _, _, e⟩ := drySteps_frame k s
  exact ⟨_, _, _, _, _, _, _, _, _, by rw [piece, e]⟩

theorem beginDry_frame (s : State) (o) : DryFrame { s with cuts := (beginDry s o).cuts } (beginDry s o) :=
  (setOperation_frame _ _).trans (dryPiece_frame _ _)

theorem stepEnd_frame (s : State) (p) : DryFrame { s with cuts := (stepEnd s p).cuts } (stepEnd s p) := by
  unfold stepEnd
  dsimp only
  split
  · split
    · exact (setInstance_frame _ _ _).counted
    · exact (setInstance_frame _ _ _).counted.countedTrans (beginDry_frame _ _)
  · exact (DryFrame.refl s).counted

theorem lateStepEnd_frame (b) (s : State) (p) : DryFrame { s with cuts := (lateStepEnd b s p).cuts } (lateStepEnd b s p) := by
  unfold lateStepEnd
  split
  · exact (finishDry_frame s).counted.countedTrans (stepEnd_frame _ _)
  · exact (DryFrame.refl s).counted

/-- The return of both programs to RUNNING, with the step ends that fell due. -/
theorem resumePrograms_frame (s : State) : DryFrame { s with cuts := (resumePrograms s).cuts } (resumePrograms s) :=
  (((resumeProgram_frame s .one).trans (resumeProgram_frame _ .two)).counted.countedTrans
    (lateStepEnd_frame _ _ _)).countedTrans (lateStepEnd_frame _ _ _)

theorem startProgram_frame (s : State) (p f) : DryFrame { s with cuts := (startProgram s p f).cuts } (startProgram s p f) := by
  unfold startProgram
  dsimp only
  split
  · exact (sendReply_frame _ _ _ _).counted
  · split
    · exact (sendReply_frame _ _ _ _).counted
    · exact (setInstance_frame _ _ _).counted.countedTrans (beginDry_frame _ _)

theorem stopProgram_frame (s : State) (p f) : DryFrame { s with cuts := (stopProgram s p f).cuts } (stopProgram s p f) := by
  unfold stopProgram
  dsimp only
  split
  · exact (setInstance_frame _ _ _).counted.countedTrans (beginDry_frame _ _)
  · exact (sendReply_frame _ _ _ _).counted

/-! ## The pass -/

theorem PassFrame.refl (s : State) : PassFrame s s := ⟨_, _, _, _, _, _, rfl⟩

theorem PassFrame.trans {s t u : State} (h : PassFrame s t) (k : PassFrame t u) : PassFrame s u := by
  obtain ⟨_, _, _, _, _, _, rfl⟩ := h
  obtain ⟨_, _, _, _, _, _, rfl⟩ := k
  exact ⟨_, _, _, _, _, _, rfl⟩

theorem FaultFrame.pass {s t : State} (h : FaultFrame s t) : PassFrame s t := by
  obtain ⟨_, _, _, _, rfl⟩ := h
  exact ⟨_, _, _, _, _, _, rfl⟩

theorem stageOne_frame (o : Opening) (s : State) (n) : PassFrame s (stageOne o s n) := by
  unfold stageOne
  split
  · exact .refl s
  · dsimp only
    split <;> exact ⟨_, _, _, _, _, _, rfl⟩

theorem bypassShort_frame (s : State) (sh) : PassFrame s (bypassShort s sh) := by
  unfold bypassShort
  split
  · split
    · exact (report_frame s _).pass
    · exact .refl s
  · exact .refl s

theorem setStage_frame (s : State) (o st) : PassFrame s (setStage s o st) := ⟨_, _, _, _, _, _, rfl⟩

theorem stageThree_frame (s : State) (o rs) : PassFrame s (stageThree s o rs) :=
  (bypassShort_frame s _).trans (setStage_frame _ _ _)

theorem allocateLoop_frame (g) (s : State) (r) : PassFrame s (allocateLoop g s r) := ⟨_, _, _, _, _, _, rfl⟩

theorem targetLoop_frame (o) (s : State) (r) : PassFrame s (targetLoop o s r) := by
  unfold targetLoop
  dsimp only
  split
  · exact .refl s
  · exact ⟨_, _, _, _, _, _, rfl⟩

theorem fillFallback_frame (s : State) : PassFrame s (fillFallback s) := by
  unfold fillFallback
  split
  · exact ⟨_, _, _, _, _, _, rfl⟩
  · exact .refl s

theorem endStages_frame (s : State) (w) : PassFrame s (endStages s w) :=
  PassFrame.trans ⟨_, _, _, _, _, _, rfl⟩ (fillFallback_frame _)

/-- A step of a pass changes at most loops, engine and what a fault touches. -/
theorem passStep_frame (s : State) : PassFrame s (passStep s) := by
  unfold passStep
  split
  · exact .refl s
  · exact (stageOne_frame _ s _).trans (setStage_frame _ _ _)
  · exact stageThree_frame s _ _
  · exact (allocateLoop_frame _ s _).trans (setStage_frame _ _ _)
  · exact (targetLoop_frame _ s _).trans (setStage_frame _ _ _)
  · exact endStages_frame s _

theorem passSteps_frame (k : Nat) (s : State) : PassFrame s (passSteps k s) := times_frame .refl .trans passStep_frame k s

/-- A piece of a pass changes nothing more, but that it is counted. -/
theorem passPiece_frame (k : Nat) (s : State) : PassFrame { s with cuts := s.cuts + 1 } (piece passStep k s) := by
  obtain ⟨_, _, _, _, _, _, e⟩ : PassFrame s (times passStep k s) := passSteps_frame k s
  exact ⟨_, _, _, _, _, _, by rw [piece, e]⟩

/-! ## The trim update -/

theorem TrimFrame.refl (s : State) : TrimFrame s s := ⟨_, _, _, _, _, _, rfl⟩

theorem TrimFrame.trans {s t u : State} (h : TrimFrame s t) (k : TrimFrame t u) : TrimFrame s u := by
  obtain ⟨_, _, _, _, _, _, rfl⟩ := h
  obtain ⟨_, _, _, _, _, _, rfl⟩ := k
  exact ⟨_, _, _, _, _, _, rfl⟩

theorem FaultFrame.trim {s t : State} (h : FaultFrame s t) : TrimFrame s t := by
  obtain ⟨_, _, _, _, rfl⟩ := h
  exact ⟨_, _, _, _, _, _, rfl⟩

theorem measureTrim_frame (s : State) : TrimFrame s (measureTrim s) := by
  unfold measureTrim
  dsimp only
  have h (v m) : TrimFrame s { s with meter := m, valves := v } := ⟨_, _, _, _, _, _, rfl⟩
  split
  · exact (h _ _).trans (report_frame _ _).trim
  · exact h _ _

/-- A step of a trim update changes at most the valve tables, the meter and what a fault touches. -/
theorem trimStep_frame (s : State) : TrimFrame s (trimStep s) := by
  unfold trimStep
  split
  · exact .refl s
  · exact ⟨_, _, _, _, _, _, rfl⟩
  · exact measureTrim_frame s
  · exact ⟨_, _, _, _, _, _, rfl⟩

theorem trimSteps_frame (k : Nat) (s : State) : TrimFrame s (trimSteps k s) := times_frame .refl .trans trimStep_frame k s

theorem finishTrim_frame (s : State) : TrimFrame s (finishTrim s) := trimSteps_frame 3 s

/-- A piece of a trim update changes nothing more, but that it is counted. -/
theorem trimPiece_frame (k : Nat) (s : State) : TrimFrame { s with cuts := s.cuts + 1 } (piece trimStep k s) := by
  obtain ⟨_, _, _, _, _, _, e⟩ : TrimFrame s (times trimStep k s) := trimSteps_frame k s
  exact ⟨_, _, _, _, _, _, by rw [piece, e]⟩

end Sys2Proof.Machine
end

