-- ==== Sys2Proof/Laws/Operations.lean ====
section
/-! SUPPORT. What the shared operations answer: the hand-on of the receive queue, the records of rooms and peers, the
free order, the fault recorder, and the grants of the drive arbiter. -/

namespace Sys2Proof.Machine

open Sys2Proof

/-! ## Work in steps -/

/-- Pieces of work follow one another: where work is cut changes nothing of what its steps make. -/
theorem times_add (step : State → State) (j k : Nat) (s : State) : times step (j + k) s = times step k (times step j s) := by
  induction j generalizing s with
  | zero => simp [times]
  | succ j ih => rw [Nat.succ_add]; exact ih (step s)

/-- Where there is no step to make, none is made. -/
theorem times_of_fixed {step : State → State} {s : State} (h : step s = s) : ∀ k, times step k s = s
  | 0 => rfl
  | k + 1 => by rw [times, h]; exact times_of_fixed h k

/-- As many steps as are left, or more, end work whose every step leaves fewer to make. -/
theorem times_ends {step : State → State} {left : State → Nat} (h : ∀ s, left (step s) ≤ left s - 1) :
    ∀ (k : Nat) (s : State), left s ≤ k → left (times step k s) = 0
  | 0, s, le => by simpa [times] using le
  | k + 1, s, le => times_ends h k (step s) (by have := h s; omega)

/-! ## The sequencer's operation -/

theorem dryLeft_eq_zero {s : State} : dryLeft s = 0 ↔ s.operation = none := by
  unfold dryLeft
  split
  · simp [*]
  · rename_i h
    rw [h]
    split <;> simp

/-- A step of an operation leaves one fewer to make. -/
theorem dryLeft_dryStep (s : State) : dryLeft (dryStep s) = dryLeft s - 1 := by
  cases h : s.operation with
  | none => simp [dryStep, dryLeft, h]
  | some o =>
    obtain ⟨p, i, stage⟩ := o
    cases stage with
    | push f k b todo =>
      cases todo with
      | cons n todo => simp [dryStep, dryLeft, h, setDryStage]
      | nil =>
        simp only [dryStep, h, endStart]
        split <;> simp [dryLeft, h, setDryStage]
    | withdraw f todo =>
      cases todo with
      | cons n todo => cases f <;> simp [dryStep, dryLeft, h, setDryStage]
      | nil => cases f <;> simp [dryStep, dryLeft, h, setDryStage, endWithdrawals]
    | abort f => simp [dryStep, dryLeft, h, setDryStage]
    | reply f r => simp [dryStep, dryLeft, h]

/-- An operation made to its end leaves none in progress. -/
theorem finishDry_operation (s : State) : (finishDry s).operation = none :=
  dryLeft_eq_zero.1 (times_ends (fun s => (dryLeft_dryStep s).le) _ s (le_refl _))

/-- With no operation in progress there is nothing to finish. -/
theorem finishDry_of_none {s : State} (h : s.operation = none) : finishDry s = s := by
  simp [finishDry, dryLeft, h, times]

/-- Finishing takes up where a piece has left off. -/
theorem finishDry_piece (k : Nat) (s : State) : finishDry (times dryStep k s) = finishDry s := by
  induction k generalizing s with
  | zero => rfl
  | succ k ih =>
    rw [times, ih]
    unfold finishDry
    rw [dryLeft_dryStep]
    cases h : dryLeft s with
    | zero => simp [times, dryStep, dryLeft_eq_zero.1 h]
    | succ n => simp [times]

theorem requestOpen_of_none {s : State} (h : s.operation = none) : requestOpen s = false := by
  simp [requestOpen, h]

theorem answerOpen_of_closed {s : State} (h : requestOpen s = false) : answerOpen s = s := by simp [answerOpen, h]

/-- Once a request has been answered none is open. -/
theorem requestOpen_answerOpen (s : State) : requestOpen (answerOpen s) = false := by
  unfold answerOpen
  split
  · exact requestOpen_of_none (finishDry_operation s)
  · simpa using ‹¬ requestOpen s = true›

/-! ## The mode notice in progress -/

theorem noticeLeft_eq_zero {s : State} : noticeLeft s = 0 ↔ s.visiting = none := by
  unfold noticeLeft
  split <;> simp [*]

theorem noticeLeft_noticeStep (s : State) : noticeLeft (noticeStep s) ≤ noticeLeft s - 1 := by
  unfold noticeStep
  split
  · simp [noticeLeft, *]
  · simp [noticeLeft]
  · rename_i notice x todo h
    cases todo with
    | nil => simp [noticeLeft, h]
    | cons y todo => simp [noticeLeft, h]

/-- A mode notice carried out to its end leaves none in progress. -/
theorem finishNotice_visiting (s : State) : (finishNotice s).visiting = none :=
  noticeLeft_eq_zero.1 (times_ends noticeLeft_noticeStep _ s (le_refl _))

theorem finishNotice_of_none {s : State} (h : s.visiting = none) : finishNotice s = s := by
  simp [finishNotice, noticeLeft, h, times]

/-! ## The faults of a load, and ALERTs on their way -/

theorem report_loader (s : State) (e : FaultEvent) : (report s e).loader = s.loader := by
  obtain ⟨_, _, _, _, h⟩ := report_frame s e
  rw [h]

/-- A step of a load reports its next fault and leaves the others. -/
theorem loadFaults_loadStep (s : State) : loadFaults (loadStep s) = (loadFaults s).tail := by
  cases h : loadFaults s with
  | nil => simp [loadStep, h]
  | cons e l =>
    have k : (loadStep s).loader = { s.loader with reported := s.loader.reported + 1 } := by
      rw [loadStep, h]; exact report_loader _ _
    rw [loadFaults, k]
    simp only [loadFaults] at h
    simp only [← List.drop_drop, h, List.drop_one]

/-- A placement takes the oldest ALERT that waits. -/
theorem placing_placeAlert (s : State) : (placeAlert s).bus.placing = s.bus.placing.tail := by
  unfold placeAlert
  split <;> simp [*]

/-! ## Receive queue -/

/-- The requests before it are answered without a change of the queue. -/
theorem answerOpen_rx (s : State) : (answerOpen s).bus.rx = s.bus.rx := by
  unfold answerOpen
  split
  · obtain ⟨_, _, _, _, _, _, _, _, _, h⟩ := finishDry_frame s
    rw [h]
  · rfl

/-- The head frame is taken exactly when it is the one that the command hands on, once the request before it has been
answered. -/
theorem takeHead_eq_some {s t : State} {c : Instr} {f : Frame} :
    takeHead s c = some (f, t) ↔ s.bus.rx.head? = some f ∧ handOn f = c ∧ t = popped (answerOpen s) := by
  have e : popped (answerOpen s) =
      { answerOpen s with bus := { (answerOpen s).bus with rx := s.bus.rx.tail } } := by rw [popped, answerOpen_rx]
  rw [e]
  unfold takeHead
  cases h : s.bus.rx with
  | nil => simp
  | cons g rest =>
    by_cases hc : handOn g = c
    · simp only [hc, if_true, Option.some.injEq, Prod.mk.injEq, List.head?_cons, List.tail_cons]
      constructor
      · rintro ⟨rfl, rfl⟩; exact ⟨rfl, hc, rfl⟩
      · rintro ⟨rfl, -, rfl⟩; exact ⟨rfl, rfl⟩
    · simp only [hc, if_false, List.head?_cons, Option.some.injEq]
      constructor
      · intro k; cases k
      · rintro ⟨rfl, k, -⟩; exact absurd k hc

/-- A ROOM report with its fixed part is handed to the room table. -/
theorem handOn_room {f : Frame} {v : RoomFields} (hk : f.kind = 2) (hv : readRoom f.content = some v) :
    handOn f = .roomReport := by
  have : 6 ≤ f.content.length := by
    unfold readRoom at hv
    split at hv
    · rename_i h; simp [h]
    · cases hv
  simp [handOn, hk, this]

/-- A SOURCE report with its fixed part is handed to the peer table. -/
theorem handOn_source {f : Frame} {v : SourceFields} (hk : f.kind = 1) (hv : readSource f.content = some v) :
    handOn f = .sourceReport := by
  have : 7 ≤ f.content.length := by
    unfold readSource at hv
    split at hv
    · rename_i h; simp [h]
    · cases hv
  simp [handOn, hk, this]

/-- A STATION report with its core is handed to the peer table. -/
theorem handOn_station {f : Frame} {v : CoreFields} (hk : f.kind = 3) (hv : readCore f.content = some v) :
    handOn f = .stationReport := by
  have : 10 ≤ f.content.length := by
    unfold readCore at hv
    split at hv
    · rename_i h; simp [h]
    · cases hv
  simp [handOn, hk, this]

/-- A SERVICE request is handed on as the command of its code. -/
theorem handOn_request {f : Frame} {target code : Byte} {args : List Byte} (hk : f.kind = 5)
    (hc : f.content = target :: code :: args) : handOn f = requestCommand code.toNat := by
  simp [handOn, hk, hc]

/-! ## Records by number -/

/-- The record of a room after another, or its own, has been replaced. -/
theorem roomRecord_putRoom (s : State) (r : Room) (m : Nat) :
    roomRecord (putRoom s r) m = if m = r.room then (roomRecord s m).map (fun _ => r) else roomRecord s m := by
  simp only [roomRecord, putRoom]
  induction s.rooms.records with
  | nil => simp
  | cons a l ih =>
    simp only [List.map_cons, List.find?_cons]
    by_cases ha : a.room = r.room
    · by_cases hm : m = r.room
      · simp [ha, hm]
      · have h1 : (r.room == m) = false := by simpa using fun e => hm e.symm
        simp only [ha, h1, hm, if_false, if_true] at ih ⊢
        exact ih
    · by_cases hm : m = r.room
      · subst hm
        have h1 : (a.room == r.room) = false := by simpa using ha
        simp only [ha, if_false, if_true, h1] at ih ⊢
        exact ih
      · simp only [ha, hm, if_false] at ih ⊢
        split
        · rfl
        · exact ih

/-- The record of a station after a report has been taken. -/
theorem find_putPeer (p : Peer) (k : Fin 8) : ∀ l : List Peer,
    (putPeer p l).find? (fun q => q.station == k) =
      if k = p.station then some p else l.find? (fun q => q.station == k)
  | [] => by
    by_cases h : k = p.station
    · simp [putPeer, h]
    · have : (p.station == k) = false := by simpa using fun e => h e.symm
      simp [putPeer, h, this]
  | q :: rest => by
    have ih := find_putPeer p k rest
    simp only [putPeer]
    by_cases h : k = p.station
    · subst h
      split
      · simp
      · rename_i hq
        split
        · simp
        · have : (q.station == p.station) = false := by simpa using hq
          simp only [List.find?_cons, this, if_true] at ih ⊢
          exact ih
    · have hp : (p.station == k) = false := by simpa using fun e => h e.symm
      split
      · rename_i hq
        have : (q.station == k) = false := by rw [hq]; exact hp
        simp [hp, this]
      · split
        · simp [List.find?_cons, hp]
        · simp only [List.find?_cons, h, if_false] at ih ⊢
          rw [ih]

/-! ## The free order -/

theorem mem_insertRanked {α : Type} (x y : Nat × α) (l : List (Nat × α)) :
    y ∈ insertRanked x l ↔ y = x ∨ y ∈ l := by
  induction l with
  | nil => simp [insertRanked]
  | cons a l ih =>
    simp only [insertRanked]
    split
    · simp
    · simp only [List.mem_cons, ih]; tauto

theorem rankFrom_snd {α : Type} (k i : Nat) (l : List α) : (rankFrom k i l).map Prod.snd = l := by
  induction l generalizing i with
  | nil => rfl
  | cons a l ih => simp [rankFrom, ih]

/-- The free order leaves out no event and adds none. -/
theorem mem_freeOrder {α : Type} (k : Nat) (l : List α) (x : α) : x ∈ freeOrder k l ↔ x ∈ l := by
  have fold : ∀ (y : Nat × α) (m acc : List (Nat × α)),
      y ∈ m.foldl (fun acc x => insertRanked x acc) acc ↔ y ∈ m ∨ y ∈ acc := by
    intro y m
    induction m with
    | nil => simp
    | cons a m ih => intro acc; simp only [List.foldl_cons, ih, mem_insertRanked, List.mem_cons]; tauto
  unfold freeOrder
  split
  · simp
  · simp
  · simp only [List.mem_map, fold, List.mem_reverse, List.not_mem_nil, or_false]
    conv_rhs => rw [← rankFrom_snd k 0 l]
    simp

/-- Of the events that are due one joins the queue, and nothing else changes but the counter of free values. -/
theorem queueDue_cases (s : State) : (dueEvents s = [] ∧ queueDue s = s) ∨
    ∃ i ∈ dueEvents s, ∃ draws, queueDue s = { s with pending := s.pending ++ [i], draws := draws } := by
  unfold queueDue
  split
  · exact .inl ⟨‹_›, rfl⟩
  · exact .inr ⟨_, by simp [‹_›], s.draws, rfl⟩
  · rename_i none_ one
    cases order : freeOrder s.draws (dueEvents s) with
    | nil =>
      obtain ⟨i, hi⟩ := List.exists_mem_of_ne_nil _ none_
      exact absurd ((mem_freeOrder s.draws _ i).2 hi) (by simp [order])
    | cons i l =>
      exact .inr ⟨i, (mem_freeOrder s.draws _ i).1 (by simp [order]), s.draws + 1, by simp [nextEvent, order, drawn]⟩

/-! ## The idle step -/

/-- Work that goes on is one of the works in progress, by `k` of its steps. -/
theorem goOn_cases {s : State} (h : works s ≠ []) (k : Nat) :
    ∃ w ∈ works s, goOn k s = piece (workStep w) k s ∨ goOn k s = piece (workStep w) k (drawn s) := by
  unfold goOn
  split
  · exact absurd ‹_› h
  · exact ⟨_, by simp [‹_›], .inl rfl⟩
  · cases order : freeOrder s.draws (works s) with
    | nil =>
      obtain ⟨w, hw⟩ := List.exists_mem_of_ne_nil _ h
      exact absurd ((mem_freeOrder s.draws _ w).2 hw) (by simp [order])
    | cons w l => exact ⟨w, (mem_freeOrder s.draws _ w).1 (by simp [order]), .inr rfl⟩

/-- The idle step passes time, lets an own event join the queue, or goes on with work. -/
theorem tick_cases (s : State) :
    (works s = [] ∧ dueEvents s = [] ∧ tick s = elapse 1 s) ∨
    (dueEvents s ≠ [] ∧ (tick s = queueDue s ∨ works s ≠ [] ∧ tick s = queueDue { s with cuts := s.cuts + 1 })) ∨
    (works s ≠ [] ∧ ∃ k, 0 < k ∧ tick s = goOn k s) := by
  unfold tick
  split
  · exact .inl ⟨‹_›, ‹_›, rfl⟩
  · rename_i hw hd; exact .inr (.inl ⟨hd, .inl rfl⟩)
  · rename_i hw; exact .inr (.inr ⟨hw, _, Nat.succ_pos _, rfl⟩)
  · rename_i hd hw _
    split
    · exact .inr (.inl ⟨hw, .inr ⟨hd, rfl⟩⟩)
    · rename_i k hk; exact .inr (.inr ⟨hd, _, Nat.pos_of_ne_zero hk, rfl⟩)

/-! ## The steps of a pass -/

/-- With no pass in its stages there is no step to make. -/
theorem passSteps_of_none {s : State} (h : s.engine.visit = none) (k : Nat) : passSteps k s = s :=
  times_of_fixed (by simp [passStep, h]) k

/-- What each stage's step makes, by the stage. -/
theorem passStep_of {s : State} {o : Opening} :
    (∀ n todo rs, s.engine.visit = some ⟨o, .read (n :: todo) rs⟩ →
      passStep s = setStage (stageOne o s n) o (.read todo (rs ++ readingOf s n))) ∧
    (∀ rs, s.engine.visit = some ⟨o, .read [] rs⟩ → passStep s = stageThree s o rs) ∧
    (∀ g r todo, s.engine.visit = some ⟨o, .allocate g (r :: todo)⟩ →
      passStep s = setStage (allocateLoop g s r) o (.target g r todo)) ∧
    (∀ g r todo, s.engine.visit = some ⟨o, .target g r todo⟩ →
      passStep s = setStage (targetLoop o s r) o (.allocate g todo)) ∧
    (∀ g, s.engine.visit = some ⟨o, .allocate g []⟩ → passStep s = endStages s g.work) := by
  refine ⟨fun _ _ _ h => ?_, fun _ h => ?_, fun _ _ _ h => ?_, fun _ _ _ h => ?_, fun _ h => ?_⟩ <;>
    simp [passStep, h]

theorem readingOf_length (s : State) (n : Fin 12) : (readingOf s n).length ≤ 1 := by
  unfold readingOf
  split
  · split <;> simp
  · simp

/-- Where the end of the stages leaves the pass. -/
theorem endStages_visit (s : State) (w : PassResult) :
    (endStages s w).engine.visit = none ∧ (endStages s w).engine.work = some w := by
  unfold endStages fillFallback
  split <;> exact ⟨rfl, rfl⟩

/-- Every step leaves fewer to make. -/
theorem stepsLeft_passStep (s : State) : stepsLeft (passStep s) ≤ stepsLeft s - 1 := by
  unfold passStep
  split
  · rename_i h; simp [stepsLeft, h]
  · rename_i h
    have := readingOf_length s ‹_›
    simp [stepsLeft, h, stageSteps]
    omega
  · rename_i h; simp [stepsLeft, h, stageSteps, stageThree]
  · rename_i h; simp [stepsLeft, h, stageSteps]
    omega
  · rename_i h; simp [stepsLeft, h, stageSteps]
  · simp [stepsLeft, endStages_visit]

theorem stepsLeft_pos {s : State} (h : s.engine.visit ≠ none) : 0 < stepsLeft s := by
  unfold stepsLeft
  split
  · unfold stageSteps; split <;> omega
  · exact absurd ‹_› h

/-- As many steps as a pass has left, or more, end its stages. -/
theorem passSteps_visit (k : Nat) (s : State) (h : stepsLeft s ≤ k) : (passSteps k s).engine.visit = none := by
  by_contra c
  exact absurd (times_ends stepsLeft_passStep k s h) (Nat.pos_iff_ne_zero.1 (stepsLeft_pos c))

/-! ## The trim update -/

/-- With no trim update in progress there is no step to make. -/
theorem trimSteps_of_none {s : State} (h : s.valves.update = none) (k : Nat) : trimSteps k s = s :=
  times_of_fixed (by simp [trimStep, h]) k

/-- A fault leaves the trim update where it stands. -/
theorem report_update (s : State) (e : FaultEvent) : (report s e).valves.update = s.valves.update := by
  obtain ⟨_, _, _, _, h⟩ := report_frame s e
  rw [h]

/-- Where each step leaves the trim update. -/
theorem trimStep_update (s : State) :
    (s.valves.update = none → (trimStep s).valves.update = none) ∧
    (s.valves.update = some .predict → (trimStep s).valves.update = some .measure) ∧
    (s.valves.update = some .measure → ∃ state flow, (trimStep s).valves.update = some (.judge state flow)) ∧
    (∀ state flow, s.valves.update = some (.judge state flow) → (trimStep s).valves.update = none) := by
  refine ⟨fun h => by simp [trimStep, h], fun h => by simp [trimStep, h, predictTrim], fun h => ?_, fun _ _ h => ?_⟩
  · simp only [trimStep, h, measureTrim]
    split
    · exact ⟨_, _, report_update _ _⟩
    · exact ⟨_, _, rfl⟩
  · simp only [trimStep, h, judgeTrim]
    split <;> rfl

/-- Three steps end every trim update. -/
theorem finishTrim_update (s : State) : (finishTrim s).valves.update = none := by
  unfold finishTrim
  cases h : s.valves.update with
  | none => rw [trimSteps_of_none h]; exact h
  | some st =>
    obtain ⟨h0, h1, h2, h3⟩ := trimStep_update s
    have done {t : State} (k : Nat) (e : t.valves.update = none) : (trimSteps k t).valves.update = none := by
      rw [trimSteps_of_none e]; exact e
    cases st with
    | predict =>
      obtain ⟨_, _, e⟩ := (trimStep_update (trimStep s)).2.2.1 (h1 h)
      exact (trimStep_update (trimStep (trimStep s))).2.2.2 _ _ e
    | measure =>
      obtain ⟨_, _, e⟩ := h2 h
      exact done 1 ((trimStep_update (trimStep s)).2.2.2 _ _ e)
    | judge _ _ => exact done 2 (h3 _ _ h)

/-! ## Faults -/

theorem raiseAlerts_recorder (s : State) (l : List Frame) : (raiseAlerts s l).recorder = s.recorder := by
  unfold raiseAlerts placeAlert
  dsimp only
  split
  · split <;> rfl
  · rfl

/-- What a fault event leaves in the recorder: what `recordFault` says, and on an unmasked one what pends at the alert slots. -/
theorem report_recorder (s : State) (e : FaultEvent) : (report s e).recorder =
    if (s.recorder.kinds.get (kindIndex e.kind)).masked then recordFault s.recorder e
    else { recordFault s.recorder e with
      slots := (recordFault s.recorder e).slots.map (pendAlert (recordFault s.recorder e) e) } := by
  simp only [report]
  split
  · rfl
  · simp [offerAlerts, raiseAlerts_recorder]

/-! ## Grants -/

/-- No entry of the queue is the channel's. -/
def unqueued (a : Arbiter) (n : Fin 12) : Prop := ∀ e ∈ a.queue, e.channel ≠ n

theorem putChannel_get_self (s : State) (n : Fin 12) (c : Channel) : (putChannel s n c).channels.get n = c := by
  simp [putChannel]

theorem putChannel_get_ne (s : State) {n m : Fin 12} (c : Channel) (h : n ≠ m) :
    (putChannel s n c).channels.get m = s.channels.get m := by
  simp [putChannel, Tab.get_set_ne _ _ h]

/-- A grant changes no channel but its own, and takes entries of no channel but that one. -/
theorem grantTo_other (s : State) (i : Fin 3) (e : DriveEntry) {n : Fin 12} (h : e.channel ≠ n) :
    (grantTo s i e).channels.get n = s.channels.get n ∧
    (unqueued s.arbiter n → unqueued (grantTo s i e).arbiter n) := by
  have keep : unqueued s.arbiter n → unqueued (granted s.arbiter i e) n := fun k x hx =>
    k x (List.mem_of_mem_erase hx)
  unfold grantTo
  split
  · simp only [moveGranted]
    split
    · unfold startDrive
      exact ⟨putChannel_get_ne _ _ h, keep⟩
    · exact ⟨putChannel_get_ne _ _ h, keep⟩
  · unfold calibrationGranted
    exact ⟨putChannel_get_ne _ _ h, keep⟩

/-- Grants leave a channel without an entry as it is. -/
theorem grantLoop_unqueued (n : Fin 12) : ∀ (fuel : Nat) (s : State), unqueued s.arbiter n →
    (grantLoop fuel s).channels.get n = s.channels.get n ∧ unqueued (grantLoop fuel s).arbiter n
  | 0, s, h => ⟨rfl, h⟩
  | fuel + 1, s, h => by
    simp only [grantLoop]
    split
    · rename_i i e hg
      have he : e ∈ s.arbiter.queue := by
        unfold nextGrant at hg
        split at hg
        · rename_i hq
          simp only [Option.some.injEq, Prod.mk.injEq] at hg
          obtain ⟨-, rfl⟩ := hg
          exact List.mem_of_find?_eq_some hq
        · cases hg
      obtain ⟨h1, h2⟩ := grantTo_other s i e (h e he)
      obtain ⟨k1, k2⟩ := grantLoop_unqueued n fuel (grantTo s i e) (h2 h)
      exact ⟨k1.trans h1, k2⟩
    · exact ⟨rfl, h⟩

/-- A freed slot changes no channel without an entry. -/
theorem freeSlot_unqueued (s : State) (m n : Fin 12) (h : unqueued s.arbiter n) :
    (freeSlot s m).channels.get n = s.channels.get n ∧ unqueued (freeSlot s m).arbiter n :=
  grantLoop_unqueued n _ _ h

/-- Grants move no position counter. -/
theorem grantLoop_counter (n : Fin 12) : ∀ (fuel : Nat) (s : State),
    ((grantLoop fuel s).channels.get n).counter = (s.channels.get n).counter
  | 0, _ => rfl
  | fuel + 1, s => by
    simp only [grantLoop]
    split
    · rename_i i e _
      rw [grantLoop_counter n fuel]
      by_cases h : e.channel = n
      · subst h
        unfold grantTo
        split
        · simp only [moveGranted]
          split
          · simp [startDrive, putChannel]
          · simp [putChannel]
        · simp [calibrationGranted, putChannel]
      · rw [(grantTo_other s i e h).1]
    · rfl

end Sys2Proof.Machine
end

