-- ==== Sys2Proof/Laws/PerInstr.lean ====
section
/-! SUPPORT. One lemma for each command, about the command as syntax. Family `Shape`: a command is well formed exactly
when the operands that its type leaves open lie in the ranges the manual gives them. -/

namespace Sys2Proof.Laws

/-- The ranges of the operands that a command's type leaves open (section 5.3 of `00_scope.md`, sections 13.1 and 13.4);
the other commands have none. -/
def Shape.ranges : Instr → Prop
  | .powerOnReset _ memory | .warmReset _ memory => ∀ words, memory = some words → words.length < 65536
  | .frameReceived f =>
    (f.length = none → f.content = [] ∧ f.check = none ∧ f.rest.length ≤ 5) ∧
    (∀ n, f.length = some n → f.content.length ≤ n.toNat ∧
      (f.content.length < n.toNat → f.check = none ∧ f.rest.length ≤ 7) ∧
      (f.content.length = n.toNat → f.check = none → f.rest.length ≤ 15) ∧
      (f.content.length = n.toNat → f.check ≠ none → f.rest = []))
  | .roomEntersHeld room | .roomStale room => 0 < room ∧ room < 64
  | .stationStart | .passTimerExpiry | .probeHoldExpiry _ | .passClose | .extraReportDue | .regularReport
  | .scanRound | .sampleEvent _ _ | .roomReport | .modeNotice | .boostTimerExpiry _ | .stationReport
  | .peerStale _ | .peerRemoval _ | .sourceReport | .sourceStale | .unusedFrame | .readLoop | .readFaults
  | .readPeers | .readTrim | .startDryout | .stopDryout | .recalibrate | .clearFaults | .alertMask
  | .alertEnable | .unknownRequest | .dryoutHour _ | .dryoutStepEnd _ | .meterPulse | .feedbackEdge _ _ _
  | .stall _ | .moveTimeout _ | .phaseLimitExpiry _ | .settlingEnd _ | .calibrationSettlingEnd _
  | .reversingEnd _ | .calOpenDeadIntervalEnd _ | .transmitStart | .arbitrationLost | .arbitrationWon
  | .frameSent | .frameBrokenOff => True

/-- A command is well formed exactly when its operands lie in their ranges. -/
def Shape.Statement (i : Instr) : Prop := i.wellFormed = true ↔ Shape.ranges i

theorem memory_shape (memory : Option (List Word16)) :
    memoryOk memory = true ↔ ∀ words, memory = some words → words.length < 65536 := by
  cases memory with
  | none => simp [memoryOk]
  | some w => simp [memoryOk]; omega

theorem room_shape (room : Nat) : roomNumberOk room = true ↔ 0 < room ∧ room < 64 := by
  simp [roomNumberOk]; omega

theorem Shape.powerOnReset (straps : BitVec 3) (memory : Option (List Word16)) : Shape.Statement (.powerOnReset straps memory) :=
  memory_shape memory

theorem Shape.warmReset (straps : BitVec 3) (memory : Option (List Word16)) : Shape.Statement (.warmReset straps memory) :=
  memory_shape memory

theorem Shape.stationStart : Shape.Statement .stationStart :=
  iff_of_true rfl trivial

theorem Shape.passTimerExpiry : Shape.Statement .passTimerExpiry :=
  iff_of_true rfl trivial

theorem Shape.probeHoldExpiry (probe : Fin 14) : Shape.Statement (.probeHoldExpiry probe) :=
  iff_of_true rfl trivial

theorem Shape.passClose : Shape.Statement .passClose :=
  iff_of_true rfl trivial

theorem Shape.extraReportDue : Shape.Statement .extraReportDue :=
  iff_of_true rfl trivial

theorem Shape.regularReport : Shape.Statement .regularReport :=
  iff_of_true rfl trivial

theorem Shape.scanRound : Shape.Statement .scanRound :=
  iff_of_true rfl trivial

theorem Shape.sampleEvent (probe : Fin 14) (code : BitVec 12) : Shape.Statement (.sampleEvent probe code) :=
  iff_of_true rfl trivial

theorem Shape.frameReceived (frame : RxFrame) : Shape.Statement (.frameReceived frame) := by
  obtain ⟨kind, sender, length, content, check, rest⟩ := frame
  cases length with
  | none => simp [Shape.Statement, Shape.ranges, Instr.wellFormed, RxFrame.wellFormed, Nat.lt_succ_iff, and_assoc]
  | some n =>
    have key : ((if content.length < n.toNat then check.isNone && decide (rest.length < 8)
        else decide (content.length = n.toNat) &&
          (if check.isNone then decide (rest.length < 16) else rest.isEmpty)) = true) ↔
        (content.length ≤ n.toNat ∧ (content.length < n.toNat → check = none ∧ rest.length ≤ 7) ∧
          (content.length = n.toNat → check = none → rest.length ≤ 15) ∧
          (content.length = n.toNat → check ≠ none → rest = [])) := by
      rcases Nat.lt_trichotomy content.length n.toNat with h | h | h
      · have h' : content.length ≠ n.toNat := by omega
        simp [h, h', Nat.le_of_lt h, Nat.lt_succ_iff]
      · cases check <;> simp [h, Nat.lt_succ_iff]
      · have h1 : ¬ content.length < n.toNat := by omega
        have h2 : content.length ≠ n.toNat := by omega
        have h3 : ¬ content.length ≤ n.toNat := by omega
        simp [h1, h2, h3]
    simpa [Shape.Statement, Shape.ranges, Instr.wellFormed, RxFrame.wellFormed] using key

theorem Shape.roomReport : Shape.Statement .roomReport :=
  iff_of_true rfl trivial

theorem Shape.modeNotice : Shape.Statement .modeNotice :=
  iff_of_true rfl trivial

theorem Shape.boostTimerExpiry (loop : Fin 12) : Shape.Statement (.boostTimerExpiry loop) :=
  iff_of_true rfl trivial

theorem Shape.roomEntersHeld (room : Nat) : Shape.Statement (.roomEntersHeld room) :=
  room_shape room

theorem Shape.roomStale (room : Nat) : Shape.Statement (.roomStale room) :=
  room_shape room

theorem Shape.stationReport : Shape.Statement .stationReport :=
  iff_of_true rfl trivial

theorem Shape.peerStale (station : Fin 8) : Shape.Statement (.peerStale station) :=
  iff_of_true rfl trivial

theorem Shape.peerRemoval (station : Fin 8) : Shape.Statement (.peerRemoval station) :=
  iff_of_true rfl trivial

theorem Shape.sourceReport : Shape.Statement .sourceReport :=
  iff_of_true rfl trivial

theorem Shape.sourceStale : Shape.Statement .sourceStale :=
  iff_of_true rfl trivial

theorem Shape.unusedFrame : Shape.Statement .unusedFrame :=
  iff_of_true rfl trivial

theorem Shape.readLoop : Shape.Statement .readLoop :=
  iff_of_true rfl trivial

theorem Shape.readFaults : Shape.Statement .readFaults :=
  iff_of_true rfl trivial

theorem Shape.readPeers : Shape.Statement .readPeers :=
  iff_of_true rfl trivial

theorem Shape.readTrim : Shape.Statement .readTrim :=
  iff_of_true rfl trivial

theorem Shape.startDryout : Shape.Statement .startDryout :=
  iff_of_true rfl trivial

theorem Shape.stopDryout : Shape.Statement .stopDryout :=
  iff_of_true rfl trivial

theorem Shape.recalibrate : Shape.Statement .recalibrate :=
  iff_of_true rfl trivial

theorem Shape.clearFaults : Shape.Statement .clearFaults :=
  iff_of_true rfl trivial

theorem Shape.alertMask : Shape.Statement .alertMask :=
  iff_of_true rfl trivial

theorem Shape.alertEnable : Shape.Statement .alertEnable :=
  iff_of_true rfl trivial

theorem Shape.unknownRequest : Shape.Statement .unknownRequest :=
  iff_of_true rfl trivial

theorem Shape.dryoutHour (prog : Prog) : Shape.Statement (.dryoutHour prog) :=
  iff_of_true rfl trivial

theorem Shape.dryoutStepEnd (prog : Prog) : Shape.Statement (.dryoutStepEnd prog) :=
  iff_of_true rfl trivial

theorem Shape.meterPulse : Shape.Statement .meterPulse :=
  iff_of_true rfl trivial

theorem Shape.feedbackEdge (channel : Fin 12) (phaseA : Bool) (phaseB : Bool) : Shape.Statement (.feedbackEdge channel phaseA phaseB) :=
  iff_of_true rfl trivial

theorem Shape.stall (channel : Fin 12) : Shape.Statement (.stall channel) :=
  iff_of_true rfl trivial

theorem Shape.moveTimeout (channel : Fin 12) : Shape.Statement (.moveTimeout channel) :=
  iff_of_true rfl trivial

theorem Shape.phaseLimitExpiry (channel : Fin 12) : Shape.Statement (.phaseLimitExpiry channel) :=
  iff_of_true rfl trivial

theorem Shape.settlingEnd (channel : Fin 12) : Shape.Statement (.settlingEnd channel) :=
  iff_of_true rfl trivial

theorem Shape.calibrationSettlingEnd (channel : Fin 12) : Shape.Statement (.calibrationSettlingEnd channel) :=
  iff_of_true rfl trivial

theorem Shape.reversingEnd (channel : Fin 12) : Shape.Statement (.reversingEnd channel) :=
  iff_of_true rfl trivial

theorem Shape.calOpenDeadIntervalEnd (channel : Fin 12) : Shape.Statement (.calOpenDeadIntervalEnd channel) :=
  iff_of_true rfl trivial

theorem Shape.transmitStart : Shape.Statement .transmitStart :=
  iff_of_true rfl trivial

theorem Shape.arbitrationLost : Shape.Statement .arbitrationLost :=
  iff_of_true rfl trivial

theorem Shape.arbitrationWon : Shape.Statement .arbitrationWon :=
  iff_of_true rfl trivial

theorem Shape.frameSent : Shape.Statement .frameSent :=
  iff_of_true rfl trivial

theorem Shape.frameBrokenOff : Shape.Statement .frameBrokenOff :=
  iff_of_true rfl trivial

end Sys2Proof.Laws
end

