-- ==== Sys2Proof/Tests/Slice0.lean ====
section
/-! SUPPORT. The model's own tests. Expected values come from the manual's worked cases and tables, named beside each
test, or are worked by hand from its rules. The second part shows, for each statement with hypotheses, concrete states
and operands that meet them, clause by clause. -/

namespace Sys2Proof.Tests

open Sys2Proof Sys2Proof.Machine

/-! ## A small station: loop 1 serves room 1; program 1 and the profiles of section 1.10 -/

def comfort : Profile := ⟨.normal, .offset, 0, 0, none, 2900, 300, .hold, true, none⟩
def eco : Profile := ⟨.setback, .offset, -200, 0, none, 2900, 200, .hold, true, none⟩
def away : Profile := ⟨.setback, .absolute, 1600, 0, none, 2900, 150, .hold, false, none⟩
def off : Profile := ⟨.off, .absolute, 700, 0, none, 2900, 0, .close, true, none⟩
def boost : Profile := ⟨.boost, .absolute, 700, 1000, none, 2900, 0, .hold, true, none⟩
def drying : Profile := ⟨.dryout, .absolute, 700, 0, none, 2900, 0, .hold, false, some .one⟩

def profiles : Tab 15 (Option Profile) :=
  ⟨[some comfort, some eco, some away, some off, some boost, some drying] ++ List.replicate 9 none, rfl⟩

/-- Valve type 1 of section 6.6, with the minimum opening of section 4.10. -/
def valve : ValveTable := ⟨true, [0, 40, 90, 150, 230, 320, 420, 540, 680, 840, 1000], 60⟩

def info : LoopInfo := ⟨1, 0, 180, 500, 300, 270, 300, true, 1, 2, 3, 4, 5, 1500⟩
def loopWith (chain : List Entry) : Loop := ⟨info, chain, false, none⟩

def calibrated : Channel :=
  { Channel.reset with state := .idle, counter := 400, stroke := some 1800, calibrated := true, rest := 400 }

def room : Room := ⟨1, .fresh, ⟨10, 0⟩, some 2040, some 2100, .comfort, none⟩

def station : State := { State.reset with
  loader := { Loader.reset with state := .normal, imageStatus := .ok }
  config := { StationConfig.reset with countTime := 50, profiles := profiles, programOne := some ⟨6, [0], [⟨500, 1⟩, ⟨700, 2⟩]⟩ }
  loops := (Tab.fill 12 none).set 0 (some (loopWith [⟨1, .base⟩]))
  rooms := { RoomTable.reset with records := [room] }
  scanner := startScanner ((Tab.fill 12 none).set 0 (some (loopWith [⟨1, .base⟩])))
  engine := { Engine.reset with timer := some 30000 }
  valves := { ValveTables.reset with tables := (Tab.fill 4 none).set 0 (some valve) }
  meter := { Meter.reset with counting := true, state := .good, pitch := some 10, maximum := some 3000 }
  channels := (Tab.fill 12 Channel.reset).set 0 calibrated
  bus := { Bus.reset with reportTimer := some 2000 } }

/-- The station with channel 1 as given, holding slot 1 for an operation of `kind`. -/
def driven (c : Channel) (kind : OpKind) : State := { station with
  channels := station.channels.set 0 c
  arbiter := { station.arbiter with slots := station.arbiter.slots.set 0 (some ⟨0, kind⟩) } }

/-- The station with frames waiting. -/
def receiving (l : List Frame) : State := { station with bus := { station.bus with rx := l } }

/-- A SERVICE request from tool 10 to station 1. -/
def request (code : Byte) (args : List Byte) : Frame := ⟨5, 10, 1 :: code :: args⟩

/-- The state that an outcome goes on with, or the state before it. -/
def after (s : State) (i : Instr) : State :=
  match exec i s with
  | .next t => t
  | .fault _ | .refused _ => s

/-! ## Well-formedness -/

theorem test_content_longer_than_its_length_is_ill_formed :
    (Instr.frameReceived ⟨2, 17, some 1, [1, 2], none, []⟩).wellFormed = false := by decide
theorem test_check_before_the_whole_content_is_ill_formed :
    (Instr.frameReceived ⟨2, 17, some 3, [1, 2], some 7, []⟩).wellFormed = false := by decide
theorem test_content_after_a_cut_length_is_ill_formed :
    (Instr.frameReceived ⟨2, 17, none, [1], none, []⟩).wellFormed = false := by decide
theorem test_bits_of_a_whole_field_left_over_are_ill_formed :
    (Instr.frameReceived ⟨2, 17, none, [], none, List.replicate 6 true⟩).wellFormed = false ∧
    (Instr.frameReceived ⟨2, 17, some 1, [], none, List.replicate 8 true⟩).wellFormed = false ∧
    (Instr.frameReceived ⟨2, 17, some 0, [], none, List.replicate 16 true⟩).wellFormed = false ∧
    (Instr.frameReceived ⟨2, 17, some 0, [], some 7, [true]⟩).wellFormed = false := by decide
theorem test_room_zero_is_ill_formed : (Instr.roomStale 0).wellFormed = false := by decide
theorem test_room_above_63_is_ill_formed : (Instr.roomEntersHeld 64).wellFormed = false := by decide
theorem test_memory_beyond_its_length_field_is_ill_formed :
    (Instr.powerOnReset 0 (some (List.replicate 65536 0))).wellFormed = false := by
  show decide ((List.replicate 65536 (0 : Word16)).length ≤ 65535) = false
  rw [List.length_replicate]; rfl
theorem test_well_formed_commands :
    (Instr.frameReceived ⟨2, 17, some 2, [1, 2], some 7, []⟩).wellFormed = true ∧
    (Instr.frameReceived ⟨2, 17, none, [], none, [true]⟩).wellFormed = true ∧ (Instr.roomStale 63).wellFormed = true ∧
    (Instr.warmReset 7 (some [1, 2])).wellFormed = true ∧ Instr.stationStart.wellFormed = true := by decide

/-! ## Worked cases of the manual -/

/-- Section 3.2, the three conversions; R37, the ends of the table. -/
theorem test_linearise : linearise 2048 = 2710 ∧ linearise 2200 = 2474 ∧ linearise 3700 = -538 ∧ linearise 96 = 9000 ∧
    linearise 3878 = -1300 := by decide

/-- Section 3.8: the list at 100 s and its mean, 30.49 °C. -/
theorem test_filter_mean : mean [3052, 3048, 3050, 3048] = 3049 := by decide

/-- Section 4.10, stage 1, and the next pass. -/
theorem test_control :
    nextIntegrator 5 false 300 { EngineLoop.reset with integrator := 45000, dLast := some 588 } .heating false 60 = 45300 ∧
    controlDemand 250 45300 60 = 603 ∧
    nextIntegrator 5 false 300 { EngineLoop.reset with integrator := 45300, dLast := some 603, scaled := true } .heating
      false 55 = 45300 ∧
    controlDemand 250 45300 55 = 590 := by decide

/-- Section 4.10, stage 2. -/
theorem test_request : requestFlow 603 180 500 400 270 = 135 ∧ requestFlow 590 180 500 410 270 = 129 := by decide

/-- Section 4.10, stages 3 to 6. -/
theorem test_pass_arithmetic :
    (share 1 900 2700 800 [⟨2, 1400, false⟩, ⟨3, 1100, false⟩] []).g = 714 ∧
    allocate 135 900 714 0 0 = 107 ∧
    trimmedFlow 300 1040 = 312 ∧ positionFor valve 107 312 = 522 ∧
    slotTarget comfort { info with qFull := 300 } valve 1040 107 1800 = some 939 := by decide

/-- Section 4.12: frost floor, then floor limit. -/
theorem test_floors :
    floorLimit 2900 (some ⟨false, 450, 2100, none⟩) (frostFloor .normal (some ⟨false, 450, 2100, none⟩) 80) = 150 ∧
    floorLimit 2700 (some ⟨false, 1900, 2100, some 2663⟩) 1000 = 740 ∧
    floorLimit 2700 (some ⟨false, 1400, 2100, some 2720⟩) 400 = 0 ∧
    floorLimit 2900 (some ⟨false, 390, 2100, some 2880⟩) (frostFloor .frost (some ⟨false, 390, 2100, some 2880⟩) 60) =
      150 := by decide

/-- Section 5.8: the duty, the spreading, the other station, the short bypass. -/
theorem test_sharing :
    share 1 180 2700 800 [⟨2, 200, true⟩, ⟨3, 120, false⟩] [⟨10, 40, 240⟩, ⟨11, 0, 200⟩] =
      ⟨500, .deficit, 480, 300, true, some 300, [⟨10, 200⟩, ⟨11, 100⟩]⟩ ∧
    (share 2 200 2700 800 [⟨1, 180, true⟩, ⟨3, 120, false⟩] [⟨0, 0, 200⟩]).duty = false ∧
    (share 1 180 2700 800 [⟨2, 200, true⟩, ⟨3, 120, false⟩] [⟨10, 40, 240⟩, ⟨11, 0, 60⟩]).b = 260 := by decide

/-- Section 6.6: the forward interpolation, the measurement, the trim step. -/
theorem test_trim :
    fractionAt valve 521 = 341 ∧
    positionShare { calibrated with counter := 939 } = 521 ∧
    positionShare { calibrated with counter := 1203, stroke := some 1200 } = 1000 ∧
    positionShare { calibrated with counter := -5 } = 0 ∧
    (measure { station.meter with pulses := 41520, old := 40920, remainder := 750 } 750).flow = some 720 ∧
    (measure { station.meter with pulses := 41520, old := 40920, remainder := 750 } 750).meter.total = 6 ∧
    (measure { station.meter with pulses := 41520, old := 40920, remainder := 750 } 750).meter.remainder = 750 ∧
    nextTrim 1040 998 = 1035 := by decide

/-- R103 and R108: after step 1 the last P is new; after step 2 M is new and the factor old; after step 3 the update has
ended. By hand: P = 300 × 1000 / 1000 at full stroke, M = 700 × 10 × 120 / 1000, c_target = 1000 × 840 / 300 = 2800 and
c = 1000 + 1800 / 8. -/
theorem test_trim_in_steps :
    let s : State := beginTrim { setChannel station 0 { calibrated with counter := 1800 } with
      meter := { station.meter with pulses := 700 }, valves := { station.valves with activity := false } }
    let seen (t : State) := (t.valves.lastP, t.meter.flow, t.valves.trim)
    seen s = (0, 0, 1000) ∧ seen (trimSteps 1 s) = (300, 0, 1000) ∧ seen (trimSteps 2 s) = (300, 840, 1000) ∧
    seen (trimSteps 3 s) = (300, 840, 1225) ∧ (trimSteps 3 s).valves.update = none ∧
    (trimSteps 3 s).valves.lastTarget = some 2800 := by decide

/-- R103: a warm reset between the measurement and the judgment keeps the factor and what the measurement added to the
volume total, and the counter starts afresh. -/
theorem test_trim_abandoned :
    let s : State := beginTrim { station with meter := { station.meter with pulses := 700 } }
    let t := after (trimSteps 2 s) (.warmReset 0 none)
    t.valves.trim = 1000 ∧ t.valves.update = none ∧ t.meter.total = 7 ∧ t.meter.flow = 0 := by decide

/-- Section 6.7, passes 2, 8 and 4: the jump, the fourth zero sample, the recovery. -/
theorem test_meter_moves :
    (measure { station.meter with pulses := 4000 } 820).fault = some (1, 4800) ∧
    (measure { station.meter with zeroRun := 3 } 810).fault = some (2, 810) ∧
    (measure { station.meter with state := .suspect, pulses := 695, recoveryRun := 1 } 820).meter.state = .good ∧
    nextTrim 1003 1020 = 1005 := by decide

/-- Section 1.10: boost and dry-out pushed, BOOST taken from under, AWAY refused with code 3. -/
theorem test_chain_sequence :
    let s1 := (push station 0 .boostPush 5 none).1
    let s2 := (push s1 0 (.dryPush .one) 6 none).1
    let s3 := withdraw s2 0 .boost
    (s2.loops.get 0).map (·.chain) = some [⟨1, .base⟩, ⟨5, .boost⟩, ⟨6, .dryout .one⟩] ∧
    (s3.loops.get 0).map (fun l => (l.chain, l.boost)) = some ([⟨1, .base⟩, ⟨6, .dryout .one⟩], none) ∧
    attachCheck s3 [⟨1, .base⟩, ⟨6, .dryout .one⟩] .baseSwitch 3 = some 3 ∧
    attachCheck s3 [⟨1, .base⟩, ⟨6, .dryout .one⟩] .baseSwitch 2 = none := by decide

/-- Section 7.12: the limits of the drive out and of the drive back, the seat. -/
theorem test_move_limits :
    moveLimit station { calibrated with live := some 1400 } = 102000 ∧
    moveLimit station { calibrated with counter := 1002, live := some 0 } = 102200 ∧
    nearSeat { calibrated with counter := 12, stroke := some 2000 } = true ∧
    nearSeat { calibrated with counter := 140, stroke := some 2000 } = false := by decide

/-- Section 7.13: the band of an expected stroke of 1500 counts. -/
theorem test_stroke_band :
    strokeAccepted station 0 1350 = true ∧ strokeAccepted station 0 1650 = true ∧ strokeAccepted station 0 1349 = false ∧
    strokeAccepted station 0 1180 = false := by decide

/-- Section 8.5: in DEFROST a CALIBRATE entry is passed over and the lowest free slot is taken. -/
theorem test_grant_past_a_calibration :
    nextGrant ⟨[⟨3, .calibrate⟩, ⟨2, .move⟩], ⟨[none, none, some ⟨6, .move⟩], rfl⟩, true⟩ = some (0, ⟨2, .move⟩) ∧
    nextGrant ⟨[⟨3, .calibrate⟩], ⟨[none, none, none], rfl⟩, true⟩ = none := by decide

/-- Section 11.7: the masked slot, the pointer, the overflow flag. -/
theorem test_fault_sequence :
    let r0 : Recorder := { Recorder.reset with
      slots := ⟨[⟨0x2C, 40, false, false, none⟩, ⟨0x181, 41, true, false, none⟩, ⟨0, 0, false, false, none⟩,
        ⟨0, 0, false, false, none⟩], rfl⟩ }
    let s1 := report { station with recorder := r0 } ⟨.probeFault, 7, 1, 4095, none⟩
    let s2 := report s1 ⟨.stallBlocked, 5, 640, 120, none⟩
    s1.recorder.pointer = some .probeFault ∧ (s1.recorder.slots.get 1).latest = some ⟨.probeFault, .internal, 7⟩ ∧
    s1.bus.alert = none ∧ s2.recorder.overflow = true ∧ s2.recorder.pointer = some .probeFault ∧
    s2.bus.alert = some ⟨4, 1, [1, 40, 3, 1, 0, 5]⟩ := by decide

/-- R149 and R172, byte by byte and bit by bit. The expected check is the published value of this CRC over the nine digits
(PRESUMED, assumption 35: not in the manual). -/
theorem test_crc :
    crc16 [0x31, 0x32, 0x33, 0x34, 0x35, 0x36, 0x37, 0x38, 0x39] = 0x29B1 ∧
    crcBits (([0x31, 0x32, 0x33, 0x34, 0x35, 0x36, 0x37, 0x38, 0x39] : List Byte).flatMap fieldBits) = 0x29B1 := by
  decide +kernel

/-- R167: an image of a header and a check word only is whole; one word changed spoils its sum; a longer length than
the memory is MISSING. -/
theorem test_image_checks :
    (checkImage (some [1, 3, 0xFFFB])).status = .ok ∧ (checkImage (some [1, 3, 0xFFFC])).status = .badSum ∧
    (checkImage (some [2, 3, 0xFFFA])).status = .badFormat ∧ (checkImage (some [1, 4, 0xFFFA])).status = .missing ∧
    (checkImage none).status = .missing := by decide

/-- Section 12.4 and R168: a floor maximum of 38.00 °C fails profile 9 at its field 6, a Q_max below Q_des loop 3 at
field 7. -/
theorem test_record_judgment :
    judgeProfile ⟨9, [0, 0, 0, 0, 0, 3800, 300, 0, 1, 0]⟩ = some 6 ∧
    judgeLoop ⟨3, [1, 1, 1, 180, 500, 300, 170, 300, 0, 1, 2, 3, 4, 5, 1500]⟩ = some 7 ∧
    judgeLoop ⟨3, [0, 99]⟩ = none := by decide

/-- Section 13.2: the ten core bytes, worked by hand: R = 900, B = 0, G = 714, M = 720, 4 calling, 1 out of service,
capable, HEATING. -/
theorem test_core_bytes :
    coreBytes ⟨900, 0, 714, 720, 4, 1, true, false, false, .heating⟩ =
      [0x03, 0x84, 0, 0, 0x02, 0xCA, 0x02, 0xD0, 0x41, 0x80] := by decide

/-! ## One step -/

/-- R97: the count wraps. -/
theorem test_meter_pulse_wraps :
    (after { station with meter := { station.meter with pulses := 65535 } } .meterPulse).meter.pulses = 0 := by decide

/-- R110: low-low to low-high is toward open, to high-low toward closed, to high-high illegal. -/
theorem test_feedback_edges :
    ((after station (.feedbackEdge 0 false true)).channels.get 0).counter = 401 ∧
    ((after station (.feedbackEdge 0 true false)).channels.get 0).counter = 399 ∧
    ((after station (.feedbackEdge 0 true true)).channels.get 0).illegalTotal = 1 := by decide

/-- R170, R169: a start in FALLBACK calibrates three channels at once and queues the other nine. -/
theorem test_start_in_fallback :
    let t := after State.reset .stationStart
    t.loader.state = .fallback ∧ t.arbiter.queue.length = 9 ∧ (t.channels.get 2).state = .calClose ∧
    (t.channels.get 3).state = .queued := by decide +kernel

/-- The pass that the timer's expiry begins, after it has made `k` steps. -/
def passing (k : Nat) (s : State) : State := passSteps k (openVisit (elapse (passLeft s) s))

/-- R46 with no probe and no peer: room 1 at 20.40 °C against 21.00 °C, flag clear, I = 0: d = 3 + 150. -/
theorem test_pass :
    let t := passing 12 station
    (t.engine.loops.get 0).integrator = 300 ∧ (t.engine.loops.get 0).dLast = some 153 ∧
    (t.engine.loops.get 0).qReq = 27 := by decide

/-- Loops 1 and 2 serve room 1, and a pass is due. -/
def twoLoops : State := { station with
  loops := station.loops.set 1 (some (loopWith [⟨1, .base⟩]))
  channels := station.channels.set 1 calibrated
  engine := { station.engine with timer := some 0 } }

/-- R32: a room report between the readings of two loops of one room. Loop 1 reads 20.40 °C against 21.00 °C, d = 3 + 150;
loop 2 reads 20.90 °C, e = 10, I = 50, d = 0 + 25. -/
theorem test_pass_in_pieces :
    let s := passing 1 twoLoops
    let u := after { s with bus := { s.bus with rx := [⟨2, 16, [1] ++ s16 2090 ++ s16 2100 ++ [0]⟩] } } .roomReport
    let t := passSteps 37 u
    s.engine.visit.isSome = true ∧ (t.engine.loops.get 0).dLast = some 153 ∧ (t.engine.loops.get 1).dLast = some 25 ∧
    t.engine.visit = none ∧ t.engine.work.isSome = true := by decide +kernel

/-- R75: loops 1 and 2 hold 9 l/h and 77 counts from the pass before. Stages 1 and 2 leave each its old allocation; stage 4
gives loop 1 its new one (F_src 1000 l/h: all that it asked) beside its old target and the old one of loop 2; stage 6 gives
it its target. -/
theorem test_mid_pass_values :
    let old : EngineLoop := { EngineLoop.reset with qAlloc := 9, lastTarget := some 77 }
    let s : State := { twoLoops with
      config := { twoLoops.config with fallbackSrc := 1000 }
      engine := { twoLoops.engine with loops := (twoLoops.engine.loops.set 0 old).set 1 old } }
    let seen (k : Nat) (n : Fin 12) :=
      let e := (passing k s).engine.loops.get n
      (e.qReq, e.qAlloc, decide (e.lastTarget = some 77))
    seen 1 0 = (27, 9, true) ∧ seen 1 1 = (0, 9, true) ∧ seen 12 1 = (27, 9, true) ∧ seen 13 0 = (27, 9, true) ∧
    seen 14 0 = (27, 27, true) ∧ seen 14 1 = (27, 9, true) ∧ seen 15 0 = (27, 27, false) ∧
    seen 15 1 = (27, 9, true) ∧ seen 17 1 = (27, 27, false) ∧ (passing 17 s).engine.visit.isSome = true ∧
    (passing 18 s).engine.visit = none := by decide +kernel

/-- R41: the tenth pass reading still supplies the held value and fails the channel; the ninth does not fail it. -/
theorem test_tenth_hold :
    let held (count : Nat) : State := { station with scanner := { station.scanner with
      probes := station.scanner.probes.set 0 { Probe.reset with state := .held, held := some 3049, holdCount := count } } }
    ((passing 0 (held 9)).scanner.probes.get 0).state = .failed ∧
    ((openPass (held 9)).probes.get 0) = (.held, some 3049) ∧
    ((passing 0 (held 8)).scanner.probes.get 0).holdCount = 9 ∧
    ((after (held 8) (.probeHoldExpiry 0)).scanner.probes.get 0).holdCount = 8 := by decide +kernel

/-- R25, R29: a BOOST report stores the mode and sends the notice; R14, R15: the notice pushes BOOST for 60 min. -/
theorem test_boost_report :
    let s := after (receiving [⟨2, 16, [1, 0x07, 0xF8, 0x08, 0x34, 4]⟩]) .roomReport
    (roomRecord s 1).map (·.mode) = some .boost ∧ s.rooms.notices.length = 1 := by decide

theorem test_boost_notice :
    ((finishNotice (beginNotice station ⟨1, .comfort, .boost, ⟨2, 16, []⟩⟩)).loops.get 0).bind (·.boost) = some 3600000 := by
  decide

/-- R7, R14, R18: a notice that takes loops 1 and 2 out of BOOST is four events; after three of them loop 2 has lost its BOOST
entry and keeps its base, and a warm reset ends the notice there. -/
theorem test_notice_in_pieces :
    let boosted := some (loopWith [⟨1, .base⟩, ⟨5, .boost⟩])
    let s : State := { twoLoops with loops := (twoLoops.loops.set 0 boosted).set 1 boosted }
    let v := beginNotice s ⟨1, .boost, .eco, ⟨2, 16, []⟩⟩
    let chains (k : Nat) :=
      (((times noticeStep k v).loops.get 0).map (·.chain), ((times noticeStep k v).loops.get 1).map (·.chain))
    chains 1 = (some [⟨1, .base⟩], some [⟨1, .base⟩, ⟨5, .boost⟩]) ∧ chains 3 = (some [⟨2, .base⟩], some [⟨1, .base⟩]) ∧
    (times noticeStep 3 v).visiting.isSome = true ∧ chains 4 = (some [⟨2, .base⟩], some [⟨2, .base⟩]) ∧
    (times noticeStep 4 v).visiting = none ∧ (after (times noticeStep 3 v) (.warmReset 0 none)).visiting = none := by
  decide

/-- R81, R135: DEFROST sets the arbiter's view. -/
theorem test_source_defrost :
    (after (receiving [⟨1, 9, [1, 0x0B, 0xB8, 0x03, 0x84, 0x0B, 0xB8]⟩]) .sourceReport).arbiter.defrost = true := by
  decide

/-- R141: a second that is due when the change into PAUSED comes first is not counted. R139, R144: a kept program whose
step lies beyond the new table is DONE at its last step with its hours as they were. -/
theorem test_program_pauses_and_ends :
    let s := { receiving [⟨1, 9, [2, 0, 0, 0, 0, 0, 0]⟩] with programOne := ⟨.running, some 1, 0, ⟨3599, 1000⟩, [0]⟩ }
    (after s .sourceReport).programOne = ⟨.paused, some 1, 0, ⟨3599, 0⟩, [0]⟩ ∧
    (checkKept { station with programOne := ⟨.running, some 3, 5, ⟨0, 0⟩, [0]⟩ } .one).programOne =
      ⟨.done, some 2, 5, ⟨0, 0⟩, []⟩ := by decide

/-- R149: a frame that ends within its length is counted, and its carried check is 0. -/
theorem test_frame_cut_within_its_length :
    let t := after station (.frameReceived ⟨2, 17, none, [], none, [true, false]⟩)
    t.bus.frameCheck = 1 ∧ (t.recorder.kinds.get (kindIndex .frameCheck)).status = true ∧ t.bus.rx = [] := by
  decide +kernel

/-- A START_DRYOUT 1 that has begun. -/
def started (s : State) : State := { s with
  programOne := { s.programOne with members := [] }
  operation := some ⟨.one, s.programOne, .push (request 5 [1]) 6 true [0]⟩ }

/-- R140: START_DRYOUT 1 is answered OK with the set of its loop. -/
theorem test_start_dryout :
    let t := finishDry (started station)
    t.programOne.state = .running ∧ t.bus.reply = some ⟨6, 1, [10, 5, 0, 0, 0, 0, 1]⟩ ∧ t.operation = none := by decide

/-- R139: a warm reset after the push leaves the instance of before; once RUNNING is set it leaves RUNNING with the empty member
set of before; and a refusal that was reported stays recorded beside the instance of before. -/
theorem test_start_abandoned :
    let s : State := { station with programOne := ⟨.aborted, some 2, 5, ⟨7, 0⟩, []⟩ }
    let cut (k : Nat) (s : State) : State := after (times dryStep k (started s)) (.warmReset 0 none)
    let refusing := setLoop s 0 (loopWith [⟨3, .base⟩])
    (times dryStep 1 (started s)).programOne.members = [0] ∧
    (cut 1 s).programOne = ⟨.aborted, some 2, 5, ⟨0, 0⟩, []⟩ ∧ (cut 2 s).programOne = ⟨.running, some 1, 0, ⟨0, 0⟩, []⟩ ∧
    (cut 2 s).bus.reply = none ∧ (cut 1 refusing).programOne = ⟨.aborted, some 2, 5, ⟨0, 0⟩, []⟩ ∧
    (cut 1 refusing).recorder.pointer = some .profileRefused := by decide

/-- R139: a STOP_DRYOUT cut before its report leaves ABORTED with an empty member set and no DRYOUT_ABORTED; cut after it, with
one. -/
theorem test_stop_abandoned :
    let i : DryInstance := ⟨.running, some 2, 1, ⟨7, 0⟩, [0]⟩
    let s : State := { station with
      loops := station.loops.set 0 (some (loopWith [⟨1, .base⟩, ⟨6, .dryout .one⟩]))
      programOne := { i with state := .aborted }
      operation := some ⟨.one, i, .withdraw (some (request 6 [1])) [0]⟩ }
    let cut (k : Nat) : State := after (times dryStep k s) (.warmReset 0 none)
    ∀ k ∈ [0, 1, 2, 3], (cut k).programOne = ⟨.aborted, some 2, 1, ⟨0, 0⟩, []⟩ ∧ (cut k).operation = none ∧
      ((cut k).recorder.kinds.get (kindIndex .dryoutAborted)).status = decide (k = 3) := by decide

/-- Alert slots 1 and 2 listen for PROBE_FAULT, which has come. -/
def twoAlerts : State :=
  report { station with recorder := { station.recorder with
    slots := ⟨[⟨1, 40, false, false, none⟩, ⟨1, 41, false, false, none⟩, ⟨0, 0, false, false, none⟩,
      ⟨0, 0, false, false, none⟩], rfl⟩ } } ⟨.probeFault, 7, 1, 4095, none⟩

/-- R163: the ALERT of slot 2 replaces that of slot 1, unless that one has entered SENDING in between. -/
theorem test_two_alerts :
    twoAlerts.bus.alert = some ⟨4, 1, [1, 40, 1, 1, 0, 7]⟩ ∧
    (placeAlert twoAlerts).bus.alert = some ⟨4, 1, [2, 41, 1, 1, 0, 7]⟩ ∧ (placeAlert twoAlerts).bus.placing = [] ∧
    (let s := placeAlert (after (after twoAlerts .transmitStart) .arbitrationWon)
     s.bus.tx = .sending .alert ⟨4, 1, [1, 40, 1, 1, 0, 7]⟩ ∧ s.bus.alert = some ⟨4, 1, [2, 41, 1, 1, 0, 7]⟩) := by decide

/-- R167: a load's fault is reported before its end; a warm reset keeps it and begins a load that reports it again. -/
theorem test_load_reports_twice :
    let s := loadStep State.reset
    let t := after s (.warmReset 0 none)
    s.recorder.pointer = some .configFault ∧ s.loader.state = .loading ∧ loadFaults s = [] ∧ s.recorder.overflow = false ∧
    t.recorder.pointer = some .configFault ∧ (loadFaults t).length = 1 ∧ (loadStep t).recorder.overflow = true := by decide

/-- R173: a request for a part beyond the last. -/
theorem test_bad_part :
    (after (receiving [request 4 [3]]) .readTrim).bus.reply = some ⟨6, 1, [10, 4, 2, 3, 2]⟩ := by decide

/-! ## Witnesses: states and operands that meet the hypotheses of each statement -/

/-- The states of the idle step: one with a frame to hand on, one with nothing due; and one for each work in progress, with
nothing due and, while a pass or a trim update is in progress, with a frame to hand on. -/
theorem witness_IdleStep :
    dueEvents (receiving [⟨0, 20, []⟩]) ≠ [] ∧ (receiving [⟨0, 20, []⟩]).pending = [] ∧
    works (receiving [⟨0, 20, []⟩]) = [] ∧ dueEvents station = [] ∧ station.pending = [] ∧ works station = [] ∧
    (∀ x ∈ [(Work.load, State.reset), (.pass, passing 1 twoLoops), (.trim, beginTrim station),
        (.notice, beginNotice station ⟨1, .comfort, .boost, ⟨2, 16, []⟩⟩), (.dryout, started station),
        (.alerts, twoAlerts)],
      works x.2 = [x.1] ∧ dueEvents x.2 = [] ∧ x.2.pending = []) ∧
    (∀ s ∈ [passing 0 (receiving [⟨0, 20, []⟩]), beginTrim (receiving [⟨0, 20, []⟩])],
      dueEvents s ≠ [] ∧ s.pending = [] ∧ works s ≠ []) ∧
    (60 * 1000 + 1000 ≤ (60 + 1) * 1000) := by decide +kernel

/-- Memories too short for a length, a whole image, and one whose sum is spoilt. -/
theorem witness_PowerOnResetBeginsALoad : ([] : List Word16).length < 2 ∧ ([1] : List Word16).length < 2 ∧
    (checkImage (some [1, 3, 0xFFFB])).status = .ok ∧ (checkImage (some [1, 3, 0xFFFC])).status ≠ .ok := by decide

/-- One state for each row of the two groups of R127. -/
theorem witness_WarmReset :
    (station.channels.get 0).state = .idle ∧
    ((driven { calibrated with state := .drivingOpen } .move).channels.get 0).state = .drivingOpen ∧
    ((driven { calibrated with state := .drivingClose } .move).channels.get 0).state = .drivingClose ∧
    ((driven { calibrated with state := .reversing } .move).channels.get 0).state = .reversing ∧
    (let s := joinMove (setChannel station 0 { calibrated with state := .queued }) 0
     (s.channels.get 0).state = .queued ∧ (entryOf s 0).map (·.kind) = some .move) ∧
    (let s := joinCalibrate (setChannel station 0 { calibrated with state := .queued }) 0
     (s.channels.get 0).state = .queued ∧ (entryOf s 0).map (·.kind) = some .calibrate) ∧
    (∀ kind ∈ [OpKind.move, .calibrate],
      let s := driven { calibrated with state := .settling, move := some ⟨kind, none, 0, none, 0, 0⟩ } kind
      (s.channels.get 0).state = .settling ∧ (s.channels.get 0).move.map (·.kind) = some kind) ∧
    (∀ flag ∈ [true, false],
      let s := setChannel station 0 { calibrated with state := .disabled, calibrated := flag }
      (s.channels.get 0).state = .disabled ∧ (s.channels.get 0).calibrated = flag) ∧
    (station.channels.get 1).state = .uncalibrated ∧
    ((driven { calibrated with state := .calClose } .calibrate).channels.get 0).state = .calClose ∧
    ((driven { calibrated with state := .calOpen } .calibrate).channels.get 0).state = .calOpen ∧
    (instanceOf { station with programOne := ⟨.running, some 1, 0, ⟨0, 0⟩, [0]⟩ } .one).state = .running ∧
    (instanceOf { station with programTwo := ⟨.paused, some 1, 0, ⟨0, 0⟩, [0]⟩ } .two).state = .paused ∧
    (∀ k ∈ [0, 1, 2],
      let s := times dryStep k (started station)
      (s.operation.map fun o => (o.prog, decide ((instanceOf s .one).state = o.before.state))) =
        some (.one, decide (k < 2))) := by decide

/-- An image with one loop record, of loop 1, whose COMFORT entry is profile 0. -/
def oneLoopImage : List Word16 := [1, 21, 7, 16, 1, 1, 1, 1, 180, 500, 300, 270, 300, 1, 0, 0, 0, 0, 0, 1500, 0]

/-- Channel 1 calibrated, and channel 1 to be calibrated. -/
theorem witness_StartInNormal :
    let s : State := { State.reset with
      loader := { Loader.reset with imageStatus := .ok, image := oneLoopImage }
      channels := State.reset.channels.set 0 calibrated }
    s.loader.state = .loading ∧ s.loader.imageStatus = .ok ∧
    (∀ p, (instanceOf s p).state ≠ .running ∧ (instanceOf s p).state ≠ .paused) ∧
    ((after s .stationStart).loops.get 0).isSome = true ∧ (after s .stationStart).loops.get 1 = none ∧
    (s.channels.get 0).calibrated = true ∧
    (∀ n, (s.channels.get n).state = .uncalibrated ∨ (s.channels.get n).state = .idle) ∧
    (State.reset.channels.get 0).calibrated = false := by
  refine ⟨by decide, by decide, ?_, by decide +kernel, by decide +kernel, by decide, by decide, by decide⟩
  intro p; cases p <;> decide

/-- A station about to start from an image. -/
def starting (image : List Word16) : State := { State.reset with
  loader := { Loader.reset with imageStatus := .ok, image := image } }

/-- Images without a fault and with one: a loop record of number 13. -/
theorem witness_ImageRecords :
    (∀ image ∈ [oneLoopImage, [1, 21, 7, 16, 13, 1, 1, 1, 180, 500, 300, 270, 300, 1, 0, 0, 0, 0, 0, 1500, 0]],
      (starting image).loader.state = .loading ∧ (starting image).loader.imageStatus = .ok) ∧
    (starting []).loader.warm = false ∧ ({ Loader.reset with warm := true }).warm = true ∧
    imageFaults (Tab.fill 15 none) ((imageSections (oneLoopImage.map BitVec.toNat)).getD []) = [] ∧
    imageFaults (Tab.fill 15 none)
      ((imageSections [1, 21, 7, 16, 13, 1, 1, 1, 180, 500, 300, 270, 300, 1, 0, 0, 0, 0, 0, 1500, 0]).getD []) =
      [(0, 7, 0)] ∧
    (starting []).recorder.pointer = none ∧
    ((starting []).recorder.kinds.get (kindIndex .configFault)).masked = false := by decide +kernel

/-- Profile 6 (DRYOUT, program 1), program 1 of two steps on loop 1, and loop 1. -/
def programImage : List Word16 :=
  [1, 44, 4, 11, 6, 5, 0, 0, 0, 0, 3500, 0, 0, 0, 1, 6, 8, 1, 6, 1, 2, 500, 1, 700, 2] ++
  [7, 16, 1, 1, 1, 1, 180, 500, 300, 270, 300, 1, 0, 0, 0, 0, 0, 1500, 0]

/-- Program 1 kept at each side of each clause: hours below and at the step's duration, at the first and the last step, a
step beyond the table; program 2 kept without a definition; and a program that is not kept. -/
theorem witness_KeptPrograms :
    let s (i : DryInstance) : State := { starting programImage with programOne := i }
    (∀ i ∈ [DryInstance.mk .running (some 1) 0 ⟨0, 0⟩ [0], ⟨.paused, some 1, 1, ⟨0, 0⟩, [0]⟩, ⟨.running, some 2, 2, ⟨0, 0⟩, [0]⟩,
        ⟨.running, some 3, 0, ⟨0, 0⟩, [0]⟩],
      programDef (after (s i) .stationStart) .one = some ⟨6, [0], [⟨500, 1⟩, ⟨700, 2⟩]⟩ ∧
      ((s i).programOne.state = .running ∨ (s i).programOne.state = .paused) ∧ i.members.Nodup) ∧
    (s DryInstance.reset).programOne.state = .idle ∧ (s DryInstance.reset).programTwo.state = .idle ∧
    programDef (after (s DryInstance.reset) .stationStart) .two = none := by decide +kernel

theorem witness_StartInFallback :
    let s : State := { State.reset with
      channels := State.reset.channels.set 1 calibrated, programOne := ⟨.paused, some 2, 3, ⟨0, 0⟩, [0]⟩ }
    s.loader.state = .loading ∧ s.loader.imageStatus ≠ .ok ∧ s.loader.reported = 0 ∧ (loadStep s).loader.reported ≠ 0 ∧
    (∀ n, (s.channels.get n).state = .uncalibrated ∨ (s.channels.get n).state = .idle) ∧
    (instanceOf s .one).state = .paused := by decide

def noticing (before now : RoomMode) (chain : List Entry) : State := { station with
  loops := station.loops.set 0 (some (loopWith chain))
  rooms := { station.rooms with notices := [⟨1, before, now, ⟨2, 16, []⟩⟩] } }

/-- Taken with two entries; refused for want of overrides, of depth, of a BOOST profile, of a defined one. -/
theorem witness_ModeNoticeIntoBoost :
    let s := noticing .comfort .boost [⟨1, .base⟩, ⟨5, .boost⟩]
    profileAt s info.boostEntry = some boost ∧ boost.kind = .boost ∧
    (activeProfile s [⟨1, .base⟩, ⟨5, .boost⟩]).overrides = true ∧ [Entry.mk 1 .base, ⟨5, .boost⟩].length ≤ 2 ∧
    (activeProfile s [⟨1, .base⟩, ⟨6, .dryout .one⟩]).overrides = false ∧
    3 ≤ [Entry.mk 1 .base, ⟨5, .boost⟩, ⟨5, .boost⟩].length ∧ profileAt s 1 = some comfort ∧ comfort.kind ≠ .boost ∧
    profileAt s 15 = none ∧ (s.loops.get 0).map (·.info.room) = some 1 ∧ s.loops.get 1 = none ∧
    (s.loops.get 0).map (boostCode s) = some 0 ∧ boostCode s (loopWith [⟨1, .base⟩, ⟨6, .dryout .one⟩]) = 3 ∧
    boostCode s (loopWith [⟨1, .base⟩, ⟨5, .boost⟩, ⟨5, .boost⟩]) = 4 ∧ s.recorder.pointer = none ∧
    (s.recorder.kinds.get (kindIndex .profileRefused)).masked = false ∧ (∀ m : Fin 12, ¬ m < 0) ∧ s.visiting = none ∧
    (beginNotice s ⟨1, .comfort, .boost, ⟨2, 16, []⟩⟩).visiting =
      some ⟨⟨1, .comfort, .boost, ⟨2, 16, []⟩⟩, (0, .push) :: []⟩ := by decide

/-- From BOOST to COMFORT (the base already held), to ECO (it fits), to AWAY under a program (it does not). -/
theorem witness_ModeNoticeSwitches :
    (∃ k, (noticing .boost .comfort [⟨1, .base⟩, ⟨5, .boost⟩]).rooms.notices = [k] ∧ k.before = .boost ∧
      k.after ≠ .boost ∧ info.comfort = 1) ∧
    (∃ p, profileAt station info.eco = some p ∧ baseKind p.kind = true ∧ p.overrides = true) ∧
    (∃ p, profileAt station info.away = some p ∧ baseKind p.kind = true ∧ p.overrides = false) ∧
    switchCode station [⟨1, .base⟩, ⟨6, .dryout .one⟩] info.away = 3 ∧
    switchCode station [⟨1, .base⟩, ⟨6, .dryout .one⟩] info.eco = 0 ∧ switchCode station [⟨1, .base⟩] 5 = 2 ∧
    (let v := beginNotice station ⟨1, .boost, .eco, ⟨2, 16, []⟩⟩
     (v.visiting.map (·.todo)) = some [(0, .withdraw), (0, .switch)] ∧
     ((noticeStep v).visiting.map (·.todo)) = some [(0, .switch)]) :=
  ⟨⟨_, rfl, rfl, by decide, rfl⟩, ⟨eco, by decide, rfl, rfl⟩, ⟨away, by decide, rfl, rfl⟩, by decide, by decide, by decide,
    by decide, by decide⟩

theorem witness_BoostExpiry :
    let l : Loop := { loopWith [⟨1, .base⟩, ⟨5, .boost⟩] with boost := some 0 }
    ({ station with loops := station.loops.set 0 (some l) }).loops.get 0 = some l ∧ l.boost = some 0 ∧
    l.chain = ⟨1, .base⟩ :: [⟨5, .boost⟩] := by decide

def roomFrame (number sender : Nat) (temperature : Int) (mode : Nat) : Frame :=
  ⟨2, BitVec.ofNat 6 sender, [u8 number] ++ s16 temperature ++ s16 2100 ++ [u8 mode]⟩

/-- Taken at both ends of the temperature range; refused just outside it and for mode 5; ignored for sender 15, for
room 0 and for a room without a record. -/
theorem witness_RoomReport :
    (∀ f ∈ [roomFrame 1 16 (-2000) 4, roomFrame 1 16 5001 0, roomFrame 1 15 2000 0, roomFrame 0 16 2000 0],
      requestOpen (receiving [f]) = false ∧ (receiving [f]).bus.rx.head? = some f ∧ f.kind = 2 ∧ roomRecord (receiving [f]) 1 = some room) ∧
    (∀ z ∈ [(-2000 : Int), 5000], readRoom (roomFrame 1 16 z 4).content = some ⟨1, z, 2100, 4, none⟩) ∧
    roomModeOf 4 = some .boost ∧ roomRecord station 1 = some room ∧
    (∀ z ∈ [(-2001 : Int), 5001], readRoom (roomFrame 1 16 z 0).content = some ⟨1, z, 2100, 0, none⟩) ∧
    readRoom (roomFrame 1 16 2000 5).content = some ⟨1, 2000, 2100, 5, none⟩ ∧
    (roomFrame 1 15 2000 0).sender.toNat < 16 ∧ (roomFrame 1 16 2000 0).sender.toNat = 16 ∧
    readRoom (roomFrame 0 16 2000 0).content = some ⟨0, 2000, 2100, 0, none⟩ ∧ roomRecord station 2 = none := by decide

theorem witness_RoomAges :
    let s (st : RoomState) : State :=
      { station with rooms := { station.rooms with records := [{ room with state := st }] } }
    (∀ st ∈ [RoomState.fresh, .held, .never], roomRecord (s st) 1 = some { room with state := st }) ∧
    station.loops.get 0 = some (loopWith [⟨1, .base⟩]) ∧ info.room = 1 ∧ (∀ m : Fin 12, ¬ m < 0) := by decide

theorem witness_Linearisation : (96 ≤ 96 ∧ 96 ≤ 3999) ∧ (96 ≤ 3999 ∧ 3999 ≤ 3999) ∧ 31 ≤ 31 := by decide

def probing (p : Probe) : State := { station with
  scanner := { station.scanner with probes := station.scanner.probes.set 0 p, round := [0] } }

/-- Codes at the ends of the classes, and both sides of the third out-of-range sample. -/
theorem witness_SampleOfAGoodProbe :
    ((probing { Probe.reset with state := .good, samples := [3000], filtered := some 3000 }).scanner.probes.get 0).state =
      .good ∧ (probing Probe.reset).scanner.round = [0] ∧
    (96 ≤ (96 : BitVec 12).toNat ∧ (3999 : BitVec 12).toNat ≤ 3999) ∧
    ((95 : BitVec 12).toNat < 96 ∧ 4000 ≤ (4000 : BitVec 12).toNat) ∧
    ((probing { Probe.reset with state := .good, outRun := 1 }).scanner.probes.get 0).outRun < 2 ∧
    2 ≤ ((probing { Probe.reset with state := .good, outRun := 2 }).scanner.probes.get 0).outRun := by decide

/-- Each state, and both sides of the third in-range sample. -/
theorem witness_SampleOfARecoveringProbe :
    (∀ st ∈ [ProbeState.starting, .held, .failed],
      ((probing { Probe.reset with state := st, samples := [1, 2] }).scanner.probes.get 0).state = st ∧
      2 ≤ ((probing { Probe.reset with state := st, samples := [1, 2] }).scanner.probes.get 0).samples.length ∧
      ((probing { Probe.reset with state := st, samples := [1] }).scanner.probes.get 0).samples.length < 2) ∧
    ((probing { Probe.reset with state := .starting, outRun := 1 }).scanner.probes.get 0).outRun < 2 ∧
    2 ≤ ((probing { Probe.reset with state := .starting, outRun := 2 }).scanner.probes.get 0).outRun := by decide

/-- A round; hold counts on both sides of the tenth; probe M 10.01 K above the one GOOD return, and 10.00 K; probe M not GOOD;
a pass in progress. -/
theorem witness_ScanRoundsAndProbeHolds :
    station.scanner.timer = some 2000 ∧ station.engine.timer = some 30000 ∧ station.engine.visit = none ∧
    station.engine.work = none ∧
    (let s := probing { Probe.reset with state := .held, held := some 3049, holdCount := 9 }
     (s.scanner.probes.get 0).state = .held ∧ 9 ≤ (s.scanner.probes.get 0).holdCount ∧ s.engine.timer ≠ none) ∧
    (let s := probing { Probe.reset with state := .held, held := some 3049, holdCount := 8 }
     (s.scanner.probes.get 0).holdCount < 9) ∧
    (∀ m ∈ [(4000 : Int), 4001],
     let s := probing { Probe.reset with state := .good, filtered := some 3000 }
     let t : State := { s with scanner := { s.scanner with
       probes := s.scanner.probes.set 13 { Probe.reset with state := .good, filtered := some m } } }
     (t.scanner.probes.get 13).state = .good ∧ (t.scanner.probes.get 13).filtered = some m ∧ goodReturns t = [3000] ∧
     t.scanner.implausible = false ∧ (finishTrim t).recorder.pointer = none ∧
     (t.recorder.kinds.get (kindIndex .probeFault)).masked = false) ∧
    1000 < ((4001 : Int) - 3000).natAbs ∧ ¬ 1000 < ((4000 : Int) - 3000).natAbs ∧
    (station.scanner.probes.get 13).state ≠ .good ∧ (passing 1 twoLoops).engine.visit ≠ none := by
  decide +kernel

/-- A pass can begin, with and without a trim update in progress; the opening reads a source that is FRESH and one that
is not, a FRESH peer and a STALE one, and probe M with its flag set and clear. -/
theorem witness_PassOpening :
    station.engine.timer = some 30000 ∧ station.engine.visit = none ∧ station.engine.work = none ∧
    station.valves.update = none ∧ (beginTrim station).valves.update ≠ none ∧
    (beginTrim station).engine = station.engine ∧
    (let r : SourceRecord := ⟨.fresh, ⟨0, 0⟩, some .standby, some 900, some 300, some 0⟩
     r.validity = .fresh ∧ r.state = some .standby ∧ r.fSrc = some 900 ∧ r.fMin = some 300) ∧
    station.peers.source.validity ≠ .fresh ∧ station.scanner.implausible = false ∧
    ({ station.scanner with implausible := true }).implausible = true ∧
    (let p (fresh : Bool) : Peer := ⟨1, ⟨700, 0, 0, 0, 0, 0, true, false, false, .heating⟩, ⟨60, 0⟩, fresh⟩
     (openPass { station with peers := { station.peers with peers := [p true] } }).peers = [⟨2, 700, true⟩] ∧
     (openPass { station with peers := { station.peers with peers := [p false] } }).peers = []) := by decide

/-- A pass that has read one of its loops, with the reading that it keeps. -/
theorem passing_law : PassLaw (passing 1 twoLoops) := by
  refine ⟨fun v h => ?_, fun w h => ?_, fun h => absurd (by decide +kernel) h⟩
  · refine ⟨by decide +kernel, ?_⟩
    have key : ((passing 1 twoLoops).engine.visit.map (·.stage)) =
        some (.read ((List.finRange 12).drop 1) [⟨0, comfort, 1800⟩]) := by decide +kernel
    rw [h, Option.map_some, Option.some.injEq] at key
    rw [key]
    exact ⟨1, rfl, by decide +kernel, by decide +kernel⟩
  · have none_ : (passing 1 twoLoops).engine.work = none := by decide +kernel
    rw [none_] at h; cases h

/-- What stage 3 makes of the station's one loop. -/
def oneGrant : PassGrant :=
  grantOf (passing 12 station) [⟨0, comfort, 1800⟩]
    (shareOf (passing 12 station) (openPass (elapse (passLeft station) station)) [⟨0, comfort, 1800⟩])

/-- A pass with one loop after its reading, in stage 4, in stages 5 and 6, and at their end. -/
theorem witness_PassStages :
    let r : LoopReading := ⟨0, comfort, 1800⟩
    (passing 12 station).engine.visit.map (·.stage) = some (.read [] [r]) ∧
    (passing 13 station).engine.visit.map (·.stage) = some (.allocate oneGrant [r]) ∧
    (passing 14 station).engine.visit.map (·.stage) = some (.target oneGrant r []) ∧
    (passing 15 station).engine.visit.map (·.stage) = some (.allocate oneGrant []) ∧
    (station.loops.get 0).isSome = true ∧ (validTable station 0).isSome = true := by decide +kernel

/-- The law of a pass in stage 4. -/
theorem witness_PassLaw_in_stage_four : PassLaw (passing 13 station) := by
  refine ⟨fun v h => ?_, fun w h => ?_, fun h => absurd (by decide +kernel) h⟩
  · refine ⟨by decide +kernel, ?_⟩
    have key := witness_PassStages.2.1
    rw [h, Option.map_some, Option.some.injEq] at key
    rw [key]
    exact ⟨by decide +kernel, by decide +kernel⟩
  · have none_ : (passing 13 station).engine.work = none := by decide +kernel
    rw [none_] at h; cases h

/-- A pass reads its loops: 11 remain, so that 16 more steps leave it in its stages and 38 take it to the end of stage
6; loop 1 has been read in service, and stands out of service with its channel disabled or its table missing; a station
short of bypass; OFF with each park mode; FALLBACK. -/
theorem witness_PassVisits :
    PassLaw (passing 1 twoLoops) ∧
    (passing 1 twoLoops).engine.visit.map (·.stage) =
      some (.read ((List.finRange 12).drop 1) [⟨0, comfort, 1800⟩]) ∧ (passing 1 twoLoops).pending = [] ∧ dueEvents (passing 1 twoLoops) = [] ∧
    works (passing 1 twoLoops) = [.pass] ∧ (passSteps 16 (passing 1 twoLoops)).engine.visit.isSome = true ∧
    (passSteps 38 (passing 1 twoLoops)).engine.work.isSome = true ∧
    (twoLoops.loops.get 0 = some (loopWith [⟨1, .base⟩]) ∧ Servable twoLoops 0 (loopWith [⟨1, .base⟩])) ∧
    (twoLoops.channels.get 0).stroke = some 1800 ∧ twoLoops.loops.get 2 = none ∧
    ((setChannel station 0 { calibrated with state := .disabled }).channels.get 0).state = .disabled ∧
    validTable station 1 = none ∧
    (let s : State := { station with peers := { station.peers with
       source := ⟨.fresh, ⟨0, 0⟩, some .heating, some 60000, some 60000, some 0⟩ } }
     ((passing 38 s).engine.work.map fun w => (w.duty, decide (w.b < w.deficit.getD 0))) = some (true, true)) ∧
    (∀ m ∈ [ParkMode.hold, .close, .park], ({ off with park := m }).kind = .off ∧ ({ off with park := m }).park = m) ∧
    (let s : State := { station with loader := { station.loader with state := .fallback } }
     s.loader.state = .fallback ∧ s.engine.timer = some 30000) ∧ station.loader.state ≠ .fallback :=
  ⟨passing_law, by decide +kernel, by decide +kernel, by decide +kernel, by decide +kernel, by decide +kernel, by decide +kernel,
    ⟨by decide, by decide, by decide, by decide⟩, by decide, by decide, by decide, by decide, by decide +kernel, by decide,
    by decide, by decide⟩

/-- Each state of a room that holds values; each kind of profile; a hold and none; the flag set and clear. -/
theorem witness_Demand :
    (∀ st ∈ [RoomState.never, .fresh, .held, .orphan], let r : Room := { room with state := st }
      r.state = st ∧ r.temperature = some 2040 ∧ r.setpoint = some 2100) ∧
    boost.kind = .boost ∧ off.kind = .off ∧ drying.kind = .dryout ∧ drying.program = some .one ∧
    currentStep { station with programOne := ⟨.running, some 1, 0, ⟨0, 0⟩, [0]⟩ } .one = some ⟨500, 1⟩ ∧
    currentStep (dryStep (started station)) .one = none ∧
    controlKind comfort.kind = true ∧ roomSupply (roomRecord station 1) = some ⟨false, 2040, 2100, none⟩ ∧
    (EngineLoop.reset.dLast = none ∧ EngineLoop.reset.scaled = false ∧ effectiveState station = .heating) := by decide

/-- A pass to be closed, in HEATING and in DEFROST; one that still reads; R at and beyond the band of a sixteenth above and
below 1600; a last report 4999 and 5000 ms old; none. -/
theorem witness_PassClose :
    (let s : State := { station with engine := { station.engine with work := some PassResult.reset } }
     s.engine.work = some PassResult.reset ∧ s.engine.visit = none) ∧
    effectiveState station ≠ .defrost ∧
    effectiveState { station with peers := { station.peers with
      source := ⟨.fresh, ⟨0, 0⟩, some .defrost, some 0, some 0, some 0⟩ } } = .defrost ∧
    ((passing 1 twoLoops).engine.visit).isSome = true ∧ (passing 38 twoLoops).engine.work.isSome = true ∧
    (1700 ≤ 1600 + 1600 / 16 ∧ 1600 ≤ 1700 + 1700 / 16) ∧ 1600 + 1600 / 16 < 1701 ∧
    (1506 + 1506 / 16 = 1600 ∧ 1505 + 1505 / 16 < 1600) ∧ (2000 + 5000 ≤ 7000 ∧ 6999 < 2000 + 5000) ∧
    station.bus.lastReportAt = none := by decide +kernel

def moving (state : ChannelState) (d : Direction) (counter : Int) (live : Nat) : Channel :=
  { calibrated with
    state := state, counter := counter, live := some live, move := some ⟨.move, some d, 0, some 1000, 0, 0⟩ }

theorem slots_of (a : Arbiter) (n : Fin 12) (h : ∀ i, ((a.slots.get i).all fun e => e.channel != n) = true) :
    ¬ holdsSlot a n := by
  rintro ⟨i, e, he, rfl⟩
  have := h i
  rw [he] at this
  simp at this

theorem witness_arbiter (s : State) (hq : s.arbiter.queue = []) (h : ∀ i, s.arbiter.slots.get i = none) :
    ArbiterLaw s.arbiter := by
  refine ⟨by simp [hq], by simp [hq], ?_⟩
  intro i j e f hi
  rw [h] at hi; cases hi

/-- The station keeps the laws of the drive queue, whatever its engine holds. -/
theorem station_drive (e : Engine) : DriveLaw { station with engine := e } ∧ GrantLaw station.arbiter := by
  refine ⟨⟨witness_arbiter _ rfl (by decide : ∀ i, station.arbiter.slots.get i = none),
    (by decide : ∀ n, (entryOf station n).isSome = true ↔ (station.channels.get n).state = .queued),
    fun n => ⟨fun h => ?_, fun h => ?_⟩, fun h => ?_⟩, .inr (by decide)⟩
  · have key : ∀ n i, ((station.arbiter.slots.get i).all fun e => e.channel != n) = true := by decide
    exact absurd h (slots_of _ _ (key n))
  · have : ∀ n, slotState (station.channels.get n).state = false := by decide
    rw [show ({ station with engine := e } : State).channels = station.channels from rfl, this n] at h; cases h
  · exact absurd h (by decide : station.loader.state ≠ .loading)

/-- A station that waits for the close, with a target for channel 1. -/
def closing (target : Nat) : State := { station with engine := { station.engine with
  buffer := station.engine.buffer.set 0 (some target), work := some PassResult.reset } }

/-- Targets 8 and 9 counts from an IDLE channel at the close. -/
theorem witness_CloseSwap : ∀ target ∈ [408, 409],
    (closing target).engine.visit = none ∧ (closing target).engine.work = some PassResult.reset ∧
    effectiveState (closing target) ≠ .defrost ∧ DriveLaw (closing target) ∧ GrantLaw (closing target).arbiter ∧
    (closing target).engine.buffer.get 0 = some target ∧ ((closing target).channels.get 0).state = .idle ∧
    ((closing target).channels.get 0).live = none ∧ (400 - (408 : Int)).natAbs ≤ 8 ∧ 8 < (400 - (409 : Int)).natAbs := by
  intro target _
  refine ⟨rfl, rfl, (by decide : effectiveState station ≠ .defrost), (station_drive _).1, (station_drive station.engine).2,
    rfl, (by decide : (station.channels.get 0).state = .idle), (by decide : (station.channels.get 0).live = none), by decide,
    by decide⟩

/-- Targets on both sides of the deadband of 8 counts. -/
theorem witness_NewTarget :
    (let s : State := { station with engine := { station.engine with buffer := station.engine.buffer.set 0 (some 939) } }
     s.engine.buffer.get 0 = some 939 ∧ (s.channels.get 0).stroke = some 1800 ∧ (s.channels.get 0).calibrated = true ∧
     (s.channels.get 0).state ≠ .disabled) ∧
    station.engine.buffer.get 0 = none ∧ (station.channels.get 0).live ≠ some 400 ∧
    (let c := moving .drivingOpen .open 400 900
     (c.counter + 8 < (409 : Nat) ∧ c.live ≠ some 409) ∧ (c.counter - (408 : Nat)).natAbs ≤ 8 ∧
     (c.counter - (392 : Nat)).natAbs ≤ 8 ∧ ((391 : Nat) : Int) + 8 < c.counter) ∧
    (let c := moving .drivingClose .close 400 0
     (((391 : Nat) : Int) + 8 < c.counter ∧ c.live ≠ some 391) ∧ c.counter + 8 < (409 : Nat)) := by decide

/-- The three cases at their borders. -/
theorem witness_Sharing : (2699 < 2700) ∧ (2700 ≤ 2700 ∧ 800 ≤ 2700) ∧ (800 ≤ 800) ∧ (799 ≤ 2700 ∧ 799 < 800) := by
  decide

theorem witness_Characteristic :
    valve.fractions.length = 11 ∧ valve.fractions.getD 0 0 = 0 ∧ valve.fractions.getD 10 0 = 1000 ∧
    (∀ k : Fin 10, valve.fractions.getD k.val 0 < valve.fractions.getD (k.val + 1) 0) ∧ 10 ≤ valve.minOpening ∧
    valve.minOpening ≤ 200 ∧ (0 < 1 ∧ 1 < 312) ∧ (0 < 311 ∧ 311 < 312) ∧ (0 < 312 ∧ 312 ≤ 312) := by decide

/-- Counting and not; GOOD and SUSPECT; flows at and above the maximum of 3000 l/h; zero runs and recovery runs on both
sides of their ends. -/
theorem witness_Meter :
    station.meter.counting = true ∧ Meter.reset.counting = false ∧ Meter.reset.state = .unconfigured ∧
    station.meter.state ≠ .unconfigured ∧ station.meter.pitch = some 10 ∧ station.meter.maximum = some 3000 ∧
    (2500 - 0) * 10 * 120 / 1000 ≤ 3000 ∧ 3000 < (2501 - 0) * 10 * 120 / 1000 ∧
    ({ station.meter with zeroRun := 3 }).zeroRun = 3 ∧ ({ station.meter with zeroRun := 2 }).zeroRun < 3 ∧
    ({ station.meter with state := .suspect, recoveryRun := 1 }).recoveryRun = 1 ∧
    ({ station.meter with state := .suspect }).recoveryRun = 0 ∧ (200 ≤ 200 ∧ 199 < 200) := by decide

/-- Each judgment: a station that is active, one whose meter is SUSPECT, one without flow, one with flow and P below
200; and a measurement that makes a METER_FAULT. -/
theorem witness_Trim :
    ((beginTrim station).valves.update = some .predict ∧ station.valves.update = none ∧
      (trimSteps 1 (beginTrim station)).valves.update = some .measure ∧
      (trimSteps 2 (beginTrim station)).valves.update = some (.judge .good (some 0))) ∧
    station.valves.activity = true ∧ (measure station.meter 0).fault = none ∧
    (measure { station.meter with pulses := 4000 } 0).fault = some (1, 4800) ∧ station.recorder.pointer = none ∧
    (station.recorder.kinds.get (kindIndex .meterFault)).masked = false ∧ calibrated.stroke = some 1800 ∧
    (station.channels.get 0).state = .idle ∧
    ((driven { calibrated with state := .settling } .move).channels.get 0).state = .settling ∧
    (let quiet : State := { station with valves := { station.valves with activity := false } }
     quiet.valves.activity = false ∧ (measure quiet.meter 0).flow = some 0 ∧ (measure quiet.meter 0).meter.state = .good ∧
     (measure { quiet.meter with state := .suspect } 0).meter.state ≠ .good ∧
     (measure { quiet.meter with pulses := 600 } 0).flow = some (719 + 1) ∧
     predictedFlow quiet = 300 * fractionAt valve 222 / 1000 ∧ predictedFlow quiet < 200 ∧
     200 ≤ predictedFlow (setChannel quiet 0 { calibrated with counter := 1800 })) := by decide

def stationFrame (sender r : Nat) (source : Nat) : Frame :=
  ⟨3, BitVec.ofNat 6 sender, u16 r ++ u16 0 ++ u16 0 ++ u16 0 ++ [0, u8 source]⟩

/-- Senders at the ends of the ranges, a request at and above its limit, source codes 3 and 4. -/
theorem witness_StationReport :
    (∀ f ∈ [stationFrame 0 0 0, stationFrame 1 0 0, stationFrame 8 20000 3, stationFrame 8 20001 4],
      requestOpen (receiving [f]) = false ∧ (receiving [f]).bus.rx.head? = some f ∧ f.kind = 3) ∧
    (stationFrame 0 0 0).sender.toNat = 0 ∧ 8 < (stationFrame 9 0 0).sender.toNat ∧
    (stationFrame 1 0 0).sender.toNat = stationNumber station ∧ (stationFrame 8 0 0).sender.toNat = (7 : Fin 8).val + 1 ∧
    readCore (stationFrame 8 20000 3).content = some ⟨20000, 0, 0, 0, 0, 0, false, false, 0, 3⟩ ∧
    readCore (stationFrame 8 20001 4).content = some ⟨20001, 0, 0, 0, 0, 0, false, false, 0, 4⟩ := by decide

def peer (fresh : Bool) : Peer := ⟨1, ⟨0, 0, 0, 0, 0, 0, false, false, false, .heating⟩, ⟨60, 0⟩, fresh⟩

theorem witness_Peers : ∀ fresh ∈ [true, false],
    ({ station with peers := { station.peers with peers := [peer fresh] } }).peers.peers.find?
      (fun q => q.station == 1) = some (peer fresh) := by decide

def sourceFrame (sender state fSrc fMin : Nat) : Frame :=
  ⟨1, BitVec.ofNat 6 sender, [u8 state] ++ u16 fSrc ++ u16 fMin ++ s16 3000⟩

/-- Taken at the limit of 60000 l/h; malformed just beyond each limit; foreign. A station that sees HEATING, one that leaves
DEFROST, and ones that see STANDBY with a paused program whose step has time left, is at its end, and is the last. -/
theorem witness_SourceReport :
    (∀ f ∈ [sourceFrame 9 3 60000 60000, sourceFrame 8 0 0 0, sourceFrame 9 4 60001 60002],
      requestOpen (receiving [f]) = false ∧ (receiving [f]).bus.rx.head? = some f ∧ f.kind = 1) ∧
    readSource (sourceFrame 9 3 60000 60000).content = some ⟨3, 60000, 60000, 3000⟩ ∧ sourceStateOf 3 = some .fault ∧
    sourceStateOf 0 = some .heating ∧
    (sourceFrame 9 3 60000 60000).sender = 9 ∧ (sourceFrame 8 0 0 0).sender ≠ 9 ∧
    readSource (sourceFrame 9 4 60001 60002).content = some ⟨4, 60001, 60002, 3000⟩ ∧
    effectiveState station = .heating ∧ ({ station.arbiter with defrost := true }).defrost = true ∧
    (let s (step hours : Nat) : State := { station with
       peers := { station.peers with source := ⟨.fresh, ⟨0, 0⟩, some .standby, some 0, some 0, some 0⟩ }
       programOne := ⟨.paused, some step, hours, ⟨0, 0⟩, [0]⟩ }
     effectiveState (s 1 0) ≠ .heating ∧ (instanceOf (s 1 0) .one).state = .paused ∧ stepExhausted (s 1 0) .one = false ∧
     programDef (s 1 1) .one = some ⟨6, [0], [⟨500, 1⟩, ⟨700, 2⟩]⟩ ∧ 1 ≤ (instanceOf (s 1 1) .one).hours ∧
     2 ≤ (instanceOf (s 2 2) .one).hours ∧ (s 1 0).operation = none ∧ finishDry (popped (s 1 0)) = popped (s 1 0)) := by
  decide

theorem witness_SourceStale :
    station.loader.state ≠ .loading ∧ station.peers.source.validity ≠ .stale ∧ station.recorder.pointer = none ∧
    station.operation = none ∧ effectiveState station = .heating ∧
    effectiveState { station with peers := { station.peers with
      source := ⟨.fresh, ⟨60, 0⟩, some .standby, some 0, some 0, some 0⟩ } } ≠ .heating ∧
    (station.recorder.kinds.get (kindIndex .sourceStale)).masked = false := by decide

/-- Each kind of unused frame at its longest; requests from tools 9, 10, 15 and 16. -/
theorem witness_UnusedFrames :
    (∀ f ∈ [Frame.mk 1 9 (List.replicate 6 0), ⟨2, 16, List.replicate 5 0⟩, ⟨3, 2, List.replicate 9 0⟩, ⟨5, 10, [1]⟩,
        ⟨0, 1, []⟩, ⟨4, 1, []⟩, ⟨6, 1, []⟩, ⟨7, 1, []⟩, ⟨15, 1, []⟩],
      requestOpen (receiving [f]) = false ∧ (receiving [f]).bus.rx.head? = some f ∧ handOn f = .unusedFrame) ∧
    requestOpen (started (receiving [⟨0, 1, []⟩])) = true ∧
    (9 : BitVec 6).toNat < 10 ∧ (10 : BitVec 6).toNat = 10 ∧ (15 : BitVec 6).toNat = 15 ∧ 15 < (16 : BitVec 6).toNat ∧
    (2 : Byte).toNat ≠ stationNumber station ∧ (request 2 [0]).content = [1, 2, 0] := by decide

/-- Every request of tool 10 to this station is accepted. -/
theorem accepted_request (code : Byte) (args : List Byte) :
    accepted (receiving [request code args]) (request code args) code args :=
  ⟨rfl, rfl, Nat.le_refl 10, (by decide : (10 : BitVec 6).toNat ≤ 15), rfl, rfl, rfl⟩

theorem witness_Queries :
    accepted (receiving [request 1 [12, 0]]) (request 1 [12, 0]) 1 [BitVec.ofNat 8 ((11 : Fin 12).val + 1), 0] ∧
    (loopParts (receiving []) 11)[0]? = some [0] ∧ ((faultParts (receiving []))[3]?).isSome = true ∧
    ((peerParts (receiving []))[0]?).isSome = true ∧ ((trimParts (receiving []))[2]?).isSome = true :=
  ⟨accepted_request _ _, by decide, by decide, by decide, by decide⟩

theorem all_chains (s : State) (h : ∀ n, (s.loops.get n).all (fun l => chainLaw s l.chain) = true) : ChainsLaw s := by
  intro n l hl
  have := h n
  rw [hl] at this
  simpa using this

theorem witness_QueryParts :
    ChainsLaw station ∧ (∀ e c, station.recorder.record = some e → e.frame = some c → c.bytes.length ≤ 8) ∧
    station.peers.peers.length ≤ 8 ∧
    (∀ k t, station.valves.tables.get k = some t → t.fractions.length = 11) := by
  refine ⟨all_chains _ (by decide), fun e c h => ?_, by decide, ?_⟩
  · exact absurd h (by simp [station, State.reset, Recorder.reset])
  · have key : ∀ k, (station.valves.tables.get k).all (fun t => t.fractions.length == 11) = true := by decide
    intro k t h
    have := key k
    rw [h] at this
    simpa using this

/-- The first part number beyond the last, loop numbers 0 and 13, programs 0 and 3, codes 0 and 11. -/
theorem witness_BadArguments :
    (loopParts (receiving []) 0).length ≤ (3 : Byte).toNat ∧ (loopParts (receiving []) 11).length ≤ (1 : Byte).toNat ∧
    ((0 : Byte).toNat = 0 ∧ 12 < (13 : Byte).toNat) ∧ 4 ≤ (4 : Byte).toNat ∧
    (peerParts (receiving [])).length ≤ (1 : Byte).toNat ∧ 3 ≤ (3 : Byte).toNat ∧
    ((3 : Byte).toNat ≠ 1 ∧ (3 : Byte).toNat ≠ 2) ∧ (10 < (11 : Byte).toNat) ∧
    accepted (receiving [request 1 []]) (request 1 []) 1 [] ∧
    accepted (receiving [request 1 [12]]) (request 1 [12]) 1 [BitVec.ofNat 8 ((11 : Fin 12).val + 1)] ∧
    accepted (receiving [request 9 [1]]) (request 9 [1]) 9 [1] ∧
    accepted (receiving [request 11 [1]]) (request 11 [1]) 11 [1] :=
  ⟨by decide, by decide, by decide, by decide, by decide, by decide, by decide, by decide,
    accepted_request _ _, accepted_request _ _, accepted_request _ _, accepted_request _ _⟩

/-- Program 1 idle, running, and program 2, which is not usable. -/
theorem witness_Dryout :
    accepted (receiving [request 5 [1]]) (request 5 [1]) 5 [BitVec.ofNat 8 (progNumber .one)] ∧
    accepted (receiving [request 6 [2]]) (request 6 [2]) 6 [BitVec.ofNat 8 (progNumber .two)] ∧
    (instanceOf station .one).state ≠ .running ∧ (instanceOf station .one).state ≠ .paused ∧
    programDef station .two = none ∧ programDef station .one = some ⟨6, [0], [⟨500, 1⟩, ⟨700, 2⟩]⟩ ∧
    ([0] : List (Fin 12)).Nodup ∧ attachCheck station [⟨1, .base⟩] (.dryPush .one) 6 = none ∧
    attachCheck station [⟨3, .base⟩] (.dryPush .one) 6 = some 3 ∧ dryCode station .one 6 [⟨1, .base⟩] = 0 ∧
    dryCode station .one 6 [⟨3, .base⟩] = 3 ∧ dryCode station .one 5 [⟨1, .base⟩] = 2 ∧
    (let s : State := { receiving [request 6 [1]] with programOne := ⟨.running, some 1, 0, ⟨0, 0⟩, [0]⟩ }
     accepted s (request 6 [1]) 6 [BitVec.ofNat 8 (progNumber .one)] ∧ (instanceOf s .one).state = .running) ∧
    station.operation = none ∧ finishDry station = station ∧
    (let stage (k : Nat) (s : State) := (times dryStep k s).operation.map (·.stage)
     let f := request 5 [1]
     stage 0 (started station) = some (.push f 6 true [0]) ∧ stage 1 (started station) = some (.push f 6 true []) ∧
     stage 2 (started station) = some (.reply f .started) ∧
     stage 2 (started (setLoop station 0 (loopWith [⟨3, .base⟩]))) = some (.reply f (.refused true)) ∧
     (times dryStep 1 (started (setLoop station 0 (loopWith [⟨3, .base⟩])))).programOne.members = []) ∧
    (let f := request 6 [1]
     let s : State := { station with operation := some ⟨.one, station.programOne, .withdraw (some f) [0]⟩ }
     let stage (k : Nat) := (times dryStep k s).operation.map (·.stage)
     stage 1 = some (.withdraw (some f) []) ∧ stage 2 = some (.abort f) ∧ stage 3 = some (.reply f .stopped)) :=
  ⟨accepted_request _ _, accepted_request _ _, by decide, by decide, by decide, by decide, by decide, by decide, by decide,
    by decide, by decide, by decide, ⟨⟨rfl, rfl, by decide, by decide, rfl, rfl, rfl⟩, rfl⟩, rfl, rfl, by decide, by decide⟩

/-- Channel 1 is in use and channel 12 is not; no channel is in use while no loop is present. -/
theorem witness_Recalibrate :
    accepted (receiving [request 7 [12]]) (request 7 [12]) 7 [12] ∧ 12 < (13 : Byte).toNat ∧
    (1 : Byte).toNat = (0 : Fin 12).val + 1 ∧ channelInUse station 0 = true ∧
    (12 : Byte).toNat = (11 : Fin 12).val + 1 ∧ channelInUse station 11 = false ∧
    (∀ c, channelInUse { station with loops := Tab.fill 12 none } c = false) :=
  ⟨accepted_request _ _, by decide, by decide, by decide, by decide, by decide, by decide⟩

/-- A list of one kind, one cut short, a code of 17; a pointer that the list names and one that it does not. -/
theorem witness_ClearFaults :
    accepted (receiving [request 8 [1, 16]]) (request 8 [1, 16]) 8 [1, 16] ∧
    ((1 : Byte).toNat ≤ 16 ∧ (1 : Byte).toNat ≤ [(16 : Byte)].length ∧
      ∀ c ∈ [(16 : Byte)].take 1, 1 ≤ c.toNat ∧ c.toNat ≤ 16) ∧
    ¬ (2 : Byte).toNat ≤ [(16 : Byte)].length ∧ ¬ (17 : Byte).toNat ≤ 16 ∧
    (16 : Byte).toNat = kindCode .dryoutAborted ∧ (16 : Byte).toNat ≠ kindCode .sourceMalformed :=
  ⟨accepted_request _ _, by decide, by decide, by decide, by decide, by decide⟩

/-- Slots 1 and 4 exist, 0 and 5 do not; values 0, 1 and 2; a slot that pends masked, and one that does not pend. -/
theorem witness_Alerts :
    accepted (receiving [request 9 [4, 0]]) (request 9 [4, 0]) 9 [BitVec.ofNat 8 ((3 : Fin 4).val + 1), 0] ∧
    accepted (receiving [request 9 [5, 0]]) (request 9 [5, 0]) 9 [5, 0] ∧ 4 < (5 : Byte).toNat ∧
    accepted (receiving [request 10 [0]]) (request 10 [0]) 10 [0] ∧ 1 < (2 : Byte).toNat ∧
    (let a : AlertSlot := ⟨1, 41, true, true, some ⟨.probeFault, .internal, 7⟩⟩
     a.masked = true ∧ a.pending = true ∧ a.latest = some ⟨.probeFault, .internal, 7⟩) ∧
    (station.recorder.slots.get 3).pending = false ∧ station.bus.placing = [] ∧ twoAlerts.bus.placing ≠ [] :=
  ⟨accepted_request _ _, accepted_request _ _, by decide, accepted_request _ _, by decide, by decide, by decide, by decide,
    by decide⟩

/-- A step with an hour to run; the first step's end; the last step's end. -/
theorem witness_DryoutSteps :
    let s (step hours : Nat) : State := { station with programOne := ⟨.running, some step, hours, ⟨3599, 1000⟩, [0]⟩ }
    (instanceOf (s 1 0) .one).state = .running ∧ stepExhausted (s 1 0) .one = false ∧
    (programDef (s 1 1) .one).map (·.steps) = some [⟨500, 1⟩, ⟨700, 2⟩] ∧ 1 ≤ (instanceOf (s 1 1) .one).hours ∧
    1 < [DryStep.mk 500 1, ⟨700, 2⟩].length ∧ 2 ≤ (instanceOf (s 2 2) .one).hours ∧
    2 = [DryStep.mk 500 1, ⟨700, 2⟩].length ∧ (instanceOf station .two).state ≠ .running ∧ (s 1 0).operation = none ∧
    finishDry (s 1 0) = s 1 0 ∧
    (let u : State := { s 2 2 with operation := some ⟨.one, (s 2 2).programOne, .withdraw none [0]⟩ }
     u.operation.map (·.stage) = some (.withdraw none [0]) ∧
     (dryStep u).operation.map (·.stage) = some (.withdraw none [])) := by decide

/-- Each clause of an edge in a driving move, at the last value before the next clause, in both drives and from two phase
pairs; drift of 16 and of 17 counts to either side, of an IDLE channel and of one that waits with a MOVE entry; a channel
in another state. -/
theorem witness_Edges :
    station.phases.get 0 = ⟨false, false⟩ ∧ (station.phases.set 0 ⟨true, false⟩).get 0 = ⟨true, false⟩ ∧
    (∀ c ∈ [moving .drivingOpen .open 400 402, moving .drivingOpen .open 400 401],
      entryOf (driven c .move) 0 = none ∧ c.state = .drivingOpen ∧ c.move = some ⟨.move, some .open, 0, some 1000, 0, 0⟩) ∧
    (∀ c ∈ [moving .drivingClose .close 400 398, moving .drivingClose .close 400 399],
      entryOf (driven c .move) 0 = none ∧ c.state = .drivingClose ∧
      c.move = some ⟨.move, some .close, 0, some 1000, 0, 0⟩) ∧
    (¬ ((402 : Nat) : Int) ≤ max (-1024) (min 5119 (400 + 1)) ∧ ((401 : Nat) : Int) ≤ max (-1024) (min 5119 (400 + 1))) ∧
    (¬ max (-1024) (min 5119 ((400 : Int) - 1)) ≤ ((398 : Nat) : Int) ∧
      max (-1024) (min 5119 ((400 : Int) - 1)) ≤ ((399 : Nat) : Int)) ∧
    (min 255 (8 + 1) = 9 ∧ min 255 (7 + 1) < 9) ∧ (3 < 4 ∧ 4 ≤ 4) ∧
    channelInUse station 0 = true ∧ (station.channels.get 0).state = .idle ∧ (station.channels.get 0).move = none ∧
    (∀ x ∈ [(415 : Int), 385], (x + 1 - 400).natAbs ≤ 16 ∧ (x - 1 - 400).natAbs ≤ 16) ∧
    (16 < ((416 : Int) + 1 - 400).natAbs ∧ 16 < ((384 : Int) - 1 - 400).natAbs) ∧
    (let s := joinMove (setChannel station 0 { calibrated with state := .queued }) 0
     (s.channels.get 0).state = .queued ∧ (entryOf s 0).map (·.kind) = some .move) ∧
    (station.channels.get 1).state = .uncalibrated ∧ channelInUse station 1 = false := by decide

/-- The seat at a sixteenth of the stroke and one count above it; first and second blocked stall. -/
theorem witness_StallInAMove :
    (let c := { moving .drivingClose .close 125 0 with stroke := some 2000 }
     c.counter ≤ ((2000 / 16 : Nat) : Int) ∧ c.blocked = 0 ∧ c.move.bind (·.direction) = some .close) ∧
    ((2000 / 16 : Nat) : Int) < (moving .drivingClose .close 126 0).counter ∧
    ({ moving .drivingOpen .open 400 900 with blocked := 1 }).blocked ≠ 0 ∧
    entryOf (driven (moving .drivingOpen .open 400 900) .move) 0 = none ∧
    (driven (moving .drivingOpen .open 400 900) .move).recorder.pointer = none ∧
    (∀ k ∈ [FaultKind.stallBlocked, .moveTimeout, .calibrationFailed],
      (station.recorder.kinds.get (kindIndex k)).masked = false) := by decide

def calibrating (state : ChannelState) (counter : Int) (d : Option Direction) : Channel :=
  { calibrated with state := state, counter := counter, move := some ⟨.calibrate, d, 0, some 1000, 0, 0⟩ }

/-- Strokes at the ends of the band of 1500 counts, and outside it; in FALLBACK strokes at the ends of 200 to 1900 counts, and
outside them. -/
theorem witness_StallInACalibration :
    station.loader.state = .normal ∧ (station.loops.get 0).map (·.info.expectedStroke) = some 1500 ∧
    (calibrating .calClose 610 (some .close)).state = .calClose ∧
    (∀ z ∈ [(1350 : Int), 1650], ((1500 * 900 / 1000 : Nat) : Int) ≤ (calibrating .calOpen z (some .open)).counter ∧
      (calibrating .calOpen z (some .open)).counter ≤ ((1500 * 1100 / 1000 : Nat) : Int)) ∧
    (calibrating .calOpen 1349 (some .open)).counter < ((1500 * 900 / 1000 : Nat) : Int) ∧
    (calibrating .calOpen 199 (some .open)).counter < 200 ∧
    (let s : State := { driven (calibrating .calOpen 1900 (some .open)) .calibrate with
       loader := { station.loader with state := .fallback } }
     s.loader.state = .fallback ∧ (s.channels.get 0).state = .calOpen ∧ s.recorder.pointer = none) ∧
    (∀ z ∈ [(200 : Int), 1900], 200 ≤ (calibrating .calOpen z (some .open)).counter ∧
      (calibrating .calOpen z (some .open)).counter ≤ 1900) ∧
    1900 < (calibrating .calOpen 1901 (some .open)).counter := by decide

theorem witness_TimeLimits :
    (∀ c ∈ [moving .drivingOpen .open 400 900, moving .drivingClose .close 400 0],
      entryOf (driven c .move) 0 = none ∧
      (((driven c .move).channels.get 0).state = .drivingOpen ∨ ((driven c .move).channels.get 0).state = .drivingClose)) ∧
    (∀ c ∈ [calibrating .calClose 400 (some .close), calibrating .calOpen 400 (some .open)],
      (c.state = .calClose ∨ c.state = .calOpen) ∧ (c.move.bind (·.direction)).isSome = true) := by decide

/-- Both kinds of settling; a target within the deadband and one beyond it. -/
theorem witness_SettlingsEnd :
    (∀ kind ∈ [OpKind.move, .calibrate],
      let s := driven { calibrated with
        state := .settling, move := some ⟨kind, none, 0, none, 0, 0⟩, live := some 408, wait := some 0 } kind
      (s.channels.get 0).state = .settling ∧ (s.channels.get 0).move = some ⟨kind, none, 0, none, 0, 0⟩ ∧
      entryOf s 0 = none ∧ aim (s.channels.get 0) = none) ∧
    aim { calibrated with live := some 409 } ≠ none := by decide

/-- Targets on both sides of the deadband after a reversal; a dead interval in CAL_OPEN. -/
theorem witness_DeadIntervalsEnd :
    (let c : Channel := { moving .reversing .open 400 409 with move := some ⟨.move, none, 0, none, 0, 2⟩, wait := some 0 }
     c.state = .reversing ∧ c.counter + 8 < ((409 : Nat) : Int) ∧ ((391 : Nat) : Int) + 8 < c.counter ∧
     (c.counter - ((408 : Nat) : Int)).natAbs ≤ 8) ∧
    (calibrating .calOpen 0 none).state = .calOpen ∧
    (calibrating .calOpen 0 none).move = some ⟨.calibrate, none, 0, some 1000, 0, 0⟩ := by decide

/-- An idle channel and a disabled one in a station whose queue keeps its law. -/
theorem witness_CalibrationRequest :
    ArbiterLaw station.arbiter ∧ channelInUse station 0 = true ∧ (station.channels.get 0).state = .idle ∧
    ¬ holdsSlot station.arbiter 0 ∧
    ((setChannel station 0 { calibrated with state := .disabled }).channels.get 0).state = .disabled ∧
    ((driven (calibrating .calClose 400 (some .close)) .calibrate).channels.get 0).state = .calClose ∧
    ((driven (moving .drivingOpen .open 400 900) .move).channels.get 0).state = .drivingOpen ∧
    channelInUse (driven (moving .drivingOpen .open 400 900) .move) 0 = true :=
  ⟨witness_arbiter _ rfl (by decide), by decide, by decide, slots_of _ _ (by decide), by decide, by decide, by decide,
    by decide⟩

/-- The queue of a station in DEFROST: a calibration waits before a MOVE of channel 1, and slot 1 is held. -/
def waiting (kind : OpKind) (live : Option Nat) (defrost : Bool) : State := { station with
  channels := station.channels.set 0 { calibrated with state := .queued, live := live }
  arbiter := ⟨(if kind = .move then [⟨3, .calibrate⟩] else []) ++ [⟨0, kind⟩],
    ⟨[some ⟨6, .move⟩, none, none], rfl⟩, defrost⟩ }

/-- A MOVE past a calibration in DEFROST, 9 counts from its target, 8 counts, and without one; a CALIBRATE; and a queue at
rest. -/
theorem witness_Grants :
    (∀ live ∈ [some 409, some 408, none],
      let s := waiting .move live true
      s.arbiter.queue = [⟨3, .calibrate⟩] ++ ⟨0, .move⟩ :: [] ∧ s.arbiter.defrost = true ∧
      s.arbiter.slots.get 1 = none ∧ (∀ j, j < 1 → s.arbiter.slots.get j ≠ none) ∧
      (s.channels.get 0).state = .queued ∧ (s.channels.get 0).live = live ∧ (s.channels.get 0).counter = 400 ∧
      ((s.arbiter.slots.get 0).all fun e => e.channel != 0) = true ∧ s.arbiter.slots.get 2 = none) ∧
    (8 < ((400 : Int) - (409 : Nat)).natAbs ∧ ((400 : Int) - (408 : Nat)).natAbs ≤ 8) ∧
    (let s := waiting .calibrate none false
     s.arbiter.queue = [] ++ ⟨0, .calibrate⟩ :: [] ∧ s.arbiter.defrost = false ∧ (s.channels.get 0).state = .queued) ∧
    GrantLaw (waiting .calibrate none true).arbiter :=
  ⟨by decide, by decide, by decide, .inr (by decide)⟩

/-- A masked kind and an unmasked one; an empty pointer; a slot that listens, masked and not. -/
theorem witness_Fault :
    (station.recorder.kinds.get (kindIndex .frameCheck)).masked = true ∧
    (station.recorder.kinds.get (kindIndex .probeFault)).masked = false ∧ station.recorder.pointer = none ∧
    station.recorder.enable = true ∧ (AlertSlot.mk 1 0 true false none).kinds.getLsbD (kindIndex .probeFault).val = true ∧
    station.bus.placing = [] ∧ twoAlerts.bus.placing ≠ [] ∧ twoAlerts.recorder.enable = true := by
  decide

/-- A good frame, and frames that end within the length, in mid-byte, after the content and within the check, with room in the
queue; a queue of eight. -/
theorem witness_FrameReceived :
    station.loader.state ≠ .loading ∧ station.bus.rx.length < 8 ∧
    8 ≤ (receiving (List.replicate 8 ⟨0, 20, []⟩)).bus.rx.length ∧
    (let f : RxFrame := ⟨0, 20, some 0, [], some (crc16 (envelope 0 20 0 ++ [])), []⟩
     f.length = some 0 ∧ (0 : BitVec 6).toNat ≤ 60 ∧ f.content.length = (0 : BitVec 6).toNat ∧
     f.check = some (crc16 (envelope f.kind f.sender 0 ++ f.content)) ∧ frameGood f = true) ∧
    (∀ f ∈ [RxFrame.mk 0 20 none [] none [true], ⟨0, 20, some 1, [], none, [true, false]⟩, ⟨0, 20, some 1, [7], none, []⟩,
        ⟨0, 20, some 0, [], none, [true]⟩, ⟨0, 20, some 61, List.replicate 61 0, some 0, []⟩],
      frameGood f = false ∧ f.wellFormed = true) := by decide +kernel

theorem witness_Core : 20000 ≤ 20000 ∧ 60000 ≤ 60000 ∧ 12 ≤ 12 := by decide

def line (tx : TxState) : State := { station with bus := { station.bus with tx := tx, report := some ⟨3, 1, []⟩ } }

theorem witness_Transmitter :
    (line .waiting).bus.tx = .waiting ∧ (line .waiting).bus.report ≠ none ∧
    (line (.arbitrating .report)).bus.tx = .arbitrating .report ∧
    txFrame (line (.arbitrating .report)).bus .report = some ⟨3, 1, []⟩ ∧
    (line (.sending .report ⟨3, 1, []⟩)).bus.tx = .sending .report ⟨3, 1, []⟩ ∧ station.bus.report = none ∧
    station.bus.alert = none ∧ ({ station.bus with reply := some ⟨6, 1, []⟩ }).reply ≠ none ∧
    ({ station.bus with alert := some ⟨4, 1, []⟩ }).alert ≠ none := by decide

theorem witness_Reports :
    station.bus.reportTimer = some 2000 ∧ ({ station.bus with extraDue := some 5000 }).extraDue = some 5000 ∧
    (∀ n, station.engine.demands.get n ≤ 1000) := by decide

/-- The station keeps the law of a pass, and so does one with a trim update in progress, and one whose pass has read one of
its loops. -/
theorem witness_PassLaw : PassLaw station ∧ PassLaw (beginTrim station) ∧ PassLaw (passing 1 twoLoops) := by
  refine ⟨⟨fun v h => ?_, fun w h => ?_, fun _ => by decide⟩, ⟨fun v h => ?_, fun w h => ?_, fun _ => by decide⟩,
    passing_law⟩
  · cases (show none = some v from h)
  · cases (show none = some w from h)
  · cases (show none = some v from h)
  · cases (show none = some w from h)

/-- The station keeps every law, and a step leads on from it. -/
theorem witness_Laws :
    ChainsLaw station ∧ RecorderLaw station.recorder ∧ ArbiterLaw station.arbiter ∧ GrantLaw station.arbiter ∧
    DriveLaw station ∧ RangeLaw station ∧ ∃ t, step (station.withPending [.passTimerExpiry]) = .next t :=
  ⟨all_chains _ (by decide), ⟨rfl, by decide, by decide⟩, witness_arbiter _ rfl (by decide),
    (station_drive station.engine).2, (station_drive station.engine).1, by unfold RangeLaw; decide, ⟨_, rfl⟩⟩

end Sys2Proof.Tests
end

section
/-! The law of the chains (R7): which changes keep it, and that every step does. -/

namespace Sys2Proof.Machine

open Sys2Proof

/-! ### The attach checks (R8) -/

theorem firstFailingCheck_eq_zero {defined kind overrides depth program : Bool} :
    firstFailingCheck defined kind overrides depth program = 0 ↔
      defined = true ∧ kind = true ∧ overrides = true ∧ depth = true ∧ program = true := by
  cases defined <;> cases kind <;> cases overrides <;> cases depth <;> cases program <;> decide

/-- The field code of a change: of its first failing check, 0 when all pass. -/
def changeCode (s : State) (chain : List Entry) (c : Change) (number : Fin 16) : Nat :=
  let p := profileAt s number
  firstFailingCheck p.isSome (p.any (kindFits c ·.kind)) (p.any (overridesFit s chain c)) (depthFits chain c)
    (p.any (programFits s c))

theorem attachCheck_eq (s : State) (chain : List Entry) (c : Change) (number : Fin 16) :
    attachCheck s chain c number =
      if changeCode s chain c number = 0 then none else some (changeCode s chain c number) := by
  unfold attachCheck changeCode firstFailingCheck
  cases profileAt s number with
  | none => rfl
  | some p =>
    simp only [Option.isSome_some, Option.any_some, Bool.not_true, Bool.false_eq_true, if_false]
    split_ifs <;> simp_all

theorem attachCheck_eq_none {s : State} {chain : List Entry} {c : Change} {number : Fin 16} :
    attachCheck s chain c number = none ↔ ∃ p, profileAt s number = some p ∧ kindFits c p.kind = true ∧
      overridesFit s chain c p = true ∧ depthFits chain c = true ∧ programFits s c p = true := by
  rw [attachCheck_eq]
  cases hp : profileAt s number with
  | none => simp [changeCode, hp, firstFailingCheck]
  | some p => simp [changeCode, hp, firstFailingCheck_eq_zero]

/-! ### The law reads chains and profiles only -/

theorem profileAt_congr {s t : State} (h : t.config = s.config) : profileAt t = profileAt s := by
  funext k
  simp [profileAt, h]

theorem stacked_congr {s t : State} (h : t.config = s.config) (above : List Entry) :
    ∀ below, stacked t below above = stacked s below above := by
  induction above with
  | nil => intro; rfl
  | cons e above ih => intro below; simp [stacked, carriesOverride, overrideEntry, profileAt_congr h, ih]

theorem chainLaw_congr {s t : State} (h : t.config = s.config) (chain : List Entry) :
    chainLaw t chain = chainLaw s chain := by
  cases chain with
  | nil => rfl
  | cons bottom above => simp [chainLaw, baseEntry, profileAt_congr h, stacked_congr h]

/-- The law of the chains, where it holds before, holds after. -/
def KeepsChains (s t : State) : Prop := ChainsLaw s → ChainsLaw t

theorem KeepsChains.refl (s : State) : KeepsChains s s := id

theorem KeepsChains.trans {s t u : State} (h : KeepsChains s t) (k : KeepsChains t u) : KeepsChains s u := k ∘ h

/-- Every loop keeps its chain, and the profiles are the same. -/
def SameChains (s t : State) : Prop :=
  t.config = s.config ∧ ∀ n, (t.loops.get n).map (·.chain) = (s.loops.get n).map (·.chain)

theorem SameChains.keeps {s t : State} (h : SameChains s t) : KeepsChains s t := by
  obtain ⟨config, chains⟩ := h
  intro law n l hl
  have hc := chains n
  rw [hl] at hc
  obtain ⟨l', hl', same⟩ := Option.map_eq_some_iff.1 hc.symm
  have old := law n l' hl'
  rwa [same, ← chainLaw_congr config] at old

/-- A change of neither the loop table nor the profiles keeps the law. -/
theorem KeepsChains.of_same {s t : State} (config : t.config = s.config) (loops : t.loops = s.loops) :
    KeepsChains s t :=
  SameChains.keeps ⟨config, fun n => by rw [loops]⟩

/-- A change of neither before, or after, a change that keeps the law. -/
theorem KeepsChains.afterSame {s t u : State} (h : KeepsChains t u) (config : t.config = s.config)
    (loops : t.loops = s.loops) : KeepsChains s u :=
  (KeepsChains.of_same config loops).trans h

theorem KeepsChains.thenSame {s t u : State} (h : KeepsChains s t) (config : u.config = t.config)
    (loops : u.loops = t.loops) : KeepsChains s u :=
  h.trans (.of_same config loops)

theorem FaultFrame.keepsChains {s t : State} (h : FaultFrame s t) : KeepsChains s t := by
  obtain ⟨_, _, _, _, rfl⟩ := h
  exact .of_same rfl rfl

theorem DriveFrame.keepsChains {s t : State} (h : DriveFrame s t) : KeepsChains s t := by
  obtain ⟨_, _, _, _, _, _, _, rfl⟩ := h
  exact .of_same rfl rfl

theorem TrimFrame.keepsChains {s t : State} (h : TrimFrame s t) : KeepsChains s t := by
  obtain ⟨_, _, _, _, _, _, rfl⟩ := h
  exact .of_same rfl rfl

theorem elapse_keepsChains (d : Nat) (s : State) : KeepsChains s (elapse d s) := by
  refine SameChains.keeps ⟨elapse_config s d, fun n => ?_⟩
  have h := congrArg (Option.map fun x => x.2.1) (elapse_loop s d n)
  simpa [Option.map_map, Function.comp_def] using h

theorem piece_keepsChains {step : State → State} (h : ∀ s, KeepsChains s (step s)) (k : Nat) (s : State) :
    KeepsChains s (piece step k s) :=
  (times_frame .refl .trans h k s).trans (.of_same rfl rfl)

/-! ### The changes of one chain -/

/-- The law at one loop carries over to the table with that loop replaced. -/
theorem setLoop_keepsChains {s : State} {n : Fin 12} {l : Loop} (h : ChainsLaw s → chainLaw s l.chain = true) :
    KeepsChains s (setLoop s n l) := by
  intro law m k hk
  rw [chainLaw_congr (s := s) (t := setLoop s n l) rfl]
  rw [setLoop_loops, Tab.get_set] at hk
  split at hk
  · cases hk; exact h law
  · exact law m k hk

/-- What stands above an entry may lose entries: the entry below then carries what stood higher (R12). -/
theorem stacked_filter {s : State} {keep : Entry → Bool} (above : List Entry) :
    ∀ below, stacked s below above = true → stacked s below (above.filter keep) = true := by
  induction above with
  | nil => intro below h; exact h
  | cons e above ih =>
    intro below h
    simp only [stacked, Bool.and_eq_true] at h
    obtain ⟨⟨carries, override⟩, higher⟩ := h
    by_cases he : keep e
    · simp [he, stacked, carries, override, ih e higher]
    · rw [List.filter_cons_of_neg he]
      have drop : ∀ {l}, stacked s e l = true → stacked s below l = true := by
        intro l hl
        cases l with
        | nil => rfl
        | cons f l =>
          simp only [stacked, Bool.and_eq_true] at hl ⊢
          exact ⟨⟨carries, hl.1.2⟩, hl.2⟩
      exact drop (ih e higher)

/-- An entry may join at the top when the top carries it (R11). -/
theorem stacked_append {s : State} {e : Entry} (he : overrideEntry s e = true) (above : List Entry) :
    ∀ below, stacked s below above = true → carriesOverride s ((below :: above).getLast (by simp)) = true →
      stacked s below (above ++ [e]) = true := by
  induction above with
  | nil => intro below _ top; simpa [stacked, he] using top
  | cons f above ih =>
    intro below h top
    simp only [stacked, Bool.and_eq_true, List.cons_append] at h ⊢
    exact ⟨h.1, ih f h.2 (by simpa using top)⟩

/-- The profile of every entry of a lawful chain is defined. -/
theorem stacked_defined {s : State} {e : Entry} (above : List Entry) :
    ∀ below, stacked s below above = true → e ∈ above → ∃ p, profileAt s e.profile = some p := by
  induction above with
  | nil => intro _ _ h; cases h
  | cons f above ih =>
    intro below h he
    simp only [stacked, Bool.and_eq_true] at h
    rcases List.mem_cons.1 he with rfl | he
    · have := h.1.2
      unfold overrideEntry at this
      split at this
      · exact ⟨_, ‹_›⟩
      · cases this
    · exact ih f h.2 he

theorem chainLaw_defined {s : State} {e : Entry} {chain : List Entry} (h : chainLaw s chain = true) (he : e ∈ chain) :
    ∃ p, profileAt s e.profile = some p := by
  cases chain with
  | nil => cases he
  | cons bottom above =>
    simp only [chainLaw, Bool.and_eq_true] at h
    rcases List.mem_cons.1 he with rfl | he
    · have := h.1.2
      unfold baseEntry at this
      split at this
      · exact ⟨_, ‹_›⟩
      · cases this
    · exact stacked_defined above bottom h.2 he

/-- What a push that passes its checks finds (R8): its profile is of an override kind, the active profile allows
overrides, and fewer than three entries stand. -/
theorem attachCheck_push {s : State} {chain : List Entry} {c : Change} {k : Fin 16} (hc : c ≠ .baseSwitch)
    (h : attachCheck s chain c k = none) :
    overrideEntry s ⟨k, changeOwner c⟩ = true ∧ (activeProfile s chain).overrides = true ∧ chain.length ≤ 2 := by
  obtain ⟨p, hp, kind, overrides, depth, -⟩ := attachCheck_eq_none.1 h
  have override : baseKind p.kind = false := by
    cases c with
    | baseSwitch => exact absurd rfl hc
    | boostPush => rw [show p.kind = .boost by simpa [kindFits] using kind]; rfl
    | dryPush q => rw [show p.kind = .dryout by simpa [kindFits] using kind]; rfl
  refine ⟨by simp [overrideEntry, hp, override], ?_, ?_⟩
  · cases c with
    | baseSwitch => exact absurd rfl hc
    | boostPush => exact overrides
    | dryPush q => exact overrides
  · cases c with
    | baseSwitch => exact absurd rfl hc
    | boostPush => simpa [depthFits] using depth
    | dryPush q => simpa [depthFits] using depth

theorem push_keepsChains (s : State) (n : Fin 12) {c : Change} (hc : c ≠ .baseSwitch) (k : Fin 16)
    (f : Option Frame) : KeepsChains s (push s n c k f).1 := by
  unfold push
  split
  · exact .refl s
  · rename_i l hl
    split
    · exact (report_frame _ _).keepsChains
    · rename_i passed
      obtain ⟨override, allowed, depth⟩ := attachCheck_push hc passed
      refine setLoop_keepsChains fun law => ?_
      have old := law n l hl
      cases hchain : l.chain with
      | nil => simp [hchain, chainLaw] at old
      | cons bottom above =>
        have top : carriesOverride s ((bottom :: above).getLast (by simp)) = true := by
          rw [hchain] at old
          obtain ⟨p, hp⟩ := chainLaw_defined old (List.getLast_mem (List.cons_ne_nil bottom above))
          simpa [activeProfile, activeNumber, hchain, List.getLast?_eq_some_getLast, hp, carriesOverride] using allowed
        simp only [hchain, chainLaw, Bool.and_eq_true, List.length_cons] at old depth
        simp only [chainLaw, List.cons_append, Bool.and_eq_true, decide_eq_true_eq, List.length_append,
          List.length_singleton]
        exact ⟨⟨by omega, old.1.2⟩, stacked_append override above bottom old.2 top⟩

theorem withdraw_keepsChains (s : State) (n : Fin 12) (o : Owner) : KeepsChains s (withdraw s n o) := by
  unfold withdraw
  split
  · exact .refl s
  · rename_i l hl
    refine setLoop_keepsChains fun law => ?_
    have old := law n l hl
    cases hchain : l.chain with
    | nil => simp [hchain, chainLaw] at old
    | cons bottom above =>
      simp only [hchain, chainLaw, withoutOwner, Bool.and_eq_true, decide_eq_true_eq] at old ⊢
      exact ⟨⟨(List.length_filter_le _ _).trans old.1.1, old.1.2⟩, stacked_filter above bottom old.2⟩

/-- What a base switch that passes its checks finds (R8): a base kind that carries what stands above. -/
theorem attachCheck_switch {s : State} {chain : List Entry} {k : Fin 16}
    (h : attachCheck s chain .baseSwitch k = none) :
    ∃ p, profileAt s k = some p ∧ baseKind p.kind = true ∧ (chain.length ≤ 1 ∨ p.overrides = true) := by
  obtain ⟨p, hp, kind, overrides, -⟩ := attachCheck_eq_none.1 h
  exact ⟨p, hp, kind, by simpa [overridesFit] using overrides⟩

theorem baseSwitch_keepsChains (s : State) (n : Fin 12) (k : Fin 16) (f : Option Frame) :
    KeepsChains s (baseSwitch s n k f) := by
  unfold baseSwitch
  split
  · exact .refl s
  · rename_i l hl
    split
    · exact .refl s
    · rename_i bottom above hchain
      split
      · exact .refl s
      · split
        · exact (report_frame _ _).keepsChains
        · rename_i passed
          obtain ⟨p, hp, kind, carries⟩ := attachCheck_switch passed
          refine setLoop_keepsChains fun law => ?_
          have old := law n l hl
          simp only [hchain, chainLaw, Bool.and_eq_true, decide_eq_true_eq, baseEntry, hp] at old ⊢
          obtain ⟨⟨depth, base⟩, stack⟩ := old
          refine ⟨⟨depth, kind, ?_⟩, ?_⟩
          · split at base
            · simpa using And.right (by simpa using base)
            · cases base
          · cases above with
            | nil => rfl
            | cons e above =>
              simp only [stacked, Bool.and_eq_true] at stack ⊢
              refine ⟨⟨?_, stack.1.2⟩, stack.2⟩
              simpa [carriesOverride, hp, hchain] using carries

end Sys2Proof.Machine
end

section
/-! Every operation of the station keeps the law of the chains. -/

namespace Sys2Proof.Machine

open Sys2Proof

/-! ### Mode notices and the sequencer -/

theorem noticeChange_keepsChains (k : Notice) (s : State) (x : Fin 12 × NoticeChange) :
    KeepsChains s (noticeChange k s x) := by
  unfold noticeChange
  split
  · exact .refl s
  · split
    · exact push_keepsChains s _ (by simp) _ _
    · exact withdraw_keepsChains s _ _
    · exact baseSwitch_keepsChains s _ _ _

theorem noticeStep_keepsChains (s : State) : KeepsChains s (noticeStep s) := by
  unfold noticeStep
  split
  · exact .refl s
  · exact .of_same rfl rfl
  · exact (noticeChange_keepsChains _ s _).thenSame rfl rfl

theorem finishNotice_keepsChains (s : State) : KeepsChains s (finishNotice s) :=
  times_frame .refl .trans noticeStep_keepsChains _ s

theorem setInstance_keepsChains (s : State) (p : Prog) (i : DryInstance) : KeepsChains s (setInstance s p i) :=
  .of_same (setInstance_config s p i) (setInstance_loops s p i)

theorem pushMember_keepsChains (p : Prog) (k : Fin 16) (s : State) (n : Fin 12) :
    KeepsChains s (pushMember p k s n) := by
  unfold pushMember
  have h := push_keepsChains s n (c := .dryPush p) (by simp) k none
  dsimp only
  split
  · exact h.trans (setInstance_keepsChains _ _ _)
  · exact h

theorem endStart_keepsChains (s : State) (o : DryOperation) (f : Frame) (b : Bool) :
    KeepsChains s (endStart s o f b) := by
  unfold endStart
  dsimp only
  split
  · exact .of_same rfl rfl
  · exact (setInstance_keepsChains s _ _).thenSame rfl rfl

theorem endWithdrawals_keepsChains (s : State) (o : DryOperation) (f : Option Frame) :
    KeepsChains s (endWithdrawals s o f) := by
  unfold endWithdrawals
  dsimp only
  split <;> exact (setInstance_keepsChains s _ _).thenSame rfl rfl

theorem dryReply_keepsChains (s : State) (o : DryOperation) (f : Frame) (r : DryResult) :
    KeepsChains s (dryReply s o f r) := by
  unfold dryReply
  split <;> exact .of_same rfl rfl

theorem dryStep_keepsChains (s : State) : KeepsChains s (dryStep s) := by
  unfold dryStep
  split
  · exact .refl s
  · split
    · exact (pushMember_keepsChains _ _ _ _).thenSame rfl rfl
    · exact endStart_keepsChains _ _ _ _
    · exact (withdraw_keepsChains _ _ _).thenSame rfl rfl
    · exact endWithdrawals_keepsChains _ _ _
    · exact (report_frame _ _).keepsChains.thenSame rfl rfl
    · exact (dryReply_keepsChains _ _ _ _).thenSame rfl rfl

theorem finishDry_keepsChains (s : State) : KeepsChains s (finishDry s) :=
  times_frame .refl .trans dryStep_keepsChains _ s

theorem beginDry_keepsChains (s : State) (o : DryOperation) : KeepsChains s (beginDry s o) :=
  (piece_keepsChains dryStep_keepsChains _ { s with operation := some o }).afterSame rfl rfl

theorem stepEnd_keepsChains (s : State) (p : Prog) : KeepsChains s (stepEnd s p) := by
  unfold stepEnd
  dsimp only
  split
  · split
    · exact setInstance_keepsChains s _ _
    · exact (setInstance_keepsChains s _ _).trans (beginDry_keepsChains _ _)
  · exact .refl s

theorem pauseProgram_keepsChains (s : State) (p : Prog) : KeepsChains s (pauseProgram s p) := by
  unfold pauseProgram
  dsimp only
  split
  · exact setInstance_keepsChains s _ _
  · exact .refl s

theorem resumeProgram_keepsChains (s : State) (p : Prog) : KeepsChains s (resumeProgram s p) := by
  unfold resumeProgram
  dsimp only
  split
  · exact setInstance_keepsChains s _ _
  · exact .refl s

theorem lateStepEnd_keepsChains (b : Bool) (s : State) (p : Prog) : KeepsChains s (lateStepEnd b s p) := by
  unfold lateStepEnd
  split
  · exact (finishDry_keepsChains s).trans (stepEnd_keepsChains _ _)
  · exact .refl s

theorem resumePrograms_keepsChains (s : State) : KeepsChains s (resumePrograms s) :=
  (((resumeProgram_keepsChains s _).trans (resumeProgram_keepsChains _ _)).trans
    (lateStepEnd_keepsChains _ _ _)).trans (lateStepEnd_keepsChains _ _ _)

theorem sendReply_keepsChains (s : State) (f : Frame) (code : Byte) (a : Answer) :
    KeepsChains s (sendReply s f code a) := .of_same rfl rfl

theorem startProgram_keepsChains (s : State) (p : Prog) (f : Frame) : KeepsChains s (startProgram s p f) := by
  unfold startProgram
  dsimp only
  split
  · exact sendReply_keepsChains _ _ _ _
  · split
    · exact sendReply_keepsChains _ _ _ _
    · exact (setInstance_keepsChains s _ _).trans (beginDry_keepsChains _ _)

theorem stopProgram_keepsChains (s : State) (p : Prog) (f : Frame) : KeepsChains s (stopProgram s p f) := by
  unfold stopProgram
  dsimp only
  split
  · exact (setInstance_keepsChains s _ _).trans (beginDry_keepsChains _ _)
  · exact sendReply_keepsChains _ _ _ _

/-! ### The source record -/

theorem followView_keepsChains (s : State) (st : SourceState) : KeepsChains s (followView s st) := by
  unfold followView
  dsimp only
  split
  · exact (grants_frame _).keepsChains.afterSame rfl rfl
  · exact .of_same rfl rfl

theorem beforeHeating_keepsChains (s : State) (st : SourceState) : KeepsChains s (beforeHeating s st) := by
  unfold beforeHeating
  split
  · exact finishDry_keepsChains s
  · exact .refl s

theorem followHeating_keepsChains (s : State) (before after : SourceState) :
    KeepsChains s (followHeating s before after) := by
  unfold followHeating
  split
  · exact (pauseProgram_keepsChains s _).trans (pauseProgram_keepsChains _ _)
  · split
    · exact resumePrograms_keepsChains s
    · exact .refl s

theorem followSource_keepsChains (s : State) (before : SourceState) : KeepsChains s (followSource s before) :=
  (followView_keepsChains s _).trans (followHeating_keepsChains _ _ _)

theorem takeSourceReport_keepsChains (s : State) (f : Frame) : KeepsChains s (takeSourceReport s f) := by
  unfold takeSourceReport
  split
  · exact .refl s
  · split
    · exact .of_same rfl rfl
    · split
      · exact (report_frame _ _).keepsChains
      · rename_i v _ _ _ st _
        exact (beforeHeating_keepsChains s st).trans
          ((followSource_keepsChains { beforeHeating s st with peers := { (beforeHeating s st).peers with
            source := takenSource v st } } _).afterSame rfl rfl)

theorem staleSource_keepsChains (s : State) : KeepsChains s (staleSource s) :=
  (beforeHeating_keepsChains s .heating).trans
    (((report_frame _ _).keepsChains.trans (followSource_keepsChains _ _)).afterSame
      (t := { beforeHeating s .heating with peers := { (beforeHeating s .heating).peers with
        source := { s.peers.source with age := ⟨61, 0⟩, validity := .stale } } }) rfl rfl)

/-! ### The pass, its close and the trim update -/

/-- Stage 1 may clear a history-stale flag; the chains stand (R48). -/
theorem stageOne_keepsChains (o : Opening) (s : State) (n : Fin 12) : KeepsChains s (stageOne o s n) := by
  unfold stageOne
  split
  · exact .refl s
  · rename_i l hl
    dsimp only
    split
    · refine SameChains.keeps ⟨rfl, fun m => ?_⟩
      simp only [Tab.get_set]
      split
      · subst m; simp [hl]
      · rfl
    · exact .of_same rfl rfl

theorem passStep_keepsChains (s : State) : KeepsChains s (passStep s) := by
  have fill : ∀ s : State, KeepsChains s (fillFallback s) := fun s => by
    unfold fillFallback
    split <;> exact .of_same rfl rfl
  unfold passStep
  split
  · exact .refl s
  · exact (stageOne_keepsChains _ s _).thenSame rfl rfl
  · rename_i o rs _
    refine KeepsChains.thenSame (t := bypassShort s (shareOf s o rs)) ?_ rfl rfl
    unfold bypassShort
    split
    · split
      · exact (report_frame _ _).keepsChains
      · exact .refl s
    · exact .refl s
  · exact .of_same rfl rfl
  · rename_i o g r _ _
    refine KeepsChains.thenSame (t := targetLoop o s r) ?_ rfl rfl
    unfold targetLoop
    dsimp only
    split <;> exact .of_same rfl rfl
  · exact (fill { s with engine := { s.engine with visit := none, work := some _ } }).afterSame rfl rfl

theorem trimPiece_keepsChains (s : State) : KeepsChains s (freePiece trimStep s) :=
  piece_keepsChains (fun s => (trimStep_frame s).keepsChains) _ s

theorem takeReading_keepsChains (s : State) : KeepsChains s (takeReading s) := by
  unfold takeReading
  dsimp only
  split
  · exact (report_frame _ _).keepsChains.afterSame rfl rfl
  · exact .of_same rfl rfl

theorem beginPass_keepsChains (s : State) : KeepsChains s (beginPass s) := by
  have opening : ∀ s : State, KeepsChains s (openVisit s) := fun s =>
    (takeReading_keepsChains { s with
      engine := { s.engine with timer := some 30000, buffer := Tab.fill 12 none, visit := _ } }).afterSame rfl rfl
  exact (((finishTrim_frame s).keepsChains.trans (elapse_keepsChains (passLeft s) _)).trans (opening _)).trans
    (piece_keepsChains passStep_keepsChains _ _)

theorem swapTargets_keepsChains (s : State) : KeepsChains s (swapTargets s) := by
  have swap : ∀ (s : State) (n : Fin 12), DriveFrame s (swapChannel s n) := fun s n => by
    unfold swapChannel
    dsimp only
    split
    · split
      · exact takeTarget_frame _ _ _
      · exact .refl s
    · exact .refl s
  have requests : ∀ (s : State) (l : List (Fin 12)), KeepsChains s (takeRequests s l) := fun s l => by
    unfold takeRequests
    split
    · exact .refl s
    · exact (requestMove_frame _ _).keepsChains
    · exact (foldl_frame DriveFrame.refl DriveFrame.trans requestMove_frame _ _).keepsChains.afterSame rfl rfl
  have swapped := (foldl_frame DriveFrame.refl DriveFrame.trans swap (List.finRange 12) s).keepsChains
  unfold swapTargets
  dsimp only
  generalize (List.finRange 12).foldl swapChannel s = s1 at swapped ⊢
  exact (swapped.thenSame (u := emptyBuffer s1) rfl rfl).trans (requests _ _)

theorem closeSwap_keepsChains (s : State) : KeepsChains s (closeSwap s) := by
  have fill : KeepsChains s (fillFallback s) := by
    unfold fillFallback
    split <;> exact .of_same rfl rfl
  unfold closeSwap
  dsimp only
  split
  · exact fill.thenSame rfl rfl
  · exact fill.trans (swapTargets_keepsChains _)

theorem extraReport_keepsChains (s : State) : KeepsChains s (extraReport s) := by
  unfold extraReport
  split
  · split
    · exact .of_same rfl rfl
    · split <;> exact .of_same rfl rfl
  · exact .refl s

theorem closePass_keepsChains (s : State) (w : PassResult) : KeepsChains s (closePass s w) :=
  ((((closeSwap_keepsChains s).thenSame (u := beginTrim (handResults (closeSwap s) w (effectiveState s))) rfl rfl).trans
    (trimPiece_keepsChains _)).trans (extraReport_keepsChains _)).trans (trimPiece_keepsChains _)

/-! ### The station's start (R17, R144, R145) -/

theorem chainLaw_fresh (s : State) : chainLaw s [⟨0, .base⟩] = true := rfl

/-- Every chain that the start builds first is profile 0 alone. -/
theorem startBlocks_chains (s : State) (l : Loaded) : ChainsLaw (startBlocks s l) := by
  intro n k hk
  simp only [startBlocks, Tab.get_map, Option.map_eq_some_iff] at hk
  obtain ⟨i, -, rfl⟩ := hk
  exact chainLaw_fresh _

theorem buildChains_keepsChains (s : State) : KeepsChains s (buildChains s) :=
  foldl_frame .refl .trans (fun s n => by
    unfold comfortSwitch
    split
    · exact .refl s
    · exact baseSwitch_keepsChains _ _ _ _) _ s

theorem abortAtStart_keepsChains (s : State) (p : Prog) : KeepsChains s (abortAtStart s p) :=
  (setInstance_keepsChains s _ _).trans (report_frame _ _).keepsChains

theorem repush_keepsChains (s : State) (p : Prog) (d : ProgramDef) : KeepsChains s (repush s p d) := by
  have pushes := fun l => (setInstance_keepsChains s p { instanceOf s p with members := [] }).trans
    (foldl_frame .refl .trans (pushMember_keepsChains p d.profile) l _)
  unfold repush
  dsimp only
  split
  · exact (pushes _).trans (abortAtStart_keepsChains _ _)
  · exact pushes _

theorem restartProgram_keepsChains (s : State) (p : Prog) : KeepsChains s (restartProgram s p) := by
  refine (setInstance_keepsChains s p (awake (instanceOf s p))).trans ?_
  unfold restartProgram checkKept
  dsimp only
  split
  · exact .refl _
  · split
    · exact abortAtStart_keepsChains _ _
    · split
      · exact setInstance_keepsChains _ _ _
      · split
        · exact (setInstance_keepsChains _ _ _).trans (repush_keepsChains _ _ _)
        · exact setInstance_keepsChains _ _ _

/-- The law holds after a start, whatever held before. -/
theorem startStation_chains (s : State) : ChainsLaw (startStation s) := by
  have calibrations : ∀ (s : State) (n : Fin 12), DriveFrame s (startCalibration s n) := fun s n => by
    unfold startCalibration
    split
    · exact .refl s
    · exact requestCalibration_frame _ _ _
  exact (foldl_frame DriveFrame.refl DriveFrame.trans calibrations _ _).keepsChains
    (((restartProgram_keepsChains _ .one).trans (restartProgram_keepsChains _ .two))
      (buildChains_keepsChains _ (startBlocks_chains _ _)))

/-! ### Frames handed on, and requests -/

/-- A frame taken off the queue: the request before it has been answered. -/
theorem takeHead_keepsChains {s t : State} {c : Instr} {f : Frame} (h : takeHead s c = some (f, t)) :
    KeepsChains s t := by
  obtain ⟨-, -, rfl⟩ := takeHead_eq_some.1 h
  refine KeepsChains.thenSame (t := answerOpen s) ?_ rfl rfl
  unfold answerOpen
  split
  · exact finishDry_keepsChains s
  · exact .refl s

/-- What takes a head frame keeps the law when what it does with the frame does. -/
theorem handedOn_keepsChains {take : State → Frame → State} (h : ∀ s f, KeepsChains s (take s f)) (s : State)
    (c : Instr) : KeepsChains s (match takeHead s c with
      | some (f, s1) => take s1 f
      | none => s) := by
  split
  · rename_i e; exact (takeHead_keepsChains e).trans (h _ _)
  · exact .refl s

theorem takeRequest_keepsChains {carry : Byte → List Byte → State → State}
    (h : ∀ code args s, KeepsChains s (carry code args s)) (s : State) (f : Frame) :
    KeepsChains s (takeRequest s f carry) := by
  unfold takeRequest
  split
  · split
    · exact .of_same rfl rfl
    · split
      · exact .of_same rfl rfl
      · split
        · exact .of_same rfl rfl
        · exact h _ _ _
  · exact .refl s

theorem answerRequest_keepsChains {carry : List Byte → State → State × Answer}
    (h : ∀ args s, KeepsChains s (carry args s).1) (s : State) (f : Frame) :
    KeepsChains s (answerRequest s f carry) :=
  takeRequest_keepsChains (fun _ args s => (h args s).trans (sendReply_keepsChains _ _ _ _)) s f

theorem carryDryout_keepsChains {operation : State → Prog → Frame → State}
    (h : ∀ s p f, KeepsChains s (operation s p f)) (f : Frame) (code : Byte) (args : List Byte) (s : State) :
    KeepsChains s (carryDryout operation f code args s) := by
  unfold carryDryout
  split
  · exact sendReply_keepsChains _ _ _ _
  · exact (finishDry_keepsChains s).trans (h _ _ _)

theorem partAnswer_keepsChains (parts : List (List Byte)) (asked : Option Byte) (s : State) :
    KeepsChains s (partAnswer parts asked s).1 := by
  unfold partAnswer
  dsimp only
  split
  · split <;> exact .refl s
  · exact .of_same rfl rfl

theorem carryReadLoop_keepsChains (args : List Byte) (s : State) : KeepsChains s (carryReadLoop args s).1 := by
  unfold carryReadLoop
  split
  · exact .of_same rfl rfl
  · split
    · exact partAnswer_keepsChains _ _ _
    · exact .of_same rfl rfl
    · exact .of_same rfl rfl

theorem carryRecalibrate_keepsChains (args : List Byte) (s : State) : KeepsChains s (carryRecalibrate args s).1 := by
  unfold carryRecalibrate
  split
  · exact .refl s
  · split
    · split
      · exact .refl s
      · exact (foldl_frame DriveFrame.refl DriveFrame.trans (fun s n => requestCalibration_frame s n true) _ s).keepsChains
    · split
      · exact .refl s
      · split
        · exact (requestCalibration_frame _ _ _).keepsChains
        · exact .refl s

theorem carryClearFaults_keepsChains (args : List Byte) (s : State) : KeepsChains s (carryClearFaults args s).1 := by
  unfold carryClearFaults
  split <;> exact .of_same rfl rfl

theorem carryAlertMask_keepsChains (args : List Byte) (s : State) : KeepsChains s (carryAlertMask args s).1 := by
  have mask : ∀ slot on, KeepsChains s (maskSlot s slot on) := fun slot on => by
    unfold maskSlot
    dsimp only
    split
    · exact .of_same rfl rfl
    · split
      · exact (raiseAlerts_frame _ _).keepsChains.afterSame rfl rfl
      · exact .of_same rfl rfl
  unfold carryAlertMask
  split
  · split
    · exact mask _ _
    · exact .refl s
  · exact .refl s

theorem carryAlertEnable_keepsChains (args : List Byte) (s : State) : KeepsChains s (carryAlertEnable args s).1 := by
  unfold carryAlertEnable
  split <;> exact .of_same rfl rfl

/-! ### Reports of rooms and peers -/

theorem takeRoomReport_keepsChains (s : State) (f : Frame) : KeepsChains s (takeRoomReport s f) := by
  unfold takeRoomReport
  dsimp only
  split
  · exact .of_same rfl rfl
  · split
    · exact .of_same rfl rfl
    · split
      · exact .of_same rfl rfl
      · exact .of_same rfl rfl
      · split
        · exact .of_same rfl rfl
        · split <;> exact .of_same rfl rfl

theorem ageRoom_keepsChains (s : State) (room secs : Nat) (st : RoomState) : KeepsChains s (ageRoom s room secs st) := by
  unfold ageRoom
  split <;> exact .of_same rfl rfl

theorem orphanRoom_keepsChains (s : State) (room : Nat) (b : Bool) : KeepsChains s (orphanRoom s room b) :=
  (ageRoom_keepsChains s _ _ _).trans (report_frame _ _).keepsChains

theorem takeStationReport_keepsChains (s : State) (f : Frame) : KeepsChains s (takeStationReport s f) := by
  unfold takeStationReport
  dsimp only
  split
  · exact .refl s
  · split
    · split
      · exact (report_frame _ _).keepsChains
      · split <;> exact .of_same rfl rfl
    · exact .of_same rfl rfl

theorem receive_keepsChains (s : State) (f : RxFrame) : KeepsChains s (receive s f) := by
  unfold receive
  dsimp only
  split
  · exact (report_frame _ _).keepsChains.afterSame rfl rfl
  · split
    · exact .of_same rfl rfl
    · exact (report_frame _ _).keepsChains.afterSame rfl rfl

theorem takeSample_keepsChains (s : State) (n : Fin 14) (code : Nat) : KeepsChains s (takeSample s n code) := by
  unfold takeSample
  dsimp only
  split
  · exact (report_frame _ _).keepsChains.afterSame rfl rfl
  · exact .of_same rfl rfl

end Sys2Proof.Machine
end

section
/-! The law of the chains along every step (R7). -/

namespace Sys2Proof.Machine

open Sys2Proof

/-- A conditional change keeps the law when the change does. -/
theorem KeepsChains.ite {c : Prop} [Decidable c] {s t : State} (h : c → KeepsChains s t) :
    KeepsChains s (if c then t else s) := by
  split
  · exact h ‹_›
  · exact .refl s

theorem sendReport_keepsChains (s : State) : KeepsChains s (sendReport s) := .of_same rfl rfl

theorem execPassClose_keepsChains {s t : State} (h : execPassClose s = .next t) : KeepsChains s t := by
  obtain rfl := Host.Outcome.next.inj h
  have stages := times_frame .refl .trans passStep_keepsChains (stepsLeft s) s
  split
  · exact stages.trans (closePass_keepsChains _ _)
  · exact stages

theorem execModeNotice_keepsChains {s t : State} (h : execModeNotice s = .next t) : KeepsChains s t := by
  obtain rfl := Host.Outcome.next.inj h
  split
  · exact .refl s
  · rename_i notice later _
    have before := finishNotice_keepsChains { s with rooms := { s.rooms with notices := later } }
    exact (before.afterSame (s := s) rfl rfl).trans
      ((piece_keepsChains noticeStep_keepsChains _ (beginNotice _ notice)).afterSame rfl rfl)

theorem execDryoutHour_keepsChains {p : Prog} {s t : State} (h : execDryoutHour p s = .next t) : KeepsChains s t := by
  obtain rfl := Host.Outcome.next.inj h
  exact .ite fun _ => (finishDry_keepsChains s).trans
    ((elapse_keepsChains (hourLeft (finishDry s) p) _).trans (setInstance_keepsChains _ _ _))

theorem execStall_keepsChains {n : Fin 12} {s t : State} (h : execStall n s = .next t) : KeepsChains s t := by
  have taken : ∀ s : State, KeepsChains s (stallTaken s n) := fun s => by
    unfold stallTaken
    dsimp only
    split
    · split
      · exact (seatFound_frame s n).keepsChains
      · exact (blockedStall_frame s n).keepsChains
    · exact (blockedStall_frame s n).keepsChains
    · exact (putChannel_frame s n _).keepsChains
    · exact (calibrationStroke_frame s n).keepsChains
    all_goals exact .refl s
  obtain rfl := Host.Outcome.next.inj h
  exact .ite fun _ => (elapse_keepsChains (stallLeft s n) s).trans (taken _)

theorem feedbackEdge_keepsChains (s : State) (n : Fin 12) (a b : Bool) : KeepsChains s (feedbackEdge s n a b) := by
  unfold feedbackEdge
  dsimp only
  split
  · exact .refl s
  · exact (judgeChannel_frame _ n).keepsChains.afterSame rfl rfl
  · exact (judgeChannel_frame _ n).keepsChains.afterSame rfl rfl

theorem moveCompleted_frame (s : State) (n : Fin 12) : DriveFrame s (moveCompleted s n) := by
  have freed := fun c => (putChannel_frame s n c).trans (freeSlot_frame _ n)
  unfold moveCompleted
  dsimp only
  split
  · exact (freed _).trans (requestCalibration_frame _ _ _)
  · exact (freed _).trans (compareTarget_frame _ _)

theorem reversingEnded_frame (s : State) (n : Fin 12) : DriveFrame s (reversingEnded s n) := by
  unfold reversingEnded
  dsimp only
  split
  · exact startDrive_frame _ _ _ _
  · exact settle_frame _ _

theorem calibrationCompleted_frame (s : State) (n : Fin 12) : DriveFrame s (calibrationCompleted s n) :=
  ((putChannel_frame s n _).trans (freeSlot_frame _ n)).trans (compareTarget_frame _ _)

theorem timeoutTaken_frame (s : State) (n : Fin 12) : DriveFrame s (timeoutTaken s n) :=
  ((report_frame s _).drive.trans (dropMove_frame _ _)).trans (requestCalibration_frame _ _ _)

/-- The end of one of a channel's timers: time passes, and the channel's own event follows. -/
theorem driveEvent_keepsChains {c : Prop} [Decidable c] {taken : State → State} (h : ∀ s, DriveFrame s (taken s))
    (d : Nat) (s : State) : KeepsChains s (if c then taken (elapse d s) else s) :=
  .ite fun _ => (elapse_keepsChains d s).trans (h _).keepsChains

/-- No block of the resets' states holds a loop. -/
theorem chainsLaw_of_empty {s : State} (h : s.loops = Tab.fill 12 none) : ChainsLaw s := by
  intro n l hl
  rw [h, Tab.get_fill] at hl
  cases hl

theorem execTransmit_keepsChains {s t : State} : (execTransmitStart s = .next t ∨ execArbitrationLost s = .next t ∨
    execArbitrationWon s = .next t ∨ execFrameSent s = .next t ∨ execFrameBrokenOff s = .next t) → KeepsChains s t := by
  have set : ∀ x, KeepsChains s (setTx s x) := fun _ => .of_same rfl rfl
  rintro (h | h | h | h | h) <;> obtain rfl := Host.Outcome.next.inj h
  · split
    · exact set _
    · exact .refl s
  · split
    · exact set _
    · exact .refl s
  · split
    · split
      · exact .of_same rfl rfl
      · exact .refl s
    · exact .refl s
  · split
    · exact set _
    · exact .refl s
  · split
    · exact .of_same rfl rfl
    · exact .refl s

/-- Every command keeps the law of the chains. -/
theorem exec_keepsChains {i : Instr} {s t : State} (h : exec i s = .next t) : KeepsChains s t := by
  cases i with
  | powerOnReset => obtain rfl := Host.Outcome.next.inj h; exact fun _ => chainsLaw_of_empty rfl
  | warmReset => obtain rfl := Host.Outcome.next.inj h; exact fun _ => chainsLaw_of_empty rfl
  | stationStart => obtain rfl := Host.Outcome.next.inj h; exact .ite fun _ _ => startStation_chains s
  | passTimerExpiry => obtain rfl := Host.Outcome.next.inj h; exact .ite fun _ => beginPass_keepsChains s
  | probeHoldExpiry => obtain rfl := Host.Outcome.next.inj h; exact .ite fun _ => beginPass_keepsChains s
  | passClose => exact execPassClose_keepsChains h
  | extraReportDue =>
    obtain rfl := Host.Outcome.next.inj h
    exact .ite fun _ => (elapse_keepsChains _ s).trans (sendReport_keepsChains _)
  | regularReport =>
    obtain rfl := Host.Outcome.next.inj h
    exact .ite fun _ => (elapse_keepsChains _ s).thenSame rfl rfl
  | scanRound =>
    obtain rfl := Host.Outcome.next.inj h
    exact .ite fun _ => (elapse_keepsChains _ s).thenSame rfl rfl
  | sampleEvent n code =>
    obtain rfl := Host.Outcome.next.inj h
    split
    · exact .ite fun _ => (takeSample_keepsChains _ n _).afterSame rfl rfl
    · exact .refl s
  | frameReceived f => obtain rfl := Host.Outcome.next.inj h; exact .ite fun _ => receive_keepsChains s f
  | roomReport => obtain rfl := Host.Outcome.next.inj h; exact handedOn_keepsChains takeRoomReport_keepsChains s _
  | modeNotice => exact execModeNotice_keepsChains h
  | boostTimerExpiry n =>
    obtain rfl := Host.Outcome.next.inj h
    exact .ite fun _ => (elapse_keepsChains _ s).trans (withdraw_keepsChains _ _ _)
  | roomEntersHeld room =>
    obtain rfl := Host.Outcome.next.inj h
    exact .ite fun _ => (elapse_keepsChains _ s).trans (ageRoom_keepsChains _ _ _ _)
  | roomStale room =>
    obtain rfl := Host.Outcome.next.inj h
    split
    · exact (elapse_keepsChains _ s).trans (orphanRoom_keepsChains _ _ _)
    · exact (elapse_keepsChains _ s).trans (orphanRoom_keepsChains _ _ _)
    · exact .refl s
  | stationReport => obtain rfl := Host.Outcome.next.inj h; exact handedOn_keepsChains takeStationReport_keepsChains s _
  | peerStale n =>
    obtain rfl := Host.Outcome.next.inj h
    exact .ite fun _ => (elapse_keepsChains _ s).thenSame rfl rfl
  | peerRemoval n =>
    obtain rfl := Host.Outcome.next.inj h
    exact .ite fun _ => (elapse_keepsChains _ s).thenSame rfl rfl
  | sourceReport => obtain rfl := Host.Outcome.next.inj h; exact handedOn_keepsChains takeSourceReport_keepsChains s _
  | sourceStale =>
    obtain rfl := Host.Outcome.next.inj h
    exact .ite fun _ => (elapse_keepsChains _ s).trans (staleSource_keepsChains _)
  | unusedFrame =>
    obtain rfl := Host.Outcome.next.inj h
    exact handedOn_keepsChains (take := fun s _ => countUnused s) (fun _ _ => .of_same rfl rfl) s _
  | readLoop =>
    obtain rfl := Host.Outcome.next.inj h
    exact handedOn_keepsChains (answerRequest_keepsChains carryReadLoop_keepsChains) s _
  | readFaults =>
    obtain rfl := Host.Outcome.next.inj h
    exact handedOn_keepsChains (answerRequest_keepsChains fun _ _ => partAnswer_keepsChains _ _ _) s _
  | readPeers =>
    obtain rfl := Host.Outcome.next.inj h
    exact handedOn_keepsChains (answerRequest_keepsChains fun _ _ => partAnswer_keepsChains _ _ _) s _
  | readTrim =>
    obtain rfl := Host.Outcome.next.inj h
    exact handedOn_keepsChains (answerRequest_keepsChains fun _ _ => partAnswer_keepsChains _ _ _) s _
  | startDryout =>
    obtain rfl := Host.Outcome.next.inj h
    exact handedOn_keepsChains (fun s f => takeRequest_keepsChains (carryDryout_keepsChains startProgram_keepsChains f) s f) s _
  | stopDryout =>
    obtain rfl := Host.Outcome.next.inj h
    exact handedOn_keepsChains (fun s f => takeRequest_keepsChains (carryDryout_keepsChains stopProgram_keepsChains f) s f) s _
  | recalibrate =>
    obtain rfl := Host.Outcome.next.inj h
    exact handedOn_keepsChains (answerRequest_keepsChains carryRecalibrate_keepsChains) s _
  | clearFaults =>
    obtain rfl := Host.Outcome.next.inj h
    exact handedOn_keepsChains (answerRequest_keepsChains carryClearFaults_keepsChains) s _
  | alertMask =>
    obtain rfl := Host.Outcome.next.inj h
    exact handedOn_keepsChains (answerRequest_keepsChains carryAlertMask_keepsChains) s _
  | alertEnable =>
    obtain rfl := Host.Outcome.next.inj h
    exact handedOn_keepsChains (answerRequest_keepsChains carryAlertEnable_keepsChains) s _
  | unknownRequest =>
    obtain rfl := Host.Outcome.next.inj h
    exact handedOn_keepsChains (answerRequest_keepsChains fun _ s => .refl s) s _
  | dryoutHour p => exact execDryoutHour_keepsChains h
  | dryoutStepEnd p =>
    obtain rfl := Host.Outcome.next.inj h
    exact .ite fun _ => (finishDry_keepsChains s).trans (stepEnd_keepsChains _ _)
  | meterPulse => obtain rfl := Host.Outcome.next.inj h; exact .ite fun _ => .of_same rfl rfl
  | feedbackEdge n a b => obtain rfl := Host.Outcome.next.inj h; exact feedbackEdge_keepsChains s n a b
  | stall n => exact execStall_keepsChains h
  | moveTimeout n =>
    obtain rfl := Host.Outcome.next.inj h
    exact driveEvent_keepsChains (fun s => timeoutTaken_frame s n) _ s
  | phaseLimitExpiry n =>
    obtain rfl := Host.Outcome.next.inj h
    split
    · exact (elapse_keepsChains _ s).trans (failCalibration_frame _ _ _).keepsChains
    · exact .refl s
  | settlingEnd n =>
    obtain rfl := Host.Outcome.next.inj h
    exact driveEvent_keepsChains (fun s => moveCompleted_frame s n) _ s
  | calibrationSettlingEnd n =>
    obtain rfl := Host.Outcome.next.inj h
    exact driveEvent_keepsChains (fun s => calibrationCompleted_frame s n) _ s
  | reversingEnd n =>
    obtain rfl := Host.Outcome.next.inj h
    exact driveEvent_keepsChains (fun s => reversingEnded_frame s n) _ s
  | calOpenDeadIntervalEnd n =>
    obtain rfl := Host.Outcome.next.inj h
    exact driveEvent_keepsChains (fun s => putChannel_frame s n _) _ s
  | transmitStart => exact execTransmit_keepsChains (.inl h)
  | arbitrationLost => exact execTransmit_keepsChains (.inr (.inl h))
  | arbitrationWon => exact execTransmit_keepsChains (.inr (.inr (.inl h)))
  | frameSent => exact execTransmit_keepsChains (.inr (.inr (.inr (.inl h))))
  | frameBrokenOff => exact execTransmit_keepsChains (.inr (.inr (.inr (.inr h))))

theorem workStep_keepsChains (w : Work) (s : State) : KeepsChains s (workStep w s) := by
  cases w with
  | load =>
    simp only [workStep, loadStep]
    split
    · exact .refl s
    · exact (report_frame _ _).keepsChains.afterSame rfl rfl
  | pass => exact passStep_keepsChains s
  | trim => exact (trimStep_frame s).keepsChains
  | notice => exact noticeStep_keepsChains s
  | dryout => exact dryStep_keepsChains s
  | alerts => exact (placeAlert_frame s).keepsChains

/-- The idle step keeps the law. -/
theorem tick_keepsChains (s : State) : KeepsChains s (tick s) := by
  have queue : ∀ s : State, KeepsChains s (queueDue s) := fun s => by
    rcases queueDue_cases s with ⟨-, e⟩ | ⟨_, -, _, e⟩ <;> rw [e]
    · exact .refl s
    · exact .of_same rfl rfl
  rcases tick_cases s with ⟨-, -, e⟩ | ⟨-, e | ⟨-, e⟩⟩ | ⟨busy, k, -, e⟩ <;> rw [e]
  · exact elapse_keepsChains 1 s
  · exact queue s
  · exact (queue _).afterSame rfl rfl
  · obtain ⟨w, -, e | e⟩ := goOn_cases busy k <;> rw [e]
    · exact piece_keepsChains (workStep_keepsChains w) k s
    · exact (piece_keepsChains (workStep_keepsChains w) k (drawn s)).afterSame rfl rfl

end Sys2Proof.Machine

open Sys2Proof Sys2Proof.Machine

/-- Settles O55: a step is a command or the idle step, and each operation of theirs keeps the law. -/
theorem everyStepKeepsTheLawOfTheChains : Obligations.EveryStepKeepsTheLawOfTheChains := by
  unfold Obligations.EveryStepKeepsTheLawOfTheChains
  intro s t law h
  unfold step at h
  split at h
  · rename_i i rest _
    exact (exec_keepsChains h).afterSame (s := s) rfl rfl law
  · obtain rfl := Host.Outcome.next.inj h
    exact tick_keepsChains s law

end

section
/-! The laws in the state after power-on reset. -/

namespace Sys2Proof.Machine

open Sys2Proof

/-- With no slot held no channel holds one. -/
theorem not_holdsSlot_of_empty {a : Arbiter} (h : a.slots = Tab.fill 3 none) (n : Fin 12) : ¬ holdsSlot a n := by
  rintro ⟨i, e, he, -⟩
  rw [h, Tab.get_fill] at he
  cases he

theorem arbiterLaw_reset : ArbiterLaw Arbiter.reset := by
  refine ⟨List.nodup_nil, fun e he => (List.not_mem_nil he).elim, fun i j e f he => ?_⟩
  rw [show Arbiter.reset.slots = Tab.fill 3 none from rfl, Tab.get_fill] at he
  cases he

theorem recorderLaw_reset : RecorderLaw Recorder.reset := by
  refine ⟨rfl, fun i => ?_, nofun⟩
  rw [show Recorder.reset.slots = Tab.fill 4 ⟨0, 0, false, false, none⟩ from rfl, Tab.get_fill]
  rfl

theorem driveLaw_reset : DriveLaw State.reset := by
  have channel (n) : State.reset.channels.get n = Channel.reset := Tab.get_fill _ n
  refine ⟨arbiterLaw_reset, fun n => ?_, fun n => ?_, fun _ => ⟨rfl, rfl, rfl, rfl, rfl, rfl, rfl, rfl, fun n => ?_⟩⟩
  · rw [channel]
    exact ⟨nofun, nofun⟩
  · rw [channel]
    exact ⟨fun h => (not_holdsSlot_of_empty rfl n h).elim, nofun⟩
  · rw [channel]
    exact .inl rfl

theorem rangeLaw_reset : RangeLaw State.reset := by
  refine ⟨by decide, by decide, by decide, by decide, fun n => ?_⟩
  rw [show State.reset.channels.get n = Channel.reset from Tab.get_fill _ n]
  decide

/-- No pass and no trim update is in progress. -/
theorem passLaw_reset : PassLaw State.reset := by
  have visit : State.reset.engine.visit = none := rfl
  have work : State.reset.engine.work = none := rfl
  refine ⟨fun v h => ?_, fun w h => ?_, fun h => absurd rfl h⟩
  · rw [visit] at h; cases h
  · rw [work] at h; cases h

end Sys2Proof.Machine

open Sys2Proof Sys2Proof.Machine

/-- Settles O60: law by law, on the values of the reset table. -/
theorem theLawsHoldAtReset : Obligations.TheLawsHoldAtReset :=
  ⟨chainsLaw_of_empty rfl, recorderLaw_reset, arbiterLaw_reset, .inr fun _ h => (List.not_mem_nil h).elim, driveLaw_reset,
    rangeLaw_reset, passLaw_reset⟩

end

section
/-! What a reported fault leaves in the station, and the changes of one chain as equations. -/

namespace Sys2Proof.Machine

open Sys2Proof

/-! ### What a fault leaves -/

section
variable (s : State) (e : FaultEvent)

@[simp] theorem report_loader_eq : (report s e).loader = s.loader := report_loader s e
@[simp] theorem report_config : (report s e).config = s.config := by
  obtain ⟨_, _, _, _, h⟩ := report_frame s e; rw [h]
@[simp] theorem report_loops : (report s e).loops = s.loops := by
  obtain ⟨_, _, _, _, h⟩ := report_frame s e; rw [h]
@[simp] theorem report_visiting : (report s e).visiting = s.visiting := by
  obtain ⟨_, _, _, _, h⟩ := report_frame s e; rw [h]
@[simp] theorem report_operation : (report s e).operation = s.operation := by
  obtain ⟨_, _, _, _, h⟩ := report_frame s e; rw [h]
@[simp] theorem report_instanceOf (p : Prog) : instanceOf (report s e) p = instanceOf s p := by
  obtain ⟨_, _, _, _, h⟩ := report_frame s e; rw [h]; cases p <;> rfl

/-- The same station with another operation of the sequencer and another mode notice in progress. -/
def State.withWork (s : State) (o : Option DryOperation) (v : Option NoticeVisit) : State :=
  { s with operation := o, visiting := v }

theorem placeAlert_withWork (o : Option DryOperation) (v : Option NoticeVisit) :
    placeAlert (s.withWork o v) = (placeAlert s).withWork o v := by
  unfold placeAlert
  rw [show (s.withWork o v).bus = s.bus from rfl]
  cases s.bus.placing <;> rfl

theorem raiseAlerts_withWork (l : List Frame) (o : Option DryOperation) (v : Option NoticeVisit) :
    raiseAlerts (s.withWork o v) l = (raiseAlerts s l).withWork o v := by
  unfold raiseAlerts
  rw [show (s.withWork o v).bus = s.bus from rfl]
  dsimp only
  split
  · exact placeAlert_withWork { s with bus := { s.bus with placing := s.bus.placing ++ l } } o v
  · rfl

theorem offerAlerts_withWork (o : Option DryOperation) (v : Option NoticeVisit) :
    offerAlerts (s.withWork o v) e = (offerAlerts s e).withWork o v :=
  raiseAlerts_withWork
    { s with recorder := { s.recorder with slots := s.recorder.slots.map (pendAlert s.recorder e) } }
    ((List.finRange 4).filterMap (alertFor s e)) o v

/-- A report neither reads nor changes the work in progress. -/
theorem report_withWork (o : Option DryOperation) (v : Option NoticeVisit) :
    report (s.withWork o v) e = (report s e).withWork o v := by
  unfold report
  rw [show (s.withWork o v).recorder = s.recorder from rfl]
  dsimp only
  split
  · rfl
  · exact offerAlerts_withWork { s with recorder := recordFault s.recorder e } e o v

theorem recordFault_kinds (r : Recorder) (k : Fin 16) : (recordFault r e).kinds.get k =
    { r.kinds.get k with status := (r.kinds.get k).status || decide (kindIndex e.kind = k) } := by
  have set : (r.kinds.set (kindIndex e.kind) { r.kinds.get (kindIndex e.kind) with status := true }).get k =
      { r.kinds.get k with status := (r.kinds.get k).status || decide (kindIndex e.kind = k) } := by
    rw [Tab.get_set]
    split
    · rename_i h; subst h; simp
    · simp [*]
  unfold recordFault
  dsimp only
  split
  · exact set
  · split <;> exact set

/-- A fault sets the status of its kind, and leaves the other statuses, the masks and the severities. -/
theorem report_kinds (k : Fin 16) : (report s e).recorder.kinds.get k =
    { s.recorder.kinds.get k with
      status := (s.recorder.kinds.get k).status || decide (kindIndex e.kind = k) } := by
  rw [report_recorder]
  split <;> exact recordFault_kinds e s.recorder k

/-- An empty pointer takes an unmasked fault with its record (R161). -/
theorem report_empty_pointer (empty : s.recorder.pointer = none)
    (open_ : (s.recorder.kinds.get (kindIndex e.kind)).masked = false) :
    (report s e).recorder.pointer = some e.kind ∧ (report s e).recorder.record =
      some ⟨e.kind, (s.recorder.kinds.get (kindIndex e.kind)).severity, faultOrigin e, e.item, e.first, e.second,
        e.frame.map captureFrame⟩ := by
  simp [report_recorder, recordFault, empty, open_]

/-- A pointer that names a kind stands, with its record (R161). -/
theorem report_held_pointer (held : s.recorder.pointer ≠ none) :
    (report s e).recorder.pointer = s.recorder.pointer ∧ (report s e).recorder.record = s.recorder.record := by
  rw [report_recorder]
  unfold recordFault
  dsimp only
  cases h : s.recorder.pointer with
  | none => exact absurd h held
  | some k => split <;> simp

/-- What a report makes of the recorder is read off the recorder. -/
theorem report_recorder_congr {s t : State} (h : s.recorder = t.recorder) (e : FaultEvent) :
    (report s e).recorder = (report t e).recorder := by
  rw [report_recorder, report_recorder, h]

/-- What faults leave of the recorder, however many there are: masks and severities, the statuses that are set, a pointer that
names a kind with its record, and what an alert slot listens to. -/
structure RecorderGrows (r r' : Recorder) : Prop where
  masked : ∀ k, (r'.kinds.get k).masked = (r.kinds.get k).masked
  severity : ∀ k, (r'.kinds.get k).severity = (r.kinds.get k).severity
  status : ∀ k, (r.kinds.get k).status = true → (r'.kinds.get k).status = true
  held : r.pointer ≠ none → r'.pointer = r.pointer ∧ r'.record = r.record
  slots : ∀ i, (r'.slots.get i).kinds = (r.slots.get i).kinds ∧ (r'.slots.get i).tag = (r.slots.get i).tag ∧
    (r'.slots.get i).masked = (r.slots.get i).masked
  enable : r'.enable = r.enable

end

theorem RecorderGrows.refl (r : Recorder) : RecorderGrows r r :=
  ⟨fun _ => rfl, fun _ => rfl, fun _ => id, fun _ => ⟨rfl, rfl⟩, fun _ => ⟨rfl, rfl, rfl⟩, rfl⟩

theorem RecorderGrows.trans {r r' r'' : Recorder} (h : RecorderGrows r r') (k : RecorderGrows r' r'') :
    RecorderGrows r r'' where
  masked i := (k.masked i).trans (h.masked i)
  severity i := (k.severity i).trans (h.severity i)
  status i set := k.status i (h.status i set)
  held set := by
    obtain ⟨p, q⟩ := h.held set
    obtain ⟨p', q'⟩ := k.held (by rw [p]; exact set)
    exact ⟨p'.trans p, q'.trans q⟩
  slots i := by
    obtain ⟨kinds, tag, masked⟩ := h.slots i
    obtain ⟨kinds', tag', masked'⟩ := k.slots i
    exact ⟨kinds'.trans kinds, tag'.trans tag, masked'.trans masked⟩
  enable := k.enable.trans h.enable

/-- What a fault writes of pointer, record and statuses leaves the slots and the enable. -/
theorem recordFault_slots (r : Recorder) (e : FaultEvent) :
    (recordFault r e).slots = r.slots ∧ (recordFault r e).enable = r.enable := by
  unfold recordFault
  dsimp only
  split
  · exact ⟨rfl, rfl⟩
  · split <;> exact ⟨rfl, rfl⟩

theorem report_grows (s : State) (e : FaultEvent) : RecorderGrows s.recorder (report s e).recorder where
  masked k := by rw [report_kinds]
  severity k := by rw [report_kinds]
  status k set := by rw [report_kinds]; simp [set]
  held := report_held_pointer s e
  slots i := by
    obtain ⟨slots, -⟩ := recordFault_slots s.recorder e
    rw [report_recorder]
    split
    · rw [slots]; exact ⟨rfl, rfl, rfl⟩
    · simp only [Tab.get_map, slots, pendAlert]
      split <;> exact ⟨rfl, rfl, rfl⟩
  enable := by
    obtain ⟨-, enable⟩ := recordFault_slots s.recorder e
    rw [report_recorder]
    split <;> exact enable

/-! ### The changes of one chain -/

/-- A withdrawal takes the entry of an owner from above the bottom, and the flag tells whether it was the top (R12). -/
def withdrawn (l : Loop) (o : Owner) : Loop :=
  { l with
    chain := l.chain.take 1 ++ l.chain.tail.filter fun e => e.owner != o
    stale := l.stale || decide (l.chain.tail.getLast?.map (·.owner) = some o)
    boost := if o = .boost then none else l.boost }

theorem withdraw_of_some {s : State} {n : Fin 12} {l : Loop} (h : s.loops.get n = some l) (o : Owner) :
    withdraw s n o = setLoop s n (withdrawn l o) := by
  unfold withdraw withdrawn
  rw [h]
  dsimp only
  cases hc : l.chain with
  | nil => simp [withoutOwner, ownsTop]
  | cons bottom above =>
    have top : (ownsTop (bottom :: above) o && decide (1 < (bottom :: above).length)) =
        decide (above.getLast?.map (·.owner) = some o) := by
      cases above with
      | nil => simp
      | cons e above =>
        rw [ownsTop, List.getLast?_cons_cons]
        cases hl : (e :: above).getLast? with
        | none => simp at hl
        | some x => simp [beq_eq_decide]
    simp only [withoutOwner, List.take_succ_cons, List.take_zero, List.tail_cons, List.singleton_append, top]
    rfl

theorem withdraw_of_none {s : State} {n : Fin 12} (h : s.loops.get n = none) (o : Owner) : withdraw s n o = s := by
  simp [withdraw, h]

/-- A second withdrawal finds nothing to take. -/
theorem withdrawn_twice (l : Loop) (o : Owner) : withdrawn (withdrawn l o) o = withdrawn l o := by
  have last : ((l.chain.tail.filter fun e => e.owner != o).getLast?.map (·.owner)) ≠ some o := by
    intro h
    obtain ⟨e, he, rfl⟩ := Option.map_eq_some_iff.1 h
    have := List.of_mem_filter (List.mem_of_getLast? he)
    simp at this
  have boost (x : Option Nat) : (if o = .boost then none else if o = .boost then none else x) =
      if o = .boost then none else x := by split <;> rfl
  cases hc : l.chain with
  | nil => simp [withdrawn, hc, boost]
  | cons bottom above =>
    simp only [hc, List.tail_cons] at last
    simp only [withdrawn, hc, List.take_succ_cons, List.take_zero, List.tail_cons, List.singleton_append,
      List.filter_filter, Bool.and_self, last, decide_false, Bool.or_false, boost]

theorem push_of_none {s : State} {n : Fin 12} (h : s.loops.get n = none) (c : Change) (k : Fin 16) (f : Option Frame) :
    push s n c k f = (s, false) := by
  simp [push, h]

/-- A loop with an entry pushed on its chain (R11, R15). -/
def pushed (l : Loop) (c : Change) (k : Fin 16) : Loop :=
  { l with
    chain := l.chain ++ [⟨k, changeOwner c⟩]
    stale := true
    boost := if c = .boostPush then some boostStart else l.boost }

/-- A push is taken when its checks pass (R8, R11), and is reported with the field code of the first that fails otherwise
(R9). -/
theorem push_of_some {s : State} {n : Fin 12} {l : Loop} (h : s.loops.get n = some l) (c : Change) (k : Fin 16)
    (f : Option Frame) : push s n c k f =
      if changeCode s l.chain c k = 0 then (setLoop s n (pushed l c k), true)
      else (refuseProfile s n (changeCode s l.chain c k) k f, false) := by
  unfold push
  rw [h]
  dsimp only
  rw [attachCheck_eq]
  split <;> (rename_i he; split at he <;> simp_all [pushed])

/-- The field code of a boost push. -/
theorem changeCode_boost (s : State) (l : Loop) : changeCode s l.chain .boostPush l.info.boostEntry = boostCode s l := by
  cases hp : profileAt s l.info.boostEntry with
  | none => simp [changeCode, boostCode, hp, firstFailingCheck]
  | some p => simp [changeCode, boostCode, hp, kindFits, overridesFit, depthFits, programFits]

/-- The field code of a program's push. -/
theorem changeCode_dry (s : State) (chain : List Entry) (p : Prog) (k : Fin 16) :
    changeCode s chain (.dryPush p) k = dryCode s p k chain := by
  cases hp : profileAt s k with
  | none => simp [changeCode, dryCode, hp, firstFailingCheck]
  | some p => simp [changeCode, dryCode, hp, kindFits, overridesFit, depthFits, programFits]

/-- A loop whose base has been switched to another profile (R10). -/
def switched (l : Loop) (k : Fin 16) : Loop :=
  match l.chain with
  | [] => l
  | bottom :: above =>
    if bottom.profile = k then l
    else { l with chain := { bottom with profile := k } :: above, stale := l.stale || above.isEmpty }

theorem setLoop_self {s : State} {n : Fin 12} {l : Loop} (h : s.loops.get n = some l) : setLoop s n l = s := by
  unfold setLoop
  rw [show s.loops.set n (some l) = s.loops from Tab.ext_get fun m => by rw [Tab.get_set]; split <;> simp_all]

/-- A base switch is made when its checks pass or nothing is to change (R8, R10), and is reported with the field code of the
first that fails otherwise (R9). -/
theorem baseSwitch_of_some {s : State} {n : Fin 12} {l : Loop} (h : s.loops.get n = some l) (k : Fin 16)
    (f : Option Frame) : baseSwitch s n k f =
      if switchCode s l.chain k = 0 then setLoop s n (switched l k)
      else refuseProfile s n (switchCode s l.chain k) k f := by
  have same := setLoop_self h
  unfold baseSwitch switched
  rw [h]
  dsimp only
  cases hc : l.chain with
  | nil => simp [switchCode, same]
  | cons bottom above =>
    dsimp only
    by_cases hb : bottom.profile = k
    · simp [hb, switchCode, same]
    · have code : switchCode s (bottom :: above) k = changeCode s (bottom :: above) .baseSwitch k := by
        cases hp : profileAt s k with
        | none => simp [switchCode, changeCode, hp, hb, firstFailingCheck]
        | some p => simp [switchCode, changeCode, hp, hb, kindFits, overridesFit, depthFits, programFits]
      rw [if_neg hb, if_neg hb, attachCheck_eq, code]
      split <;> (rename_i he; split at he <;> simp_all)

theorem baseSwitch_of_none {s : State} {n : Fin 12} (h : s.loops.get n = none) (k : Fin 16) (f : Option Frame) :
    baseSwitch s n k f = s := by
  simp [baseSwitch, h]

/-! ### Changes of chains and the work in progress -/

section
variable (s : State) (o : Option DryOperation) (v : Option NoticeVisit)

theorem withdraw_withWork (n : Fin 12) (owner : Owner) :
    withdraw (s.withWork o v) n owner = (withdraw s n owner).withWork o v := by
  cases h : s.loops.get n with
  | none => rw [withdraw_of_none h, withdraw_of_none (s := s.withWork o v) h]
  | some l => rw [withdraw_of_some h, withdraw_of_some (s := s.withWork o v) h]; rfl

theorem push_withWork (n : Fin 12) (c : Change) (k : Fin 16) (f : Option Frame) :
    push (s.withWork o v) n c k f = ((push s n c k f).1.withWork o v, (push s n c k f).2) := by
  cases h : s.loops.get n with
  | none => rw [push_of_none h, push_of_none (s := s.withWork o v) h]
  | some l =>
    rw [push_of_some h, push_of_some (s := s.withWork o v) h,
      show changeCode (s.withWork o v) = changeCode s from rfl]
    split
    · rfl
    · unfold refuseProfile; rw [report_withWork]

theorem baseSwitch_withWork (n : Fin 12) (k : Fin 16) (f : Option Frame) :
    baseSwitch (s.withWork o v) n k f = (baseSwitch s n k f).withWork o v := by
  cases h : s.loops.get n with
  | none => rw [baseSwitch_of_none h, baseSwitch_of_none (s := s.withWork o v) h]
  | some l =>
    rw [baseSwitch_of_some h, baseSwitch_of_some (s := s.withWork o v) h,
      show switchCode (s.withWork o v) = switchCode s from rfl]
    split
    · rfl
    · unfold refuseProfile; rw [report_withWork]

end

end Sys2Proof.Machine

open Sys2Proof Sys2Proof.Machine

/-- Settles O12: the loop at the head of the withdrawal is the one that time has passed for, and its timer is stopped. -/
theorem boostExpiryWithdrawsTheBoostEntry : Obligations.BoostExpiryWithdrawsTheBoostEntry := by
  unfold Obligations.BoostExpiryWithdrawsTheBoostEntry
  intro s n l left bottom above hl hb hc
  have running : ((s.loops.get n).bind (·.boost)).isSome = true := by simp [hl, hb]
  have passed : boostLeft s n = left := by simp [boostLeft, hl, hb]
  have later := elapse_loop s left n
  rw [hl] at later
  obtain ⟨l', hl', same⟩ := Option.map_eq_some_iff.1 later
  simp only [Prod.mk.injEq] at same
  obtain ⟨info, chain, stale, -⟩ := same
  have expiry : exec (.boostTimerExpiry n) s = .next (withdraw (elapse left s) n .boost) := by
    simp only [exec, execBoostTimerExpiry, running, passed, if_true]
  rw [expiry, withdraw_of_some hl']
  simp [withdrawn, info, chain, stale, hc]

end

section
/-! WARM_RESET (R171): what the channels and the programs become. -/

namespace Sys2Proof.Machine

open Sys2Proof

/-- What a program holds once its operation has been abandoned (R139). -/
theorem abandonedInstance_cases (s : State) (p : Prog) :
    (∀ o, s.operation = some o → o.prog = p → (instanceOf s p).state = o.before.state →
      abandonedInstance s p = o.before) ∧
    (∀ o, s.operation = some o → o.prog = p → (instanceOf s p).state ≠ o.before.state →
      abandonedInstance s p = { instanceOf s p with members := o.before.members }) ∧
    ((∀ o, s.operation = some o → o.prog ≠ p) → abandonedInstance s p = instanceOf s p) := by
  unfold abandonedInstance
  cases h : s.operation with
  | none => exact ⟨nofun, nofun, fun _ => rfl⟩
  | some o =>
    refine ⟨?_, ?_, fun other => if_pos (other o rfl)⟩
    · rintro _ ⟨⟩ own same
      simp [own, same]
    · rintro _ ⟨⟩ own changed
      simp [own, changed]

theorem warmReset_instanceOf (straps : BitVec 3) (memory : Option (List Word16)) (s : State) (p : Prog) :
    instanceOf (warmReset straps memory s) p = keptInstance s p := by
  cases p <;> rfl

/-- The channels that come back IDLE with their flag set (R127). -/
theorem comesBackIdle_of_rows {s : State} {n : Fin 12}
    (h : (s.channels.get n).state = .idle ∨ (s.channels.get n).state = .drivingOpen ∨
      (s.channels.get n).state = .drivingClose ∨ (s.channels.get n).state = .reversing ∨
      ((s.channels.get n).state = .queued ∧ (entryOf s n).map (·.kind) = some .move) ∨
      ((s.channels.get n).state = .settling ∧ (s.channels.get n).move.map (·.kind) = some .move) ∨
      ((s.channels.get n).state = .disabled ∧ (s.channels.get n).calibrated = true)) :
    comesBackIdle s n = true := by
  unfold comesBackIdle
  rcases h with h | h | h | h | ⟨h, k⟩ | ⟨h, k⟩ | ⟨h, k⟩ <;> simp only [h]
  · obtain ⟨e, he, kind⟩ := Option.map_eq_some_iff.1 k
    simp [queuedFor, h, he, kind]
  · obtain ⟨m, hm, kind⟩ := Option.map_eq_some_iff.1 k
    simp [hm, kind]
  · exact k

/-- The channels that come back UNCALIBRATED with their flag clear (R127). -/
theorem not_comesBackIdle_of_rows {s : State} {n : Fin 12}
    (h : (s.channels.get n).state = .uncalibrated ∨ (s.channels.get n).state = .calClose ∨
      (s.channels.get n).state = .calOpen ∨
      ((s.channels.get n).state = .queued ∧ (entryOf s n).map (·.kind) = some .calibrate) ∨
      ((s.channels.get n).state = .settling ∧ (s.channels.get n).move.map (·.kind) = some .calibrate) ∨
      ((s.channels.get n).state = .disabled ∧ (s.channels.get n).calibrated = false)) :
    comesBackIdle s n = false := by
  unfold comesBackIdle
  rcases h with h | h | h | ⟨h, k⟩ | ⟨h, k⟩ | ⟨h, k⟩ <;> simp only [h]
  · obtain ⟨e, he, kind⟩ := Option.map_eq_some_iff.1 k
    simp [queuedFor, h, he, kind]
  · obtain ⟨m, hm, kind⟩ := Option.map_eq_some_iff.1 k
    simp [hm, kind]
  · exact k

theorem warmReset_channel (straps : BitVec 3) (memory : Option (List Word16)) (s : State) (n : Fin 12) :
    (warmReset straps memory s).channels.get n = warmChannel s n := Tab.get_tabulate _ n

end Sys2Proof.Machine

open Sys2Proof Sys2Proof.Machine

/-- Settles O5: block by block, with the programs by their operation and the channels by the rows of R127. -/
theorem warmResetKeepsWhatTheManualLists : Obligations.WarmResetKeepsWhatTheManualLists := by
  unfold Obligations.WarmResetKeepsWhatTheManualLists
  intro straps memory s
  have reset (n) : State.reset.channels.get n = Channel.reset := Tab.get_fill _ n
  refine ⟨warmReset straps memory s, rfl, rfl, rfl, fun k => Tab.get_tabulate _ k, fun i => Tab.get_map _ _ i,
    fun p => ?_, fun n => ?_, fun n h => ?_, fun n h => ?_⟩
  · obtain ⟨unchanged, changed, other⟩ := abandonedInstance_cases s p
    exact ⟨abandonedInstance s p, unchanged, changed, other, warmReset_instanceOf straps memory s p⟩
  · rw [warmReset_channel, reset]; rfl
  · rw [warmReset_channel]; simp [warmChannel, comesBackIdle_of_rows h]
  · rw [warmReset_channel]; simp [warmChannel, not_comesBackIdle_of_rows h]

end

section
/-! Changes that visit loops one after the other: of a mode notice, of a start of a program, of the withdrawals at its end. Each
acts on its own loop alone, so what they make together is read off loop by loop, and the first refusal is the one recorded. -/

namespace Sys2Proof.Machine

open Sys2Proof

/-- `visit` changes the loop that it names and no other: from `x` to `after n x`, where the field code `code n x` is 0 when the
change is made and that of the refused profile `number n x` otherwise. The profiles are those of `u`. -/
structure VisitsLoops (u : State) (visit : State → Fin 12 → State) (after : Fin 12 → Option Loop → Option Loop)
    (code : Fin 12 → Option Loop → Nat) (number : Fin 12 → Option Loop → Fin 16) (frame : Option Frame) : Prop where
  config : ∀ s n, (visit s n).config = s.config
  other : ∀ s n m, m ≠ n → (visit s n).loops.get m = s.loops.get m
  own : ∀ s n, s.config = u.config → (visit s n).loops.get n = after n (s.loops.get n)
  made : ∀ s n, s.config = u.config → code n (s.loops.get n) = 0 →
    (visit s n).recorder = s.recorder ∧ (visit s n).bus = s.bus
  refused : ∀ s n, s.config = u.config → code n (s.loops.get n) ≠ 0 →
    (visit s n).recorder = (report s ⟨.profileRefused, n.val + 1, ((code n (s.loops.get n) : Nat) : Int),
      (number n (s.loops.get n)).val, frame⟩).recorder

namespace VisitsLoops

variable {u : State} {visit : State → Fin 12 → State} {after : Fin 12 → Option Loop → Option Loop}
  {code : Fin 12 → Option Loop → Nat} {number : Fin 12 → Option Loop → Fin 16} {frame : Option Frame}

theorem foldl_config (h : VisitsLoops u visit after code number frame) (l : List (Fin 12)) :
    ∀ s, (l.foldl visit s).config = s.config := by
  induction l with
  | nil => intro; rfl
  | cons n l ih => intro s; rw [List.foldl_cons, ih, h.config]

/-- A loop that is not visited stands. -/
theorem foldl_unvisited (h : VisitsLoops u visit after code number frame) {m : Fin 12} (l : List (Fin 12)) :
    ∀ s, m ∉ l → (l.foldl visit s).loops.get m = s.loops.get m := by
  induction l with
  | nil => intros; rfl
  | cons n l ih =>
    intro s hm
    rw [List.mem_cons, not_or] at hm
    rw [List.foldl_cons, ih _ hm.2, h.other s n m hm.1]

/-- A loop that is visited once, or by changes that are made once for all, is changed. -/
theorem foldl_visited (h : VisitsLoops u visit after code number frame) {m : Fin 12} (l : List (Fin 12))
    (once : l.Nodup ∨ ∀ x, after m (after m x) = after m x) :
    ∀ s, s.config = u.config → m ∈ l → (l.foldl visit s).loops.get m = after m (s.loops.get m) := by
  induction l with
  | nil => intro s _ hm; cases hm
  | cons n l ih =>
    intro s config hm
    have config' : (visit s n).config = u.config := (h.config s n).trans config
    have once' : l.Nodup ∨ ∀ x, after m (after m x) = after m x := once.imp (fun d => (List.nodup_cons.1 d).2) id
    rw [List.foldl_cons]
    by_cases hn : m = n
    · subst hn
      have own := h.own s m config
      by_cases later : m ∈ l
      · rcases once with d | twice
        · exact absurd later (List.nodup_cons.1 d).1
        · rw [ih once' _ config' later, own, twice]
      · rw [foldl_unvisited h l _ later, own]
    · have later : m ∈ l := (List.mem_cons.1 hm).resolve_left hn
      rw [ih once' _ config' later, h.other s n m hn]

/-- A visit leaves the recorder with what it held. -/
theorem grows (h : VisitsLoops u visit after code number frame) {s : State} (config : s.config = u.config) (n : Fin 12) :
    RecorderGrows s.recorder (visit s n).recorder := by
  by_cases hc : code n (s.loops.get n) = 0
  · rw [(h.made s n config hc).1]; exact .refl _
  · rw [h.refused s n config hc]; exact report_grows s _

theorem foldl_grows (h : VisitsLoops u visit after code number frame) (l : List (Fin 12)) :
    ∀ s, s.config = u.config → RecorderGrows s.recorder (l.foldl visit s).recorder := by
  induction l with
  | nil => intros; exact .refl _
  | cons n l ih => intro s config; exact (h.grows config n).trans (ih _ ((h.config s n).trans config))

/-- Where every change is made nothing is reported. -/
theorem foldl_made (h : VisitsLoops u visit after code number frame) (l : List (Fin 12)) :
    ∀ s, s.config = u.config → l.Nodup → (∀ n ∈ l, code n (s.loops.get n) = 0) →
      (l.foldl visit s).recorder = s.recorder ∧ (l.foldl visit s).bus = s.bus := by
  induction l with
  | nil => intros; exact ⟨rfl, rfl⟩
  | cons n l ih =>
    intro s config distinct codes
    obtain ⟨unseen, distinct⟩ := List.nodup_cons.1 distinct
    obtain ⟨recorder, bus⟩ := h.made s n config (codes n List.mem_cons_self)
    have rest : ∀ m ∈ l, code m ((visit s n).loops.get m) = 0 := fun m hm => by
      rw [h.other s n m fun e => unseen (e ▸ hm)]
      exact codes m (List.mem_cons_of_mem n hm)
    obtain ⟨recorder', bus'⟩ := ih _ ((h.config s n).trans config) distinct rest
    exact ⟨recorder'.trans recorder, bus'.trans bus⟩

/-- A change that is refused leaves its status set, and the first of them its record in an empty pointer. -/
theorem foldl_refused (h : VisitsLoops u visit after code number frame) {s : State} (config : s.config = u.config)
    {earlier later : List (Fin 12)} {n : Fin 12} (distinct : (earlier ++ n :: later).Nodup)
    (codes : ∀ m ∈ earlier, code m (s.loops.get m) = 0) (refusal : code n (s.loops.get n) ≠ 0) :
    let t := (earlier ++ n :: later).foldl visit s
    (t.recorder.kinds.get (kindIndex .profileRefused)).status = true ∧
    (s.recorder.pointer = none → (s.recorder.kinds.get (kindIndex .profileRefused)).masked = false →
      t.recorder.pointer = some .profileRefused ∧
      t.recorder.record = some (refusalRecord s n (code n (s.loops.get n)) (number n (s.loops.get n)) frame)) := by
  obtain ⟨distinct₁, distinct₂, apart⟩ := List.nodup_append.1 distinct
  obtain ⟨recorder, bus⟩ := h.foldl_made earlier s config distinct₁ codes
  have config₁ : (earlier.foldl visit s).config = u.config := (h.foldl_config earlier s).trans config
  have own : (earlier.foldl visit s).loops.get n = s.loops.get n :=
    h.foldl_unvisited earlier s fun hn => apart n hn n List.mem_cons_self rfl
  have refused := h.refused (earlier.foldl visit s) n config₁ (by rwa [own])
  have grows := h.foldl_grows later (visit (earlier.foldl visit s) n) ((h.config _ n).trans config₁)
  simp only [List.foldl_append, List.foldl_cons]
  rw [own] at refused
  refine ⟨grows.status _ (by rw [refused, report_kinds]; simp), fun empty unmasked => ?_⟩
  obtain ⟨pointer, record⟩ := report_empty_pointer (earlier.foldl visit s)
    ⟨.profileRefused, n.val + 1, ((code n (s.loops.get n) : Nat) : Int), (number n (s.loops.get n)).val, frame⟩
    (by rw [recorder, empty]) (by rw [recorder, unmasked])
  obtain ⟨held, heldRecord⟩ := grows.held (by rw [refused, pointer]; exact Option.some_ne_none _)
  rw [held, heldRecord, refused, pointer, record, recorder]
  refine ⟨rfl, ?_⟩
  cases frame <;> rfl

/-- A refused change leaves its status set. -/
theorem foldl_status (h : VisitsLoops u visit after code number frame) {l : List (Fin 12)} (distinct : l.Nodup) {s : State}
    (config : s.config = u.config) {n : Fin 12} (hn : n ∈ l) (refusal : code n (s.loops.get n) ≠ 0) :
    ((l.foldl visit s).recorder.kinds.get (kindIndex .profileRefused)).status = true := by
  obtain ⟨earlier, later, rfl⟩ := List.append_of_mem hn
  rw [List.foldl_append, List.foldl_cons]
  obtain ⟨-, -, apart⟩ := List.nodup_append.1 distinct
  have own : (earlier.foldl visit s).loops.get n = s.loops.get n :=
    h.foldl_unvisited earlier s fun hn => apart n hn n List.mem_cons_self rfl
  have config₁ : (earlier.foldl visit s).config = u.config := (h.foldl_config earlier s).trans config
  refine (h.foldl_grows later _ ((h.config _ n).trans config₁)).status _ ?_
  rw [h.refused _ n config₁ (by rwa [own]), report_kinds]
  simp

/-- The changes report refused profiles alone. -/
theorem foldl_other (h : VisitsLoops u visit after code number frame) {k : Fin 16} (other : kindIndex .profileRefused ≠ k)
    (l : List (Fin 12)) : ∀ s, s.config = u.config →
      ((l.foldl visit s).recorder.kinds.get k).status = (s.recorder.kinds.get k).status := by
  induction l with
  | nil => intros; rfl
  | cons n l ih =>
    intro s config
    rw [List.foldl_cons, ih _ ((h.config s n).trans config)]
    by_cases hc : code n (s.loops.get n) = 0
    · rw [(h.made s n config hc).1]
    · rw [h.refused s n config hc, report_kinds]
      simp [other]

end VisitsLoops

/-- A loop that stands in an ordered list of loops follows those that are lower. -/
theorem exists_split_of_mem_filter {keep : Fin 12 → Bool} {n : Fin 12} (h : keep n = true) :
    ∃ earlier later, (List.finRange 12).filter keep = earlier ++ n :: later ∧
      ∀ m ∈ earlier, m < n ∧ keep m = true := by
  have hn : n ∈ (List.finRange 12).filter keep := by simp [h]
  obtain ⟨earlier, later, e⟩ := List.append_of_mem hn
  have sorted : ((List.finRange 12).filter keep).Pairwise (· < ·) := (List.pairwise_lt_finRange 12).filter _
  refine ⟨earlier, later, e, fun m hm => ⟨?_, ?_⟩⟩
  · rw [e] at sorted
    exact (List.pairwise_append.1 sorted).2.2 m hm n List.mem_cons_self
  · have : m ∈ (List.finRange 12).filter keep := by rw [e]; exact List.mem_append_left _ hm
    exact (List.mem_filter.1 this).2

/-! ### The changes of a mode notice -/

theorem setVisiting_eq (s : State) (k : Notice) (todo : List (Fin 12 × NoticeChange)) :
    setVisiting s k todo = s.withWork s.operation (if todo = [] then none else some ⟨k, todo⟩) := by
  cases todo <;> rfl

theorem noticeChange_withWork (k : Notice) (s : State) (o : Option DryOperation) (v : Option NoticeVisit)
    (x : Fin 12 × NoticeChange) : noticeChange k (s.withWork o v) x = (noticeChange k s x).withWork o v := by
  unfold noticeChange
  rw [show (s.withWork o v).loops = s.loops from rfl]
  split
  · rfl
  · split
    · rw [push_withWork]
    · exact withdraw_withWork s o v _ _
    · exact baseSwitch_withWork s o v _ _ _

theorem noticeChange_operation (k : Notice) (s : State) (x : Fin 12 × NoticeChange) :
    (noticeChange k s x).operation = s.operation := by
  obtain ⟨_, _, _, _, _, h⟩ := noticeChange_frame k s x; rw [h]

theorem noticeStep_setVisiting (s : State) (k : Notice) (x : Fin 12 × NoticeChange) (todo : List (Fin 12 × NoticeChange)) :
    noticeStep (setVisiting s k (x :: todo)) = setVisiting (noticeChange k s x) k todo := by
  rw [setVisiting_eq s, setVisiting_eq (noticeChange k s x)]
  simp only [noticeStep, State.withWork, reduceCtorEq, if_false]
  rw [setVisiting_eq]
  have := noticeChange_withWork k s s.operation (some ⟨k, x :: todo⟩) x
  simp only [State.withWork] at this
  rw [this]
  simp only [State.withWork, noticeChange_operation]

/-- A step beyond the end of a notice changes nothing. -/
theorem noticeStep_of_none {s : State} (h : s.visiting = none) : noticeStep s = s := by simp [noticeStep, h]

/-- A notice carried out to its end has made its changes one after the other. -/
theorem times_noticeStep_setVisiting (k : Notice) (todo : List (Fin 12 × NoticeChange)) :
    ∀ s, times noticeStep todo.length (setVisiting s k todo) = setVisiting (todo.foldl (noticeChange k) s) k [] := by
  induction todo with
  | nil => intro; rfl
  | cons x todo ih =>
    intro s
    rw [List.length_cons, times, noticeStep_setVisiting, ih, List.foldl_cons]

theorem finishNotice_setVisiting (s : State) (k : Notice) (todo : List (Fin 12 × NoticeChange)) :
    finishNotice (setVisiting s k todo) = setVisiting (todo.foldl (noticeChange k) s) k [] := by
  have left : noticeLeft (setVisiting s k todo) = if todo = [] then 0 else todo.length + 1 := by
    cases todo <;> simp [noticeLeft]
  unfold finishNotice
  rw [left]
  split
  · subst todo; rfl
  · rw [times_add, times_noticeStep_setVisiting, times, times, noticeStep_of_none rfl]

/-- As many steps as are left, or more, carry a notice out. -/
theorem times_noticeStep_eq_finish {s : State} {j : Nat} (h : noticeLeft s ≤ j) : times noticeStep j s = finishNotice s := by
  obtain ⟨d, rfl⟩ := Nat.exists_eq_add_of_le h
  rw [times_add]
  exact times_of_fixed (noticeStep_of_none (finishNotice_visiting s)) d

/-- Finishing takes up where a piece has left off. -/
theorem finishNotice_piece (m : Nat) : ∀ s : State, finishNotice (times noticeStep m s) = finishNotice s := by
  induction m with
  | zero => intro; rfl
  | succ m ih =>
    intro s
    have fewer : noticeLeft (noticeStep s) ≤ noticeLeft s := (noticeLeft_noticeStep s).trans (Nat.sub_le _ _)
    calc finishNotice (times noticeStep (m + 1) s)
        = finishNotice (noticeStep s) := ih (noticeStep s)
      _ = times noticeStep (noticeLeft s) (noticeStep s) := (times_noticeStep_eq_finish fewer).symm
      _ = times noticeStep (noticeLeft s + 1) s := rfl
      _ = finishNotice s := times_noticeStep_eq_finish (Nat.le_succ _)

end Sys2Proof.Machine
end

section
/-! MODE_NOTICE (R14): the changes of a notice, visited loop by loop. -/

namespace Sys2Proof.Machine

open Sys2Proof

/-- The present loops of a notice's room, in loop-number order. -/
def roomLoops (s : State) (k : Notice) : List (Fin 12) :=
  (List.finRange 12).filter fun n => (s.loops.get n).any fun l => l.info.room == k.room

/-- The changes of a notice on one loop. -/
def noticeVisit (k : Notice) (s : State) (n : Fin 12) : State :=
  (noticeChanges k).foldl (fun s c => noticeChange k s (n, c)) s

theorem roomLoops_nodup (s : State) (k : Notice) : (roomLoops s k).Nodup := (List.nodup_finRange 12).filter _

theorem mem_roomLoops {s : State} {k : Notice} {n : Fin 12} :
    n ∈ roomLoops s k ↔ ∃ l, s.loops.get n = some l ∧ l.info.room = k.room := by
  simp [roomLoops, Option.any_eq_true]

theorem not_mem_roomLoops_of_none {s : State} {k : Notice} {n : Fin 12} (h : s.loops.get n = none) :
    n ∉ roomLoops s k := by simp [mem_roomLoops, h]

theorem foldl_noticeTodo (s : State) (k : Notice) :
    (noticeTodo s k).foldl (noticeChange k) s = (roomLoops s k).foldl (noticeVisit k) s := by
  unfold noticeTodo roomLoops
  rw [List.foldl_flatMap]
  congr 1
  funext t n
  rw [List.foldl_map]
  rfl

/-- A notice carried out whole: its room's loops visited one after the other. -/
theorem finishNotice_beginNotice (s : State) (k : Notice) :
    finishNotice (beginNotice s k) = setVisiting ((roomLoops s k).foldl (noticeVisit k) s) k [] := by
  rw [beginNotice, finishNotice_setVisiting, foldl_noticeTodo]

theorem noticeVisit_frame (k : Notice) (s : State) (n : Fin 12) : ChainFrame s (noticeVisit k s n) :=
  foldl_frame ChainFrame.refl ChainFrame.trans (fun s c => noticeChange_frame k s (n, c)) _ s

/-- MODE_NOTICE begins the oldest notice once the one before it has been carried out, and pieces of it make together what they
make at once. -/
theorem modeNotice_begins {s : State} {k : Notice} {later : List Notice} (h : s.rooms.notices = k :: later) :
    let u := finishNotice { s with rooms := { s.rooms with notices := later } }
    let v := beginNotice u k
    let t := finishNotice v
    (∃ m, exec .modeNotice s = .next (piece noticeStep m v)) ∧
    NoticeFrame { s with rooms := { s.rooms with notices := later } } u ∧ u.visiting = none ∧
    (s.visiting = none → u = { s with rooms := { s.rooms with notices := later } }) ∧
    (∀ m, finishNotice (times noticeStep m v) = t) ∧ ChainFrame u t := by
  intro u v t
  have idle : u.visiting = none := finishNotice_visiting _
  refine ⟨⟨Config.freeCut v.cuts, ?_⟩, finishNotice_frame _, idle, fun none_ => finishNotice_of_none none_,
    fun m => finishNotice_piece m v, ?_⟩
  · simp only [exec, execModeNotice, h]
    rfl
  · obtain ⟨loops, r, alert, placing, tx, e⟩ :=
      foldl_frame ChainFrame.refl ChainFrame.trans (noticeVisit_frame k) (roomLoops u k) u
    have done : t = setVisiting ((roomLoops u k).foldl (noticeVisit k) u) k [] := finishNotice_beginNotice u k
    refine ⟨loops, r, alert, placing, tx, ?_⟩
    rw [done, e, setVisiting_eq, State.withWork, ← idle]
    rfl

/-! ### Into BOOST -/

theorem boostCode_congr {s u : State} (h : s.config = u.config) : boostCode s = boostCode u := by
  funext l
  simp [boostCode, activeProfile, profileAt_congr h]

theorem boostCode_eq_zero {s : State} {l : Loop} : boostCode s l = 0 ↔
    (∃ p, profileAt s l.info.boostEntry = some p ∧ p.kind = .boost) ∧ (activeProfile s l.chain).overrides = true ∧
      l.chain.length ≤ 2 := by
  unfold boostCode
  rw [firstFailingCheck_eq_zero]
  cases profileAt s l.info.boostEntry <;> simp

/-- A loop of a room that has entered BOOST (R11, R14). -/
def boosted (u : State) (l : Loop) : Loop :=
  if boostCode u l = 0 then pushed l .boostPush l.info.boostEntry else l

theorem noticeVisit_boost {k : Notice} (h : k.after = .boost) (s : State) (n : Fin 12) :
    noticeVisit k s n = noticeChange k s (n, .push) := by
  simp [noticeVisit, noticeChanges, h]

theorem noticeChange_push {s : State} {n : Fin 12} {l : Loop} (k : Notice) (h : s.loops.get n = some l) :
    noticeChange k s (n, .push) =
      if boostCode s l = 0 then setLoop s n (pushed l .boostPush l.info.boostEntry)
      else refuseProfile s n (boostCode s l) l.info.boostEntry (some k.frame) := by
  simp only [noticeChange, h]
  rw [push_of_some h, changeCode_boost]
  split <;> rfl

theorem noticeChange_of_none {s : State} {n : Fin 12} (k : Notice) (h : s.loops.get n = none) (c : NoticeChange) :
    noticeChange k s (n, c) = s := by simp [noticeChange, h]

/-- A notice into BOOST visits the loops of its room. -/
theorem visitsLoops_boost (u : State) {k : Notice} (h : k.after = .boost) :
    VisitsLoops u (noticeVisit k) (fun _ x => x.map (boosted u)) (fun _ x => x.elim 0 (boostCode u))
      (fun _ x => x.elim 0 (·.info.boostEntry)) (some k.frame) where
  config s n := by obtain ⟨_, _, _, _, _, e⟩ := noticeVisit_frame k s n; rw [e]
  other s n m hm := by
    rw [noticeVisit_boost h]
    cases hl : s.loops.get n with
    | none => rw [noticeChange_of_none k hl]
    | some l =>
      rw [noticeChange_push k hl]
      split
      · exact Tab.get_set_ne _ _ hm.symm
      · rw [refuseProfile, report_loops]
  own s n config := by
    rw [noticeVisit_boost h]
    cases hl : s.loops.get n with
    | none => rw [noticeChange_of_none k hl, hl]; rfl
    | some l =>
      rw [noticeChange_push k hl, boostCode_congr config, Option.map_some, boosted]
      split
      · exact Tab.get_set_self _ _ _
      · rw [refuseProfile, report_loops, hl]
  made s n config hc := by
    rw [noticeVisit_boost h]
    cases hl : s.loops.get n with
    | none => rw [noticeChange_of_none k hl]; exact ⟨rfl, rfl⟩
    | some l =>
      rw [hl] at hc
      rw [noticeChange_push k hl, boostCode_congr config, if_pos (by exact hc)]
      exact ⟨rfl, rfl⟩
  refused s n config hc := by
    rw [noticeVisit_boost h]
    cases hl : s.loops.get n with
    | none => rw [hl] at hc; exact absurd rfl hc
    | some l =>
      rw [hl] at hc
      rw [noticeChange_push k hl, boostCode_congr config, if_neg (by exact hc)]
      rfl

end Sys2Proof.Machine

open Sys2Proof Sys2Proof.Machine

/-- Settles O10: a notice into BOOST visits the loops of its room, each with a push of its own. -/
theorem modeNoticeIntoBoostPushes : Obligations.ModeNoticeIntoBoostPushes := by
  unfold Obligations.ModeNoticeIntoBoostPushes
  refine ⟨fun s k later hk boost => ?_, fun s k n l todo visiting hl => ?_⟩
  · intro u v t
    obtain ⟨begins, before, idle, same, pieces, frame⟩ := modeNotice_begins hk
    have done : t = setVisiting ((roomLoops u k).foldl (noticeVisit k) u) k [] := finishNotice_beginNotice u k
    have loops : t.loops = ((roomLoops u k).foldl (noticeVisit k) u).loops := by rw [done]; rfl
    have recorder : t.recorder = ((roomLoops u k).foldl (noticeVisit k) u).recorder := by rw [done]; rfl
    have visits := visitsLoops_boost u boost
    have distinct := roomLoops_nodup u k
    have own : ∀ n l, u.loops.get n = some l → l.info.room = k.room → t.loops.get n = some (boosted u l) := by
      intro n l hl room
      rw [loops, visits.foldl_visited _ (.inl distinct) u rfl (mem_roomLoops.2 ⟨l, hl, room⟩), hl]
      rfl
    refine ⟨begins, before, idle, same, pieces, frame, fun n none_ => ?_, fun n l hl room => ?_,
      fun n l p hl room hp kind overrides depth => ?_, fun n l hl room refusal => ?_,
      fun n l hl room refusal first empty unmasked => ?_⟩
    · rw [loops, visits.foldl_unvisited _ u (not_mem_roomLoops_of_none none_), none_]
    · rw [loops, visits.foldl_unvisited _ u (by simp [mem_roomLoops, hl, room]), hl]
    · rw [own n l hl room, boosted, if_pos (boostCode_eq_zero.2 ⟨⟨p, hp, kind⟩, overrides, depth⟩)]
      rfl
    · have code : boostCode u l ≠ 0 := by
        rw [Ne, boostCode_eq_zero]
        rintro ⟨⟨p, hp, kind⟩, overrides, depth⟩
        rcases refusal with none_ | ⟨q, hq, other⟩ | never | deep
        · rw [hp] at none_; cases none_
        · rw [hp] at hq; cases hq; exact other kind
        · rw [overrides] at never; cases never
        · omega
      refine ⟨by rw [own n l hl room, boosted, if_neg code], ?_⟩
      rw [recorder]
      exact visits.foldl_status distinct rfl (mem_roomLoops.2 ⟨l, hl, room⟩) (by rw [hl]; exact code)
    · obtain ⟨earlier, after_, split, lower⟩ := exists_split_of_mem_filter
        (keep := fun n => (u.loops.get n).any fun l => l.info.room == k.room) (n := n) (by simp [hl, room])
      have whole : roomLoops u k = earlier ++ n :: after_ := split
      rw [whole] at distinct recorder
      have codes : ∀ m ∈ earlier, (u.loops.get m).elim 0 (boostCode u) = 0 := by
        intro m hm
        obtain ⟨below, served⟩ := lower m hm
        obtain ⟨x, hx, room'⟩ := Option.any_eq_true .. |>.1 served
        rw [hx]
        exact first m x below hx (by simpa using room')
      have refused := (visits.foldl_refused rfl distinct codes (by rw [hl]; exact refusal)).2 empty unmasked
      rw [recorder]
      simpa only [hl, Option.elim_some] using refused
  · intro left
    have step : noticeStep s = { noticeChange k s (n, .push) with visiting := left } := by
      simp only [noticeStep, visiting, setVisiting, List.isEmpty_iff]
      rfl
    rw [step, noticeChange_push k hl]
    refine ⟨fun code => ?_, fun code => ?_⟩
    · rw [if_pos code]; rfl
    · rw [if_neg code]; rfl

end

section
/-! MODE_NOTICE into another mode (R14): the BOOST entry withdrawn, and the base switched. -/

namespace Sys2Proof.Machine

open Sys2Proof

/-- A loop whose room leaves BOOST, or stays out of it, before its base is switched (R14). -/
def eased (k : Notice) (l : Loop) : Loop := if k.before = .boost then withdrawn l .boost else l

/-- The profile that a notice asks for at the bottom of a loop's chain. -/
def noticeEntry (k : Notice) (l : Loop) : Fin 16 := modeEntry l.info k.after

/-- The field code of a notice's base switch. -/
def noticeCode (u : State) (k : Notice) (l : Loop) : Nat := switchCode u (eased k l).chain (noticeEntry k l)

/-- A loop of a room whose mode has changed into another than BOOST. -/
def rebased (u : State) (k : Notice) (l : Loop) : Loop :=
  if noticeCode u k l = 0 then switched (eased k l) (noticeEntry k l) else eased k l

theorem eased_info (k : Notice) (l : Loop) : (eased k l).info = l.info := by
  unfold eased; split <;> rfl

theorem eased_chain (k : Notice) (l : Loop) : (eased k l).chain = l.chain.take 1 ++
    if k.before = .boost then l.chain.tail.filter (fun e => e.owner != .boost) else l.chain.tail := by
  unfold eased
  split
  · rfl
  · cases l.chain <;> rfl

theorem switchCode_congr {s u : State} (h : s.config = u.config) : switchCode s = switchCode u := by
  funext chain k
  simp [switchCode, profileAt_congr h]

/-- A base switch to another profile is made exactly when that is a base profile that carries what stands above (R8). -/
theorem switchCode_eq_zero {s : State} {bottom : Entry} {above : List Entry} {k : Fin 16} (h : bottom.profile ≠ k) :
    switchCode s (bottom :: above) k = 0 ↔
      ∃ p, profileAt s k = some p ∧ baseKind p.kind = true ∧ (above = [] ∨ p.overrides = true) := by
  have other : (bottom.profile == k) = false := by simpa using h
  simp only [switchCode, List.head?_cons, Option.all_some, other, Bool.false_eq_true, if_false, firstFailingCheck_eq_zero]
  cases profileAt s k with
  | none => simp
  | some p => cases above <;> simp

theorem switchCode_same {s : State} {bottom : Entry} {above : List Entry} {k : Fin 16} (h : bottom.profile = k) :
    switchCode s (bottom :: above) k = 0 := by simp [switchCode, h]

/-- What a notice into another mode makes of one loop. -/
theorem noticeVisit_switch {s : State} {k : Notice} (h : k.after ≠ .boost) {n : Fin 12} {l : Loop}
    (hl : s.loops.get n = some l) :
    noticeVisit k s n =
      if noticeCode s k l = 0 then setLoop (setLoop s n (eased k l)) n (switched (eased k l) (noticeEntry k l))
      else refuseProfile (setLoop s n (eased k l)) n (noticeCode s k l) (noticeEntry k l) (some k.frame) := by
  have own : (setLoop s n (eased k l)).loops.get n = some (eased k l) := Tab.get_set_self _ _ _
  have visit : noticeVisit k s n = noticeChange k (setLoop s n (eased k l)) (n, .switch) := by
    by_cases hb : k.before = .boost
    · simp only [noticeVisit, noticeChanges, h, hb, if_true, if_false, List.foldl_cons, List.foldl_nil, eased]
      congr 1
      simp only [noticeChange, hl]
      exact withdraw_of_some hl _
    · simp only [noticeVisit, noticeChanges, h, hb, if_false, List.foldl_cons, List.foldl_nil, eased]
      rw [setLoop_self hl]
  rw [visit]
  simp only [noticeChange, own, eased_info]
  rw [baseSwitch_of_some own, switchCode_congr (s := setLoop s n (eased k l)) (u := s) rfl]
  rfl

theorem noticeVisit_of_none {s : State} (k : Notice) {n : Fin 12} (h : s.loops.get n = none) : noticeVisit k s n = s := by
  have step := noticeChange_of_none k h
  unfold noticeVisit
  induction noticeChanges k with
  | nil => rfl
  | cons c l ih => rw [List.foldl_cons, step, ih]

theorem noticeCode_congr {s u : State} (h : s.config = u.config) : noticeCode s = noticeCode u := by
  funext k l
  simp only [noticeCode, switchCode_congr h]

/-- A notice into another mode visits the loops of its room. -/
theorem visitsLoops_switch (u : State) {k : Notice} (h : k.after ≠ .boost) :
    VisitsLoops u (noticeVisit k) (fun _ x => x.map (rebased u k)) (fun _ x => x.elim 0 (noticeCode u k))
      (fun _ x => x.elim 0 (noticeEntry k)) (some k.frame) where
  config s n := by obtain ⟨_, _, _, _, _, e⟩ := noticeVisit_frame k s n; rw [e]
  other s n m hm := by
    cases hl : s.loops.get n with
    | none => rw [noticeVisit_of_none k hl]
    | some l =>
      rw [noticeVisit_switch h hl]
      split
      · simp only [setLoop_loops, Tab.get_set_ne _ _ hm.symm]
      · simp only [refuseProfile, report_loops, setLoop_loops, Tab.get_set_ne _ _ hm.symm]
  own s n config := by
    cases hl : s.loops.get n with
    | none => rw [noticeVisit_of_none k hl, hl]; rfl
    | some l =>
      rw [noticeVisit_switch h hl, noticeCode_congr config, Option.map_some, rebased]
      split
      · exact Tab.get_set_self _ _ _
      · rw [refuseProfile, report_loops]; exact Tab.get_set_self _ _ _
  made s n config hc := by
    cases hl : s.loops.get n with
    | none => rw [noticeVisit_of_none k hl]; exact ⟨rfl, rfl⟩
    | some l =>
      rw [hl] at hc
      rw [noticeVisit_switch h hl, noticeCode_congr config, if_pos (by exact hc)]
      exact ⟨rfl, rfl⟩
  refused s n config hc := by
    cases hl : s.loops.get n with
    | none => rw [hl] at hc; exact absurd rfl hc
    | some l =>
      rw [hl] at hc
      rw [noticeVisit_switch h hl, noticeCode_congr config, if_neg (by exact hc)]
      exact report_recorder_congr (s := setLoop s n (eased k l)) (t := s) rfl _

/-- The three outcomes of a notice at one loop (R10, R12, R14). -/
theorem rebased_cases (u : State) {k : Notice} {l : Loop} {bottom : Entry} {rest : List Entry}
    (hc : (eased k l).chain = bottom :: rest) :
    (bottom.profile = noticeEntry k l → rebased u k l = eased k l) ∧
    (bottom.profile ≠ noticeEntry k l →
      (∃ p, profileAt u (noticeEntry k l) = some p ∧ baseKind p.kind = true ∧ (rest = [] ∨ p.overrides = true)) →
      rebased u k l = { eased k l with
        chain := { bottom with profile := noticeEntry k l } :: rest, stale := (eased k l).stale || rest.isEmpty }) ∧
    (bottom.profile ≠ noticeEntry k l →
      (¬ ∃ p, profileAt u (noticeEntry k l) = some p ∧ baseKind p.kind = true ∧ (rest = [] ∨ p.overrides = true)) →
      noticeCode u k l ≠ 0 ∧ rebased u k l = eased k l) := by
  have code : noticeCode u k l = switchCode u (bottom :: rest) (noticeEntry k l) := by rw [noticeCode, hc]
  refine ⟨fun same => ?_, fun other fits => ?_, fun other unfit => ?_⟩
  · rw [rebased, code, if_pos (switchCode_same same), switched, hc]
    exact if_pos same
  · rw [rebased, code, if_pos ((switchCode_eq_zero other).2 fits), switched, hc]
    exact if_neg other
  · have refused : noticeCode u k l ≠ 0 := by rwa [code, Ne, switchCode_eq_zero other]
    exact ⟨refused, by rw [rebased, if_neg refused]⟩

end Sys2Proof.Machine

open Sys2Proof Sys2Proof.Machine

/-- Settles O11: a notice into another mode visits the loops of its room, each with its withdrawal and its base switch. -/
theorem modeNoticeSwitchesTheBase : Obligations.ModeNoticeSwitchesTheBase := by
  unfold Obligations.ModeNoticeSwitchesTheBase
  intro entry
  have entries : entry = noticeEntry := by
    funext k l
    simp only [entry, noticeEntry]
    cases k.after <;> rfl
  clear_value entry
  subst entries
  refine ⟨fun s k later hk other => ?_, fun s k n l bottom above todo hl hc => ?_⟩
  · intro u v t
    obtain ⟨begins, before, idle, same, pieces, frame⟩ := modeNotice_begins hk
    have done : t = setVisiting ((roomLoops u k).foldl (noticeVisit k) u) k [] := finishNotice_beginNotice u k
    have loops : t.loops = ((roomLoops u k).foldl (noticeVisit k) u).loops := by rw [done]; rfl
    have recorder : t.recorder = ((roomLoops u k).foldl (noticeVisit k) u).recorder := by rw [done]; rfl
    have visits := visitsLoops_switch u other
    have distinct := roomLoops_nodup u k
    have own : ∀ n l, u.loops.get n = some l → l.info.room = k.room → t.loops.get n = some (rebased u k l) := by
      intro n l hl room
      rw [loops, visits.foldl_visited _ (.inl distinct) u rfl (mem_roomLoops.2 ⟨l, hl, room⟩), hl]
      rfl
    refine ⟨begins, before, idle, same, pieces, frame, fun n none_ => ?_, fun n l hl room => ?_, ?_⟩
    · rw [loops, visits.foldl_unvisited _ u (not_mem_roomLoops_of_none none_), none_]
    · rw [loops, visits.foldl_unvisited _ u (by simp [mem_roomLoops, hl, room]), hl]
    · intro left code
      have chains : ∀ l : Loop, left l.chain = (eased k l).chain := fun l => (eased_chain k l).symm
      refine ⟨fun n l bottom above hl room hc => ?_, fun n l hl room refusal first empty unmasked => ?_⟩
      · intro popped withdrawn_ rest fits
        have eased_ : withdrawn_ = eased k l := by
          have chain := chains l
          simp only [withdrawn_, popped]
          rw [chain]
          by_cases hb : k.before = .boost
          · simp [eased, hb, withdrawn, hc]
          · simp [eased, hb]
        have split : (eased k l).chain = bottom :: rest := by
          simp only [rest, eased_chain, hc]
          rfl
        obtain ⟨stays, moves, refuses⟩ := rebased_cases u split
        rw [own n l hl room, eased_]
        refine ⟨fun e => by rw [stays e], fun e fit => by rw [moves e fit], fun e unfit => ?_⟩
        obtain ⟨refusal, stays⟩ := refuses e unfit
        refine ⟨by rw [stays], ?_⟩
        rw [recorder]
        exact visits.foldl_status distinct rfl (mem_roomLoops.2 ⟨l, hl, room⟩) (by rw [hl]; exact refusal)
      · have codes_ : ∀ x, code x = noticeCode u k x := fun x => by simp only [code, chains]; rfl
        rw [codes_] at refusal ⊢
        obtain ⟨earlier, after_, split, lower⟩ := exists_split_of_mem_filter
          (keep := fun n => (u.loops.get n).any fun l => l.info.room == k.room) (n := n) (by simp [hl, room])
        have whole : roomLoops u k = earlier ++ n :: after_ := split
        rw [whole] at distinct recorder
        have codes : ∀ m ∈ earlier, (u.loops.get m).elim 0 (noticeCode u k) = 0 := by
          intro m hm
          obtain ⟨below, served⟩ := lower m hm
          obtain ⟨x, hx, room'⟩ := Option.any_eq_true .. |>.1 served
          rw [hx]
          exact (codes_ x).symm.trans (first m x below hx (by simpa using room'))
        have refused := (visits.foldl_refused rfl distinct codes (by rw [hl]; exact refusal)).2 empty unmasked
        rw [recorder]
        simpa only [hl, Option.elim_some] using refused
  · intro left
    refine ⟨fun visiting => ?_, fun visiting => ?_⟩
    · have step : noticeStep s = { withdraw s n .boost with visiting := left } := by
        simp only [noticeStep, visiting, setVisiting, List.isEmpty_iff, noticeChange, hl]
        rfl
      rw [step, withdraw_of_some hl]
      simp [withdrawn, hc, setLoop]
    · intro code
      have step : noticeStep s =
          { baseSwitch s n (noticeEntry k l) (some k.frame) with visiting := left } := by
        simp only [noticeStep, visiting, setVisiting, List.isEmpty_iff, noticeChange, hl]
        rfl
      rw [step, baseSwitch_of_some hl]
      refine ⟨fun e => ?_, fun e zero => ?_, fun e refusal => ?_⟩
      · have zero : switchCode s l.chain (noticeEntry k l) = 0 := by rw [hc]; exact switchCode_same e
        rw [if_pos zero, show switched l (noticeEntry k l) = l by simp [switched, hc, e], setLoop_self hl]
      · rw [if_pos zero, show switched l (noticeEntry k l) = { l with
          chain := { bottom with profile := noticeEntry k l } :: above, stale := l.stale || above.isEmpty } by
            simp [switched, hc, e]]
        rfl
      · rw [if_neg refusal]; rfl

end

section
/-! The operations of the dry-out sequencer: what their steps make together. -/

namespace Sys2Proof.Machine

open Sys2Proof

/-! ### Program instances -/

theorem instanceOf_setInstance_other (s : State) {p q : Prog} (i : DryInstance) (h : q ≠ p) :
    instanceOf (setInstance s p i) q = instanceOf s q := by
  cases p <;> cases q <;> simp_all [instanceOf, setInstance]

@[simp] theorem instanceOf_withWork (s : State) (o : Option DryOperation) (v : Option NoticeVisit) (p : Prog) :
    instanceOf (s.withWork o v) p = instanceOf s p := by cases p <;> rfl

theorem setInstance_withWork (s : State) (o : Option DryOperation) (v : Option NoticeVisit) (p : Prog) (i : DryInstance) :
    setInstance (s.withWork o v) p i = (setInstance s p i).withWork o v := by cases p <;> rfl

@[simp] theorem instanceOf_setLoop (s : State) (n : Fin 12) (l : Loop) (p : Prog) :
    instanceOf (setLoop s n l) p = instanceOf s p := by cases p <;> rfl

/-- A withdrawal reports nothing and changes no record of a program. -/
theorem withdraw_beside (s : State) (n : Fin 12) (o : Owner) : (withdraw s n o).recorder = s.recorder ∧
    (withdraw s n o).bus = s.bus ∧ ∀ p, instanceOf (withdraw s n o) p = instanceOf s p := by
  cases h : s.loops.get n with
  | none => rw [withdraw_of_none h]; exact ⟨rfl, rfl, fun _ => rfl⟩
  | some l => rw [withdraw_of_some h]; exact ⟨rfl, rfl, instanceOf_setLoop s n _⟩

/-! ### The push of a program on one loop -/

theorem pushMember_of_none {s : State} {n : Fin 12} (h : s.loops.get n = none) (p : Prog) (k : Fin 16) :
    pushMember p k s n = s := by
  simp [pushMember, push_of_none h]

/-- A loop whose push is taken joins the member set; one that refuses it is reported (R11, R140). -/
theorem pushMember_of_some {s : State} {n : Fin 12} {l : Loop} (h : s.loops.get n = some l) (p : Prog) (k : Fin 16) :
    pushMember p k s n = if dryCode s p k l.chain = 0 then
        setInstance (setLoop s n (pushed l (.dryPush p) k)) p
          { instanceOf s p with members := (instanceOf s p).members ++ [n] }
      else refuseProfile s n (dryCode s p k l.chain) k none := by
  simp only [pushMember, push_of_some h, changeCode_dry]
  split <;> simp

theorem pushMember_withWork (p : Prog) (k : Fin 16) (s : State) (o : Option DryOperation) (v : Option NoticeVisit)
    (n : Fin 12) : pushMember p k (s.withWork o v) n = (pushMember p k s n).withWork o v := by
  cases h : s.loops.get n with
  | none => rw [pushMember_of_none h, pushMember_of_none (s := s.withWork o v) h]
  | some l =>
    rw [pushMember_of_some h, pushMember_of_some (s := s.withWork o v) h,
      show dryCode (s.withWork o v) = dryCode s from rfl]
    split
    · rw [instanceOf_withWork, show setLoop (s.withWork o v) n (pushed l (.dryPush p) k) =
        (setLoop s n (pushed l (.dryPush p) k)).withWork o v from rfl, setInstance_withWork]
    · unfold refuseProfile; rw [report_withWork]

/-- The field code of a program's push reads the configuration. -/
theorem dryCode_congr {s t : State} (h : t.config = s.config) : dryCode t = dryCode s := by
  funext p k chain
  cases p <;> simp only [dryCode, activeProfile, programDef, profileAt_congr h, h]

/-! ### The steps of an operation -/

section
variable (s : State) (v : Option NoticeVisit) (p : Prog) (i : DryInstance)

/-- The same station with an operation of the sequencer at a stage. -/
def State.atStage (stage : DryStage) : State := s.withWork (some ⟨p, i, stage⟩) v

theorem atStage_self {s : State} {p : Prog} {i : DryInstance} {stage : DryStage} (h : s.operation = some ⟨p, i, stage⟩) :
    s.atStage s.visiting p i stage = s := by
  rw [State.atStage, ← h]; rfl

theorem dryStep_push (f : Frame) (k : Fin 16) (tried : Bool) (n : Fin 12) (todo : List (Fin 12)) :
    dryStep (s.atStage v p i (.push f k tried (n :: todo))) =
      (pushMember p k s n).atStage v p i (.push f k tried todo) := by
  have := pushMember_withWork p k s (some ⟨p, i, .push f k tried (n :: todo)⟩) v n
  simp only [State.atStage, dryStep, State.withWork] at this ⊢
  rw [this]
  rfl

theorem dryStep_withdraw (f : Option Frame) (n : Fin 12) (todo : List (Fin 12)) :
    dryStep (s.atStage v p i (.withdraw f (n :: todo))) =
      (withdraw s n (.dryout p)).atStage v p i (.withdraw f todo) := by
  have := withdraw_withWork s (some ⟨p, i, .withdraw f (n :: todo)⟩) v n (.dryout p)
  simp only [State.atStage, dryStep, State.withWork] at this ⊢
  rw [this]
  rfl

theorem dryStep_emptied :
    dryStep (s.atStage v p i (.withdraw none [])) =
      (setInstance s p { instanceOf s p with members := [] }).withWork none v := by
  simp only [State.atStage, dryStep, endWithdrawals, State.withWork]
  cases p <;> rfl

theorem dryStep_stopped (f : Frame) :
    dryStep (s.atStage v p i (.withdraw (some f) [])) =
      (setInstance s p { instanceOf s p with members := [] }).atStage v p i (.abort f) := by
  simp only [State.atStage, dryStep, endWithdrawals, State.withWork]
  cases p <;> rfl

theorem dryStep_abort (f : Frame) :
    dryStep (s.atStage v p i (.abort f)) =
      (report s (abortedFault s p (instanceOf s p).step (some f))).atStage v p i (.reply f .stopped) := by
  have := report_withWork s (abortedFault s p (instanceOf s p).step (some f)) (some ⟨p, i, .abort f⟩) v
  have same := instanceOf_withWork s (some ⟨p, i, .abort f⟩) v p
  simp only [State.atStage, dryStep, State.withWork] at this same ⊢
  rw [same, show abortedFault { s with operation := some ⟨p, i, .abort f⟩, visiting := v } = abortedFault s from rfl, this]
  rfl

theorem dryStep_answered (f : Frame) (result : DryResult) :
    dryStep (s.atStage v p i (.reply f result)) =
      (dryReply s ⟨p, i, .reply f result⟩ f result).withWork none v := by
  simp only [State.atStage, dryStep, dryReply, State.withWork]
  cases result <;> cases p <;> rfl

end

/-- The pushes of a start, one after the other. -/
theorem times_dryStep_push (v : Option NoticeVisit) (p : Prog) (i : DryInstance) (f : Frame) (k : Fin 16) (tried : Bool)
    (todo : List (Fin 12)) : ∀ s : State, times dryStep todo.length (s.atStage v p i (.push f k tried todo)) =
      (todo.foldl (pushMember p k) s).atStage v p i (.push f k tried []) := by
  induction todo with
  | nil => intro; rfl
  | cons n todo ih => intro s; rw [List.length_cons, times, dryStep_push, ih, List.foldl_cons]

/-- The withdrawals at the end of a program, one after the other. -/
theorem times_dryStep_withdraw (v : Option NoticeVisit) (p : Prog) (i : DryInstance) (f : Option Frame)
    (todo : List (Fin 12)) : ∀ s : State, times dryStep todo.length (s.atStage v p i (.withdraw f todo)) =
      (todo.foldl (fun s n => withdraw s n (.dryout p)) s).atStage v p i (.withdraw f []) := by
  induction todo with
  | nil => intro; rfl
  | cons n todo ih => intro s; rw [List.length_cons, times, dryStep_withdraw, ih, List.foldl_cons]

/-- Finishing takes up where a step has left off. -/
theorem finishDry_dryStep (s : State) : finishDry (dryStep s) = finishDry s := finishDry_piece 1 s

/-- A step end carried out: every member left, and the member set emptied. -/
theorem finishDry_withdraw_none (s : State) (v : Option NoticeVisit) (p : Prog) (i : DryInstance) (todo : List (Fin 12)) :
    finishDry (s.atStage v p i (.withdraw none todo)) =
      let w := todo.foldl (fun s n => withdraw s n (.dryout p)) s
      (setInstance w p { instanceOf w p with members := [] }).withWork none v := by
  rw [← finishDry_piece todo.length, times_dryStep_withdraw, ← finishDry_dryStep, dryStep_emptied]
  exact finishDry_of_none rfl

/-! ### What the withdrawals and the pushes make together -/

/-- The withdrawals of a program's entries, loop by loop. -/
theorem visitsLoops_withdraw (u : State) (p : Prog) :
    VisitsLoops u (fun s n => withdraw s n (.dryout p)) (fun _ x => x.map (withdrawn · (.dryout p))) (fun _ _ => 0)
      (fun _ _ => 0) none where
  config s n := by
    cases h : s.loops.get n with
    | none => rw [withdraw_of_none h]
    | some l => rw [withdraw_of_some h]; rfl
  other s n m hm := by
    cases h : s.loops.get n with
    | none => rw [withdraw_of_none h]
    | some l => rw [withdraw_of_some h]; simp [Tab.get_set, Ne.symm hm]
  own s n _ := by
    cases h : s.loops.get n with
    | none => rw [withdraw_of_none h, h]; rfl
    | some l => simp [withdraw_of_some h]
  made s n _ _ := ⟨(withdraw_beside s n _).1, (withdraw_beside s n _).2.1⟩
  refused s n _ h := absurd rfl h

/-- What the withdrawals of a program's entries from a list of loops leave. -/
theorem foldl_withdraw (p : Prog) (members : List (Fin 12)) (s : State) :
    let w := members.foldl (fun s n => withdraw s n (.dryout p)) s
    w.recorder = s.recorder ∧ w.bus = s.bus ∧ (∀ q, instanceOf w q = instanceOf s q) ∧
    (∀ n, n ∉ members → w.loops.get n = s.loops.get n) ∧
    (∀ n ∈ members, w.loops.get n = (s.loops.get n).map (withdrawn · (.dryout p))) := by
  have visits := visitsLoops_withdraw s p
  have beside : ∀ s, _ := foldl_frame
    (R := fun s t => t.recorder = s.recorder ∧ t.bus = s.bus ∧ ∀ q, instanceOf t q = instanceOf s q)
    (fun _ => ⟨rfl, rfl, fun _ => rfl⟩)
    (fun ⟨a, b, c⟩ ⟨a', b', c'⟩ => ⟨a'.trans a, b'.trans b, fun q => (c' q).trans (c q)⟩)
    (fun s n => withdraw_beside s n (.dryout p)) members
  obtain ⟨recorder, bus, same⟩ := beside s
  refine ⟨recorder, bus, same, fun n hn => visits.foldl_unvisited members s hn,
    fun n hn => visits.foldl_visited members (.inr fun x => ?_) s rfl hn⟩
  cases x <;> simp [withdrawn_twice]

/-- A withdrawal from a chain that is written out. -/
theorem withdrawn_dryout {l : Loop} {bottom : Entry} {above : List Entry} (h : l.chain = bottom :: above) (p : Prog) :
    withdrawn l (.dryout p) = { l with
      chain := bottom :: above.filter (fun e => e.owner != .dryout p)
      stale := l.stale || decide (above.getLast?.map (·.owner) = some (.dryout p)) } := by
  simp [withdrawn, h]

/-! ### The current step -/

theorem stepExhausted_of {s : State} {p : Prog} {d : ProgramDef} {k : Nat} {st : DryStep} (hd : programDef s p = some d)
    (hk : (instanceOf s p).step = some k) (positive : 0 < k) (hst : d.steps[k - 1]? = some st) :
    stepExhausted s p = decide (st.hours ≤ (instanceOf s p).hours) := by
  simp [stepExhausted, currentStep, hd, hk, Nat.ne_of_gt positive, hst]

theorem stepEnd_of {s : State} {p : Prog} {d : ProgramDef} {k : Nat} (hd : programDef s p = some d)
    (hk : (instanceOf s p).step = some k) : stepEnd s p =
      if k < d.steps.length then setInstance s p { instanceOf s p with step := some (k + 1), hours := 0, part := ⟨0, 0⟩ }
      else programDone s p := by
  simp [stepEnd, hd, hk]

theorem finishDry_loader (s : State) : (finishDry s).loader = s.loader := by
  obtain ⟨_, _, _, _, _, _, _, _, _, h⟩ := finishDry_frame s
  rw [h]

theorem inServiceStation_finishDry (s : State) : inServiceStation (finishDry s) = inServiceStation s := by
  unfold inServiceStation; rw [finishDry_loader]

end Sys2Proof.Machine

open Sys2Proof Sys2Proof.Machine

/-- Settles O41: an hour and a step end are judged once the operation in progress is made to its end, and the withdrawals of
a program that is DONE are read off the visits of its members. -/
theorem dryoutHoursAndSteps : Obligations.DryoutHoursAndSteps := by
  unfold Obligations.DryoutHoursAndSteps
  refine ⟨fun s p => ?_, fun s p i => ⟨fun n l bottom above todo hop hl hc => ?_, fun hop => ?_⟩⟩
  · intro u i
    have service : inServiceStation u = true ↔ s.loader.state ≠ .loading := by
      rw [inServiceStation_finishDry]; simp [inServiceStation]
    refine ⟨finishDry_frame s, finishDry_operation s, finishDry_of_none, fun loaded running left => ?_, fun out => ?_,
      fun d k st loaded running hd hk positive hst reached => ?_⟩
    · obtain ⟨part, passed⟩ := elapse_instance u (hourLeft u p) p
      have serving := service.2 loaded
      simp only [exec, execDryoutHour]
      rw [if_pos ⟨serving, running, left⟩, passed]
    · have closed : ¬ (inServiceStation u = true ∧ (instanceOf u p).state = .running) := fun ⟨serving, running⟩ =>
        out.elim (service.1 serving) (fun other => other running)
      simp only [exec, execDryoutHour, execDryoutStepEnd]
      exact ⟨by rw [if_neg fun ⟨a, b, _⟩ => closed ⟨a, b⟩], by rw [if_neg fun ⟨a, b, _⟩ => closed ⟨a, b⟩]⟩
    · have ended : stepExhausted u p = true := by
        rw [stepExhausted_of hd hk positive hst]; exact decide_eq_true reached
      have stepEnds : exec (.dryoutStepEnd p) s = .next (stepEnd u p) := by
        simp only [exec, execDryoutStepEnd]
        rw [if_pos ⟨service.2 loaded, running, ended⟩]
      rw [stepEnds, stepEnd_of hd hk]
      refine ⟨?_, fun more => by rw [if_pos more], ?_⟩
      · simp only [exec, execDryoutHour]
        rw [if_neg fun ⟨_, _, left⟩ => by rw [ended] at left; cases left]
      · intro last v t
        rw [if_neg (by omega)]
        obtain ⟨recorder, bus, same, others, members⟩ := foldl_withdraw p i.members
          (setInstance u p { i with state := .done, hours := 0, part := ⟨0, 0⟩ })
        have done := finishDry_withdraw_none (setInstance u p { i with state := .done, hours := 0, part := ⟨0, 0⟩ })
          (setInstance u p { i with state := .done, hours := 0, part := ⟨0, 0⟩ }).visiting p i i.members
        have ht : t = _ := done
        dsimp only at recorder bus same others members ht
        refine ⟨⟨_, rfl⟩, fun j => finishDry_piece j v,
          ((setInstance_frame u p _).trans (setOperation_frame _ _)).trans (finishDry_frame v), finishDry_operation v,
          ?_, ?_, ?_, fun q hq => ?_, fun n hn => ?_, fun n l bottom above hn hl hc => ?_⟩
        · rw [ht]; simpa [State.withWork] using recorder
        · rw [ht]; simpa [State.withWork] using bus
        · rw [ht, instanceOf_withWork, instanceOf_setInstance, same, instanceOf_setInstance]
        · rw [ht, instanceOf_withWork, instanceOf_setInstance_other _ _ hq, same, instanceOf_setInstance_other _ _ hq]
        · rw [ht]; simpa [State.withWork] using others n hn
        · rw [ht]
          have := members n hn
          simp only [State.withWork, setInstance_loops, hl, Option.map_some] at this ⊢
          rw [this, withdrawn_dryout hc]
  · have step := dryStep_withdraw s s.visiting p i none n todo
    rw [atStage_self hop, withdraw_of_some hl, withdrawn_dryout hc] at step
    exact step
  · have step := dryStep_emptied s s.visiting p i
    rw [atStage_self hop] at step
    rw [step]
    cases p <;> rfl

end

section
/-! Requests of tools that the sequencer carries out (R156, R140, R143). -/

namespace Sys2Proof.Machine

open Sys2Proof

/-- An accepted request comes to its block. -/
theorem takeHead_accepted {s : State} {f : Frame} {code : Byte} {args : List Byte} (h : accepted s f code args) :
    takeHead s (requestCommand code.toNat) = some (f, popped s) := by
  obtain ⟨head, kind, -, -, content, -, closed⟩ := h
  rw [takeHead_eq_some, answerOpen_of_closed closed]
  refine ⟨head, ?_, rfl⟩
  simp [handOn, kind, content]

/-- An accepted request is carried out. -/
theorem takeRequest_accepted {s : State} {f : Frame} {code : Byte} {args : List Byte} (h : accepted s f code args)
    (carry : Byte → List Byte → State → State) : takeRequest (popped s) f carry = carry code args (popped s) := by
  obtain ⟨-, -, low, high, content, empty, -⟩ := h
  have station : (BitVec.ofNat 8 (stationNumber s)).toNat = stationNumber (popped s) := by
    have := s.loader.station.isLt
    simp only [stationNumber, popped, BitVec.toNat_ofNat]
    omega
  simp only [takeRequest, content, station, toolAddress, low, high, decide_true, Bool.and_self, Bool.not_true,
    Bool.false_eq_true, if_false, ne_eq, not_true_eq_false]
  rw [show (popped s).bus.reply = s.bus.reply from rfl, empty]
  rfl

theorem progOfNumber_progNumber (p : Prog) : progOfNumber (BitVec.ofNat 8 (progNumber p)).toNat = some p := by
  cases p <;> rfl

/-- A request to the sequencer for a program that there is. -/
theorem carryDryout_program (operation : State → Prog → Frame → State) (f : Frame) (code : Byte) (p : Prog)
    (more : List Byte) (s : State) :
    carryDryout operation f code (BitVec.ofNat 8 (progNumber p) :: more) s = operation (finishDry s) p f := by
  simp only [carryDryout, List.head?_cons, Option.bind_some, progOfNumber_progNumber]

theorem exec_startDryout {s : State} {f : Frame} {p : Prog} {more : List Byte}
    (h : accepted s f 5 (BitVec.ofNat 8 (progNumber p) :: more)) :
    exec .startDryout s = .next (startProgram (finishDry (popped s)) p f) := by
  have head : takeHead s .startDryout = some (f, popped s) := takeHead_accepted h
  simp only [exec, execStartDryout, head, takeRequest_accepted h, carryDryout_program]

theorem exec_stopDryout {s : State} {f : Frame} {p : Prog} {more : List Byte}
    (h : accepted s f 6 (BitVec.ofNat 8 (progNumber p) :: more)) :
    exec .stopDryout s = .next (stopProgram (finishDry (popped s)) p f) := by
  have head : takeHead s .stopDryout = some (f, popped s) := takeHead_accepted h
  simp only [exec, execStopDryout, head, takeRequest_accepted h, carryDryout_program]

/-- What the sequencer may change includes the operation in progress. -/
theorem DryFrame.withWork {s t : State} (h : DryFrame s t) (o : Option DryOperation) :
    DryFrame s (t.withWork o s.visiting) := by
  obtain ⟨_, _, _, _, _, _, _, _, _, rfl⟩ := h
  exact ⟨_, _, _, _, _, _, _, _, _, rfl⟩

theorem stationNumber_finishDry (s : State) : stationNumber (finishDry s) = stationNumber s := by
  unfold stationNumber; rw [finishDry_loader]

/-- A stop carried out: every member left, the member set emptied, the abort reported and the request answered. -/
theorem finishDry_withdraw_some (s : State) (v : Option NoticeVisit) (p : Prog) (i : DryInstance) (f : Frame)
    (todo : List (Fin 12)) : finishDry (s.atStage v p i (.withdraw (some f) todo)) =
      let w := todo.foldl (fun s n => withdraw s n (.dryout p)) s
      let emptied := (setInstance w p { instanceOf w p with members := [] }).withWork none v
      replied (report emptied (abortedFault emptied p (instanceOf emptied p).step (some f))) f 6 0 0 0 [] := by
  rw [← finishDry_piece todo.length, times_dryStep_withdraw, ← finishDry_dryStep, dryStep_stopped, ← finishDry_dryStep,
    dryStep_abort, ← finishDry_dryStep, dryStep_answered]
  dsimp only
  rw [instanceOf_withWork, report_withWork]
  exact finishDry_of_none rfl

end Sys2Proof.Machine

open Sys2Proof Sys2Proof.Machine

/-- Settles O37: the stop is the visits of the members, the emptying, the report and the reply, each a step of the
sequencer. -/
theorem stopDryoutAbortsTheProgram : Obligations.StopDryoutAbortsTheProgram := by
  unfold Obligations.StopDryoutAbortsTheProgram
  refine ⟨fun s f p more request => ?_, fun s f p i =>
    ⟨fun n l bottom above todo hop hl hc => ?_, fun hop => ?_, fun hop => ?_, fun hop => ?_⟩⟩
  · intro u i v
    rw [exec_stopDryout request]
    refine ⟨finishDry_frame _, finishDry_operation _, fun idle => finishDry_of_none idle, fun stopped resting => ?_,
      fun active => ?_⟩
    · rw [stopProgram, if_neg (not_or.2 ⟨stopped, resting⟩)]; rfl
    · obtain ⟨recorder, bus, same, others, members⟩ := foldl_withdraw p i.members (setInstance u p { i with state := .aborted })
      let left := i.members.foldl (fun s n => withdraw s n (.dryout p)) (setInstance u p { i with state := .aborted })
      let w := (setInstance left p { instanceOf left p with members := [] }).withWork none
        (setInstance u p { i with state := .aborted }).visiting
      have done : finishDry v = replied (report w (abortedFault w p (instanceOf w p).step (some f))) f 6 0 0 0 [] :=
        finishDry_withdraw_some _ _ p i f i.members
      have own : instanceOf w p = { i with state := .aborted, members := [] } := by
        simp only [w, left, instanceOf_withWork, instanceOf_setInstance, same]
      have frame : DryFrame u w := (setInstance_frame u p _).trans (((foldl_frame .refl .trans
        (fun s n => (withdraw_frame s n (.dryout p)).dry) i.members _).trans (setInstance_frame _ p _)).withWork none)
      refine ⟨w, ⟨_, by rw [stopProgram, if_pos active]; rfl⟩, fun k => finishDry_piece k v, ?_, frame, rfl, ?_, ?_, own,
        fun q hq => ?_, fun n hn => ?_, fun n l bottom above hn hl hc => ?_⟩
      · obtain ⟨_, _, _, _, _, _, _, _, _, e⟩ := frame
        have station : stationNumber w = stationNumber s := by
          rw [e]; exact stationNumber_finishDry (popped s)
        rw [done, abortedFault, own, station]
      · simpa [w, State.withWork] using recorder
      · simpa [w, State.withWork] using bus
      · simp only [w, left, instanceOf_withWork]
        rw [instanceOf_setInstance_other _ _ hq, same, instanceOf_setInstance_other _ _ hq]
      · simpa [w, State.withWork] using others n hn
      · have := members n hn
        simp only [w, left, State.withWork, setInstance_loops, hl, Option.map_some] at this ⊢
        rw [this, withdrawn_dryout hc]
  · have step := dryStep_withdraw s s.visiting p i (some f) n todo
    rw [atStage_self hop, withdraw_of_some hl, withdrawn_dryout hc] at step
    exact step
  · have step := dryStep_stopped s s.visiting p i f
    rw [atStage_self hop] at step
    rw [step]
    cases p <;> rfl
  · have step := dryStep_abort s s.visiting p i f
    rw [atStage_self hop] at step
    rw [step, ← report_visiting s (abortedFault s p (instanceOf s p).step (some f))]
    rfl
  · have step := dryStep_answered s s.visiting p i f .stopped
    rw [atStage_self hop] at step
    exact step

end

section
/-! The start of a dry-out program (R140). -/

namespace Sys2Proof.Machine

open Sys2Proof

/-! ### What the pushes of a program make together -/

/-- The field code of a program's push on a loop, 0 where there is none. -/
def pushCode (u : State) (p : Prog) (k : Fin 16) (x : Option Loop) : Nat := x.elim 0 fun l => dryCode u p k l.chain

/-- A loop after a program's push has been tried. -/
def afterPush (u : State) (p : Prog) (k : Fin 16) (x : Option Loop) : Option Loop :=
  x.map fun l => if dryCode u p k l.chain = 0 then pushed l (.dryPush p) k else l

/-- The loop takes the program's push. -/
def takesPush (u : State) (p : Prog) (k : Fin 16) (x : Option Loop) : Bool := x.isSome && pushCode u p k x == 0

/-- The pushes of a program, loop by loop. -/
theorem visitsLoops_pushMember (u : State) (p : Prog) (k : Fin 16) :
    VisitsLoops u (pushMember p k) (fun _ => afterPush u p k) (fun _ => pushCode u p k) (fun _ _ => k) none where
  config s n := by
    cases h : s.loops.get n with
    | none => rw [pushMember_of_none h]
    | some l => rw [pushMember_of_some h]; split <;> simp [refuseProfile]
  other s n m hm := by
    cases h : s.loops.get n with
    | none => rw [pushMember_of_none h]
    | some l => rw [pushMember_of_some h]; split <;> simp [refuseProfile, Tab.get_set, Ne.symm hm]
  own s n config := by
    cases h : s.loops.get n with
    | none => rw [pushMember_of_none h, h]; rfl
    | some l =>
      rw [pushMember_of_some h, dryCode_congr config]
      simp only [afterPush, Option.map_some]
      split <;> simp [refuseProfile, h]
  made s n config taken := by
    cases h : s.loops.get n with
    | none => rw [pushMember_of_none h]; exact ⟨rfl, rfl⟩
    | some l =>
      rw [h] at taken
      rw [pushMember_of_some h, dryCode_congr config, if_pos (show dryCode u p k l.chain = 0 from taken)]
      simp
  refused s n config refusal := by
    cases h : s.loops.get n with
    | none => rw [h] at refusal; exact absurd rfl refusal
    | some l =>
      rw [h] at refusal
      rw [pushMember_of_some h, dryCode_congr config, if_neg (show dryCode u p k l.chain ≠ 0 from refusal)]
      rfl

/-- A push changes the member set of its own program alone, which a loop that takes it joins. -/
theorem instanceOf_pushMember {u s : State} (config : s.config = u.config) (p : Prog) (k : Fin 16) (n : Fin 12) :
    instanceOf (pushMember p k s n) p = { instanceOf s p with
      members := (instanceOf s p).members ++ [n].filter fun n => takesPush u p k (s.loops.get n) } := by
  cases h : s.loops.get n with
  | none => rw [pushMember_of_none h]; simp [takesPush, h]
  | some l =>
    rw [pushMember_of_some h, dryCode_congr config]
    split
    · simp [takesPush, pushCode, *]
    · simp [takesPush, pushCode, *, refuseProfile]

theorem instanceOf_pushMember_other (s : State) {p q : Prog} (k : Fin 16) (n : Fin 12) (h : q ≠ p) :
    instanceOf (pushMember p k s n) q = instanceOf s q := by
  cases hn : s.loops.get n with
  | none => rw [pushMember_of_none hn]
  | some l =>
    rw [pushMember_of_some hn]
    split
    · rw [instanceOf_setInstance_other _ _ h, instanceOf_setLoop]
    · rw [refuseProfile, report_instanceOf]

/-- The member set after the pushes on distinct loops: those that take it join, in their order. -/
theorem instanceOf_foldl_pushMember (u : State) (p : Prog) (k : Fin 16) (todo : List (Fin 12)) : ∀ s : State,
    s.config = u.config → todo.Nodup → instanceOf (todo.foldl (pushMember p k) s) p = { instanceOf s p with
      members := (instanceOf s p).members ++ todo.filter fun n => takesPush u p k (s.loops.get n) } := by
  induction todo with
  | nil => intros; simp
  | cons n todo ih =>
    intro s config distinct
    obtain ⟨unseen, distinct⟩ := List.nodup_cons.1 distinct
    have visits := visitsLoops_pushMember u p k
    have later : todo.filter (fun m => takesPush u p k ((pushMember p k s n).loops.get m)) =
        todo.filter fun m => takesPush u p k (s.loops.get m) :=
      List.filter_congr fun m hm => by rw [visits.other s n m fun e => unseen (e ▸ hm)]
    rw [List.foldl_cons, ih _ ((visits.config s n).trans config) distinct, later, instanceOf_pushMember config]
    simp only [List.append_assoc, ← List.filter_append, List.singleton_append]

theorem instanceOf_foldl_pushMember_other {p q : Prog} (k : Fin 16) (h : q ≠ p) (todo : List (Fin 12)) (s : State) :
    instanceOf (todo.foldl (pushMember p k) s) q = instanceOf s q :=
  foldl_frame (R := fun s t : State => instanceOf t q = instanceOf s q) (fun _ => rfl) (fun a b => b.trans a)
    (fun s n => instanceOf_pushMember_other s k n h) todo s

/-! ### The start carried out -/

theorem DryFrame.effectiveState {s t : State} (h : DryFrame s t) : effectiveState t = effectiveState s := by
  obtain ⟨_, _, _, _, _, _, _, _, _, rfl⟩ := h; rfl

/-- The program as a start with members begins it at its first step (R140). -/
def startedInstance (s : State) (p : Prog) : DryInstance :=
  ⟨if effectiveState s = .heating then .running else .paused, some 1, 0, ⟨0, 0⟩, (instanceOf s p).members⟩

section
variable (s : State) (v : Option NoticeVisit) (p : Prog) (i : DryInstance) (f : Frame) (k : Fin 16) (tried : Bool)

theorem dryStep_started (members : (instanceOf s p).members ≠ []) :
    dryStep (s.atStage v p i (.push f k tried [])) =
      (setInstance s p (startedInstance s p)).atStage v p i (.reply f .started) := by
  have same := instanceOf_withWork s (some ⟨p, i, .push f k tried []⟩) v p
  simp only [State.withWork] at same
  simp only [State.atStage, dryStep, endStart, State.withWork, same, List.isEmpty_iff, if_neg members, startedInstance]
  cases p <;> rfl

theorem dryStep_refused (members : (instanceOf s p).members = []) :
    dryStep (s.atStage v p i (.push f k tried [])) = s.atStage v p i (.reply f (.refused tried)) := by
  have same := instanceOf_withWork s (some ⟨p, i, .push f k tried []⟩) v p
  simp only [State.withWork] at same
  simp only [State.atStage, dryStep, endStart, State.withWork, same, List.isEmpty_iff, if_pos members]
  rfl

end

/-- A start carried out with members: the program starts, and the request is answered with the member set. -/
theorem finishDry_push_started (s : State) (v : Option NoticeVisit) (p : Prog) (i : DryInstance) (f : Frame) (k : Fin 16)
    (tried : Bool) (todo : List (Fin 12)) (members : (instanceOf (todo.foldl (pushMember p k) s) p).members ≠ []) :
    finishDry (s.atStage v p i (.push f k tried todo)) =
      let w := todo.foldl (pushMember p k) s
      replied ((setInstance w p (startedInstance w p)).withWork none v) f 5 0 0 0
        (u16 (setWord (instanceOf w p).members)) := by
  rw [← finishDry_piece todo.length, times_dryStep_push, ← finishDry_dryStep, dryStep_started _ _ _ _ _ _ _ members,
    ← finishDry_dryStep, dryStep_answered]
  simp only [dryReply, instanceOf_setInstance, startedInstance]
  exact finishDry_of_none rfl

/-- A start carried out without members: the request is refused. -/
theorem finishDry_push_refused (s : State) (v : Option NoticeVisit) (p : Prog) (i : DryInstance) (f : Frame) (k : Fin 16)
    (tried : Bool) (todo : List (Fin 12)) (members : (instanceOf (todo.foldl (pushMember p k) s) p).members = []) :
    finishDry (s.atStage v p i (.push f k tried todo)) =
      replied ((todo.foldl (pushMember p k) s).withWork none v) f 5 3 0 0 (if tried then u16 0 else []) := by
  rw [← finishDry_piece todo.length, times_dryStep_push, ← finishDry_dryStep, dryStep_refused _ _ _ _ _ _ _ members,
    ← finishDry_dryStep, dryStep_answered]
  exact finishDry_of_none rfl

/-- A start carried out: what it leaves beside its pushes, and its reply. -/
theorem finishDry_push (s : State) (p : Prog) (i : DryInstance) (f : Frame) (k : Fin 16) (tried : Bool)
    (todo : List (Fin 12)) :
    let w := todo.foldl (pushMember p k) s
    let members := (instanceOf w p).members
    ∃ t data, finishDry (s.atStage s.visiting p i (.push f k tried todo)) =
        replied t f 5 (if members = [] then 3 else 0) 0 0 data ∧
      t.loops = w.loops ∧ t.recorder = w.recorder ∧ t.bus = w.bus ∧ t.operation = none ∧ DryFrame s t ∧
      (∀ q, q ≠ p → instanceOf t q = instanceOf w q) ∧
      (members ≠ [] → data = u16 (setWord members) ∧ instanceOf t p = startedInstance w p) ∧
      (members = [] → instanceOf t p = instanceOf w p ∧ data = if tried then u16 0 else []) := by
  intro w members
  have frame : DryFrame s w := foldl_frame .refl .trans (pushMember_frame p k) todo s
  by_cases none : members = []
  · refine ⟨w.withWork .none s.visiting, _, ?_, rfl, rfl, rfl, rfl, frame.withWork _, fun q _ => instanceOf_withWork _ _ _ q,
      fun some => absurd none some, fun _ => ⟨instanceOf_withWork _ _ _ p, rfl⟩⟩
    rw [if_pos none]
    exact finishDry_push_refused s _ p i f k tried todo none
  · refine ⟨(setInstance w p (startedInstance w p)).withWork .none s.visiting, _, ?_, setInstance_loops .., setInstance_recorder ..,
      setInstance_bus .., rfl, (frame.trans (setInstance_frame _ _ _)).withWork _, fun q hq => ?_, fun _ => ⟨rfl, ?_⟩,
      fun empty => absurd empty none⟩
    · rw [if_neg none]
      exact finishDry_push_started s _ p i f k tried todo none
    · rw [instanceOf_withWork, instanceOf_setInstance_other _ _ hq]
    · rw [instanceOf_withWork, instanceOf_setInstance]

/-- What a start makes of the loops, the instances and the recorder: the pushes on the present loops of its set, from a member set
that has been emptied. -/
structure StartPushes (u w : State) (p : Prog) (k : Fin 16) (set : List (Fin 12)) : Prop where
  frame : DryFrame u w
  loops : ∀ n l, u.loops.get n = some l → w.loops.get n = some
    (if n ∈ set ∧ pushCode u p k (some l) = 0 then { l with chain := l.chain ++ [⟨k, .dryout p⟩], stale := true } else l)
  absent : ∀ n, u.loops.get n = none → w.loops.get n = none
  others : ∀ q, q ≠ p → instanceOf w q = instanceOf u q
  members : instanceOf w p = { instanceOf u p with members := set.filter fun n => takesPush u p k (u.loops.get n) }
  made : (∀ n ∈ set, pushCode u p k (u.loops.get n) = 0) → w.recorder = u.recorder ∧ w.bus = u.bus
  refused : ∀ earlier n later, set = earlier ++ n :: later → pushCode u p k (u.loops.get n) ≠ 0 →
    (∀ m ∈ earlier, pushCode u p k (u.loops.get m) = 0) →
    (w.recorder.kinds.get (kindIndex .profileRefused)).status = true ∧
    (u.recorder.pointer = none → (u.recorder.kinds.get (kindIndex .profileRefused)).masked = false →
      w.recorder.pointer = some .profileRefused ∧
      w.recorder.record = some (refusalRecord u n (pushCode u p k (u.loops.get n)) k none))

theorem startPushes (u : State) (p : Prog) (k : Fin 16) {set : List (Fin 12)} (distinct : set.Nodup) :
    StartPushes u ((set.filter (loopPresent u)).foldl (pushMember p k)
      (setInstance u p { instanceOf u p with members := [] })) p k set := by
  let x := setInstance u p { instanceOf u p with members := [] }
  have visits := visitsLoops_pushMember u p k
  have config : x.config = u.config := setInstance_config ..
  have loops : x.loops = u.loops := setInstance_loops ..
  have recorder : x.recorder = u.recorder := setInstance_recorder ..
  have bus : x.bus = u.bus := setInstance_bus ..
  have visited : (set.filter (loopPresent u)).Nodup := distinct.filter _
  refine ⟨(setInstance_frame u p _).trans (foldl_frame .refl .trans (pushMember_frame p k) _ _), fun n l hl => ?_,
    fun n hn => ?_, fun q hq => ?_, ?_, fun codes => ?_, fun earlier n later split refusal codes => ?_⟩
  · by_cases hn : n ∈ set
    · have : n ∈ set.filter (loopPresent u) := by simp [hn, loopPresent, hl]
      rw [visits.foldl_visited _ (.inl visited) x config this, loops, hl]
      simp only [afterPush, Option.map_some, pushCode, Option.elim_some, hn, true_and]
      split <;> simp [pushed, changeOwner]
    · have : n ∉ set.filter (loopPresent u) := fun h => hn (List.mem_filter.1 h).1
      rw [visits.foldl_unvisited _ x this, loops, hl, if_neg fun h => hn h.1]
  · have : n ∉ set.filter (loopPresent u) := by simp [loopPresent, hn]
    rw [visits.foldl_unvisited _ x this, loops, hn]
  · rw [instanceOf_foldl_pushMember_other k hq, instanceOf_setInstance_other _ _ hq]
  · rw [instanceOf_foldl_pushMember u p k _ x config visited, loops]
    simp only [x, instanceOf_setInstance, List.nil_append, List.filter_filter]
    congr 1
    refine List.filter_congr fun n _ => ?_
    simp only [takesPush, loopPresent]
    cases (u.loops.get n).isSome <;> simp
  · rw [← recorder, ← bus]
    exact visits.foldl_made _ x config visited fun n hn => by rw [loops]; exact codes n (List.mem_filter.1 hn).1
  · have present : loopPresent u n = true := by
      cases h : u.loops.get n with
      | none => rw [h] at refusal; exact absurd rfl refusal
      | some l => simp [loopPresent, h]
    rw [split, List.filter_append, List.filter_cons_of_pos present] at visited ⊢
    have := visits.foldl_refused config visited
      (fun m hm => by rw [loops]; exact codes m (List.mem_filter.1 hm).1) (by rw [loops]; exact refusal)
    rw [loops, recorder] at this
    obtain ⟨status, first⟩ := this
    refine ⟨status, fun empty unmasked => ?_⟩
    rw [show refusalRecord u = refusalRecord x from by funext; simp [refusalRecord, recorder]]
    exact first empty unmasked

end Sys2Proof.Machine

open Sys2Proof Sys2Proof.Machine

/-- Settles O36: the pushes of a start are visits of the present loops of its set, and the result follows the member set that
they leave. -/
theorem startDryoutPushesTheProgram : Obligations.StartDryoutPushesTheProgram := by
  unfold Obligations.StartDryoutPushesTheProgram
  refine ⟨fun s f p more request => ?_, fun s f p i number tried =>
    ⟨fun n l todo hop hl => ?_, fun hop => ⟨fun members => ?_, fun members => ?_⟩, fun hop => ?_, fun hop => ?_⟩⟩
  · intro u
    rw [exec_startDryout request]
    refine ⟨finishDry_frame _, finishDry_operation _, fun idle => finishDry_of_none idle, fun active => ?_,
      fun stopped resting undefined => ?_, fun d stopped resting usable distinct => ?_⟩
    · rw [startProgram, if_pos active]; rfl
    · rw [startProgram, if_neg (not_or.2 ⟨stopped, resting⟩), undefined]; rfl
    · intro code members visited v
      let x := setInstance u p { instanceOf u p with members := [] }
      have pushes : StartPushes u (visited.foldl (pushMember p d.profile) x) p d.profile d.loops :=
        startPushes u p d.profile distinct
      have same : (instanceOf (visited.foldl (pushMember p d.profile) x) p).members = members := by rw [pushes.members]; rfl
      have starts : startProgram u p f = freePiece dryStep v := by
        have tried : (!(d.loops.filter (loopPresent u)).isEmpty) = decide (visited ≠ []) := by
          change (!visited.isEmpty) = _
          cases visited <;> rfl
        rw [startProgram, if_neg (not_or.2 ⟨stopped, resting⟩), usable]
        simp only [tried]
        rfl
      obtain ⟨t, data, ends, loops, recorder, bus, idle, frame, others, started, refused⟩ :=
        finishDry_push x p (instanceOf u p) f d.profile (decide (visited ≠ [])) visited
      rw [same] at ends started refused
      refine ⟨t, data, ⟨_, by rw [starts]; rfl⟩, fun k => finishDry_piece k v, (setInstance_frame u p _).trans frame, idle,
        ends, fun n l hl => ?_, fun n hn => by rw [loops]; exact pushes.absent n hn,
        fun q hq => (others q hq).trans (pushes.others q hq), fun some => ?_,
        fun none => ?_, by rw [recorder, bus]; exact pushes.made, by rw [recorder]; exact pushes.refused⟩
      · have joins : n ∈ members ↔ n ∈ d.loops ∧ pushCode u p d.profile (some l) = 0 := by
          simp [members, code, hl, pushCode]
        rw [loops, pushes.loops n l hl]
        simp only [joins]
      · obtain ⟨reply, own⟩ := started some
        refine ⟨reply, own.trans ?_⟩
        rw [startedInstance, same, pushes.frame.effectiveState, (finishDry_frame (popped s)).effectiveState]
        rfl
      · obtain ⟨own, reply⟩ := refused none
        refine ⟨own.trans ?_, by rw [reply]; by_cases h : visited = [] <;> simp [h]⟩
        rw [pushes.members]
        exact congrArg (fun set => { instanceOf u p with members := set }) none
  · have step := dryStep_push s s.visiting p i f number tried n todo
    rw [atStage_self hop, pushMember_of_some hl] at step
    refine ⟨fun taken => ?_, fun refusal => ?_⟩
    · rw [step, if_pos taken]
      cases p <;> rfl
    · rw [step, if_neg refusal, State.atStage, ← report_visiting s]
      rfl
  · have step := dryStep_started s s.visiting p i f number tried members
    rw [atStage_self hop] at step
    rw [step]
    cases p <;> rfl
  · have step := dryStep_refused s s.visiting p i f number tried members
    rw [atStage_self hop] at step
    exact step
  · have step := dryStep_answered s s.visiting p i f .started
    rw [atStage_self hop] at step
    rw [step]
    cases p <;> rfl
  · have step := dryStep_answered s s.visiting p i f (.refused tried)
    rw [atStage_self hop] at step
    rw [step]
    cases tried <;> rfl

end

section
/-! Step ends on the way: the withdrawals of a program that is DONE, however many of them have been made (R142). -/

namespace Sys2Proof.Machine

open Sys2Proof

/-- No entry of the program stands above the bottom of the loop's chain. -/
def clearOf (p : Prog) (s : State) (n : Fin 12) : Prop :=
  ∀ l, s.loops.get n = some l → ∀ x ∈ l.chain.tail, x.owner ≠ .dryout p

/-- The chains of `t` hold no entries above the bottom but those of `s`. -/
def Shrinks (s t : State) : Prop :=
  ∀ n l, t.loops.get n = some l → ∃ l', s.loops.get n = some l' ∧ l.chain.tail ⊆ l'.chain.tail

theorem Shrinks.refl (s : State) : Shrinks s s := fun _ l h => ⟨l, h, List.Subset.refl _⟩

theorem Shrinks.trans {s t u : State} (h : Shrinks s t) (k : Shrinks t u) : Shrinks s u := fun n l hl => by
  obtain ⟨l', hl', sub⟩ := k n l hl
  obtain ⟨l'', hl'', sub'⟩ := h n l' hl'
  exact ⟨l'', hl'', List.Subset.trans sub sub'⟩

theorem Shrinks.of_loops {s t : State} (h : t.loops = s.loops) : Shrinks s t := fun n l hl =>
  ⟨l, by rw [← h]; exact hl, List.Subset.refl _⟩

theorem clearOf.shrinks {p : Prog} {s t : State} {n : Fin 12} (h : clearOf p s n) (k : Shrinks s t) : clearOf p t n :=
  fun l hl x hx => by
    obtain ⟨l', hl', sub⟩ := k n l hl
    exact h l' hl' x (sub hx)

theorem tail_withdrawn (l : Loop) (o : Owner) :
    (withdrawn l o).chain.tail = l.chain.tail.filter fun e => e.owner != o := by
  cases h : l.chain <;> simp [withdrawn, h]

theorem withdraw_shrinks (s : State) (n : Fin 12) (o : Owner) : Shrinks s (withdraw s n o) := by
  cases h : s.loops.get n with
  | none => rw [withdraw_of_none h]; exact .refl s
  | some l =>
    rw [withdraw_of_some h]
    intro m l' hl'
    rw [setLoop_loops, Tab.get_set] at hl'
    split at hl'
    · subst m
      refine ⟨l, h, ?_⟩
      obtain rfl := Option.some.inj hl'
      rw [tail_withdrawn]
      exact List.filter_subset_self _
    · exact ⟨l', hl', List.Subset.refl _⟩

theorem withdraw_clearOf (s : State) (n : Fin 12) (p : Prog) : clearOf p (withdraw s n (.dryout p)) n := by
  intro l hl x hx
  cases h : s.loops.get n with
  | none => rw [withdraw_of_none h, h] at hl; cases hl
  | some l' =>
    rw [withdraw_of_some h, setLoop_loops, Tab.get_set_self] at hl
    obtain rfl := Option.some.inj hl
    rw [tail_withdrawn] at hx
    simpa using (List.mem_filter.1 hx).2

theorem withdraw_loops_ne (s : State) {n m : Fin 12} (o : Owner) (h : m ≠ n) :
    (withdraw s n o).loops.get m = s.loops.get m := by
  cases hn : s.loops.get n with
  | none => rw [withdraw_of_none hn]
  | some l => rw [withdraw_of_some hn, setLoop_loops, Tab.get_set_ne _ _ (Ne.symm h)]

/-- `s` is on the way from `u`, in which the program has just come to an end, to the end of its withdrawals: its entries have
left the members that are no more on the list of the operation, and all of them when the operation is over. -/
structure Leaving (u : State) (p : Prog) (s : State) : Prop where
  recorder : s.recorder = u.recorder
  bus : s.bus = u.bus
  config : s.config = u.config
  others : ∀ q, q ≠ p → instanceOf s q = instanceOf u q
  own : ∃ members, instanceOf s p = { instanceOf u p with members := members }
  loops : ∀ n, n ∉ (instanceOf u p).members → s.loops.get n = u.loops.get n
  shrinks : Shrinks u s
  left : (s.operation = none ∧ (instanceOf s p).members = [] ∧ ∀ n ∈ (instanceOf u p).members, clearOf p s n) ∨
    ∃ i todo, s.operation = some ⟨p, i, .withdraw none todo⟩ ∧ todo ⊆ (instanceOf u p).members ∧
      ∀ n ∈ (instanceOf u p).members, n ∉ todo → clearOf p s n

theorem Leaving.begin (u : State) (p : Prog) (i : DryInstance) :
    Leaving u p { u with operation := some ⟨p, i, .withdraw none (instanceOf u p).members⟩ } where
  recorder := rfl
  bus := rfl
  config := rfl
  others q _ := by cases q <;> rfl
  own := ⟨(instanceOf u p).members, by cases p <;> rfl⟩
  loops _ _ := rfl
  shrinks := .refl u
  left := .inr ⟨i, _, rfl, List.Subset.refl _, fun _ hn out => absurd hn out⟩

theorem leaving_dryStep {u s : State} {p : Prog} (h : Leaving u p s) : Leaving u p (dryStep s) := by
  rcases h.left with ⟨idle, -⟩ | ⟨i, todo, at_, within, clear⟩
  · have : dryStep s = s := by simp [dryStep, idle]
    rw [this]; exact h
  · cases todo with
    | nil =>
      have step := dryStep_emptied s s.visiting p i
      rw [atStage_self at_] at step
      rw [step]
      obtain ⟨members, own⟩ := h.own
      refine ⟨?_, ?_, ?_, fun q hq => ?_, ⟨[], ?_⟩, fun n hn => ?_, h.shrinks.trans (.of_loops ?_),
        .inl ⟨rfl, ?_, fun n hn => ?_⟩⟩
      · simpa [State.withWork] using h.recorder
      · simpa [State.withWork] using h.bus
      · simpa [State.withWork] using h.config
      · rw [instanceOf_withWork, instanceOf_setInstance_other _ _ hq, h.others q hq]
      · rw [instanceOf_withWork, instanceOf_setInstance, own]
      · simpa [State.withWork] using h.loops n hn
      · simp [State.withWork]
      · simp
      · exact (clear n hn List.not_mem_nil).shrinks (.of_loops (by simp [State.withWork]))
    | cons n todo =>
      have step := dryStep_withdraw s s.visiting p i none n todo
      rw [atStage_self at_] at step
      rw [step]
      obtain ⟨recorder, bus, same⟩ := withdraw_beside s n (.dryout p)
      have config : (withdraw s n (.dryout p)).config = s.config := (visitsLoops_withdraw s p).config s n
      have inside : n ∈ (instanceOf u p).members := within List.mem_cons_self
      have shrinks := withdraw_shrinks s n (.dryout p)
      refine ⟨recorder.trans h.recorder, bus.trans h.bus, config.trans h.config, fun q hq => ?_, ?_, fun m hm => ?_,
        h.shrinks.trans shrinks, .inr ⟨i, todo, rfl, fun m hm => within (List.mem_cons_of_mem n hm), fun m hm out => ?_⟩⟩
      · rw [State.atStage, instanceOf_withWork, same, h.others q hq]
      · obtain ⟨members, own⟩ := h.own
        exact ⟨members, by rw [State.atStage, instanceOf_withWork, same, own]⟩
      · exact (withdraw_loops_ne s _ (m := m) (n := n) fun e => hm (by rw [e]; exact inside)).trans (h.loops m hm)
      · by_cases hmn : m = n
        · subst hmn; exact withdraw_clearOf s m p
        · exact (clear m hm (by simp [hmn, out])).shrinks shrinks

theorem Leaving.times {u : State} {p : Prog} (k : Nat) : ∀ {s : State}, Leaving u p s → Leaving u p (times dryStep k s) := by
  induction k with
  | zero => exact id
  | succ k ih => exact fun h => ih (leaving_dryStep h)

theorem Leaving.cuts {u s : State} {p : Prog} (h : Leaving u p s) (c : Nat) : Leaving u p { s with cuts := c } := by
  have same (q : Prog) : instanceOf { s with cuts := c } q = instanceOf s q := by cases q <;> rfl
  refine ⟨h.recorder, h.bus, h.config, fun q hq => (same q).trans (h.others q hq), ?_, h.loops, h.shrinks, ?_⟩
  · rw [same]; exact h.own
  · rw [same]; exact h.left

/-! ### A step end that fell due at a pause -/

/-- What a step end that may have fallen due makes of its program: `due` tells whether it is to be made at all. -/
structure EndResult (due : Bool) (s : State) (p : Prog) (t : State) : Prop where
  stays : (due && stepExhausted s p) = false → instanceOf t p = instanceOf s p
  advances : ∀ d k, due = true → stepExhausted s p = true → programDef s p = some d → (instanceOf s p).step = some k →
    k < d.steps.length → instanceOf t p = { instanceOf s p with step := some (k + 1), hours := 0, part := ⟨0, 0⟩ }
  ends : ∀ d k, due = true → stepExhausted s p = true → programDef s p = some d → (instanceOf s p).step = some k →
    k = d.steps.length → ∃ members,
      instanceOf t p = { instanceOf s p with state := .done, hours := 0, part := ⟨0, 0⟩, members := members } ∧
      (t.operation = none → members = [] ∧ ∀ n ∈ (instanceOf s p).members, clearOf p t n)

/-- What a step end that may have fallen due makes of the station: its result, and what it leaves. -/
structure EndOf (due : Bool) (s : State) (p : Prog) (t : State) : Prop where
  recorder : t.recorder = s.recorder
  bus : t.bus = s.bus
  config : t.config = s.config
  others : ∀ q, q ≠ p → instanceOf t q = instanceOf s q
  loops : ∀ n, n ∉ (instanceOf s p).members → t.loops.get n = s.loops.get n
  shrinks : Shrinks s t
  result : EndResult due s p t

theorem endOf_refl {due : Bool} {s : State} {p : Prog} (h : (due && stepExhausted s p) = false) : EndOf due s p s where
  recorder := rfl
  bus := rfl
  config := rfl
  others _ _ := rfl
  loops _ _ := rfl
  shrinks := .refl s
  result := ⟨fun _ => rfl, fun _ _ a b => by simp [a, b] at h, fun _ _ a b => by simp [a, b] at h⟩

/-- A step end that may have fallen due, as it begins and as it is carried out. -/
theorem lateStepEnd_endOf (due : Bool) {s : State} (p : Prog) (idle : s.operation = none) :
    EndOf due s p (lateStepEnd due s p) ∧ EndOf due s p (finishDry (lateStepEnd due s p)) := by
  have still {t : State} (e : t.operation = none) (h : EndOf due s p t) : EndOf due s p t ∧ EndOf due s p (finishDry t) := by
    rw [finishDry_of_none e]; exact ⟨h, h⟩
  unfold lateStepEnd
  rw [finishDry_of_none idle]
  split
  case isFalse h => exact still idle (endOf_refl (by simpa using h))
  case isTrue h =>
    have fell : (due && stepExhausted s p) ≠ false := by rw [h]; decide
    obtain ⟨d, k, hd, hk⟩ : ∃ d k, programDef s p = some d ∧ (instanceOf s p).step = some k := by
      simp only [Bool.and_eq_true, stepExhausted, currentStep] at h
      cases hd : programDef s p <;> cases hk : (instanceOf s p).step <;> simp_all
    have unique {d' k'} (hd' : programDef s p = some d') (hk' : (instanceOf s p).step = some k') : d' = d ∧ k' = k := by
      rw [hd] at hd'; rw [hk] at hk'; simp_all
    rw [stepEnd_of hd hk]
    split
    case isTrue more =>
      refine still (by simpa using idle) ⟨by simp, by simp, by simp, fun q hq => instanceOf_setInstance_other _ _ hq, by simp,
        .of_loops (by simp), fun e => absurd e fell, fun d' k' _ _ hd' hk' _ => ?_, fun d' k' _ _ hd' hk' last => ?_⟩
      · obtain ⟨rfl, rfl⟩ := unique hd' hk'
        simp
      · obtain ⟨rfl, rfl⟩ := unique hd' hk'
        omega
    case isFalse last =>
      let v := setInstance s p { instanceOf s p with state := .done, hours := 0, part := ⟨0, 0⟩ }
      have own : instanceOf v p = { instanceOf s p with state := .done, hours := 0, part := ⟨0, 0⟩ } := instanceOf_setInstance ..
      have members : (instanceOf v p).members = (instanceOf s p).members := by rw [own]
      have ending {t : State} (l : Leaving v p t) : EndOf due s p t := by
        refine ⟨l.recorder.trans (setInstance_recorder ..), l.bus.trans (setInstance_bus ..),
          l.config.trans (setInstance_config ..), fun q hq => (l.others q hq).trans (instanceOf_setInstance_other _ _ hq),
          fun n hn => (l.loops n (by rwa [members])).trans (by simp [v]), .trans (.of_loops (by simp [v])) l.shrinks,
          fun e => absurd e fell, fun d' k' _ _ hd' hk' more => ?_, fun d' k' _ _ hd' hk' _ => ?_⟩
        · obtain ⟨rfl, rfl⟩ := unique hd' hk'
          exact absurd more last
        · obtain ⟨set, hset⟩ := l.own
          refine ⟨set, by rw [hset, own], fun idle => ?_⟩
          rcases l.left with ⟨-, none, clear⟩ | ⟨_, _, under, -⟩
          · rw [hset] at none
            rw [members] at clear
            exact ⟨none, clear⟩
          · rw [idle] at under; cases under
      have begun : Leaving v p { v with operation := some ⟨p, instanceOf s p, .withdraw none (instanceOf v p).members⟩ } :=
        .begin v p _
      rw [members] at begun
      exact ⟨ending ((begun.times _).cuts _), ending (((begun.times _).cuts _).times _)⟩

end Sys2Proof.Machine
end

section
/-! A change of the source: who follows it (R81, R135, R141, R142). -/

namespace Sys2Proof.Machine

open Sys2Proof

/-! ### Grants -/

/-- At most the channels, the arbiter and the activity of the valves differ: what grants may change. -/
def GrantFrame (s t : State) : Prop :=
  ∃ channels arbiter active, t = { s with
    channels := channels
    arbiter := arbiter
    valves := { s.valves with activity := active } }

theorem GrantFrame.refl (s : State) : GrantFrame s s := ⟨_, _, _, rfl⟩

theorem GrantFrame.trans {s t u : State} (h : GrantFrame s t) (k : GrantFrame t u) : GrantFrame s u := by
  obtain ⟨_, _, _, rfl⟩ := h
  obtain ⟨_, _, _, rfl⟩ := k
  exact ⟨_, _, _, rfl⟩

theorem GrantFrame.instanceOf {s t : State} (h : GrantFrame s t) (p : Prog) : instanceOf t p = instanceOf s p := by
  obtain ⟨_, _, _, rfl⟩ := h
  cases p <;> rfl

theorem putChannel_grantFrame (s : State) (n : Fin 12) (c : Channel) : GrantFrame s (putChannel s n c) := by
  refine ⟨s.channels.set n c, s.arbiter,
    if activeState c.state && c.state != (s.channels.get n).state then true else s.valves.activity, ?_⟩
  unfold putChannel
  dsimp only
  split <;> rfl

theorem arbiter_grantFrame (s : State) (a : Arbiter) : GrantFrame s { s with arbiter := a } := ⟨_, _, _, rfl⟩

theorem grantTo_grantFrame (s : State) (i : Fin 3) (e : DriveEntry) : GrantFrame s (grantTo s i e) := by
  unfold grantTo moveGranted
  dsimp only
  split
  · split
    · exact (arbiter_grantFrame _ _).trans (putChannel_grantFrame _ _ _)
    · exact ((arbiter_grantFrame _ _).trans (putChannel_grantFrame _ _ _)).trans (arbiter_grantFrame _ _)
  · exact (arbiter_grantFrame _ _).trans (putChannel_grantFrame _ _ _)

theorem grants_grantFrame (s : State) : GrantFrame s (grants s) := by
  unfold grants
  generalize s.arbiter.queue.length = fuel
  induction fuel generalizing s with
  | zero => exact .refl s
  | succ fuel ih =>
    unfold grantLoop
    split
    · exact (grantTo_grantFrame _ _ _).trans (ih _)
    · exact .refl s

/-- Grants leave the arbiter's view of the source. -/
theorem grants_defrost (s : State) : (grants s).arbiter.defrost = s.arbiter.defrost := by
  have one (s : State) (i : Fin 3) (e : DriveEntry) : (grantTo s i e).arbiter.defrost = s.arbiter.defrost := by
    unfold grantTo moveGranted
    dsimp only
    split
    · split <;> rfl
    · rfl
  unfold grants
  generalize s.arbiter.queue.length = fuel
  induction fuel generalizing s with
  | zero => rfl
  | succ fuel ih =>
    unfold grantLoop
    split
    · rw [ih, one]
    · rfl

/-- Grants neither read nor change the peer table. -/
theorem grants_peers (s : State) (p : PeerTable) : grants { s with peers := p } = { grants s with peers := p } := by
  have one (s : State) (i : Fin 3) (e : DriveEntry) :
      grantTo { s with peers := p } i e = { grantTo s i e with peers := p } := by
    unfold grantTo moveGranted
    dsimp only
    split
    · split <;> rfl
    · rfl
  unfold grants
  dsimp only
  generalize s.arbiter.queue.length = fuel
  induction fuel generalizing s with
  | zero => rfl
  | succ fuel ih =>
    simp only [grantLoop]
    split
    · rw [one, ih]
    · rfl

/-! ### The arbiter follows -/

/-- The arbiter's view follows the source (R135). -/
theorem followView_grantFrame (s : State) (st : SourceState) : GrantFrame s (followView s st) := by
  unfold followView
  dsimp only
  split
  · exact (arbiter_grantFrame _ _).trans (grants_grantFrame _)
  · exact arbiter_grantFrame _ _

/-- A view that does not leave DEFROST moves nothing (R135). -/
theorem followView_still {s : State} {st : SourceState} (h : st = .defrost ∨ s.arbiter.defrost = false) :
    followView s st = { s with arbiter := { s.arbiter with defrost := st == .defrost } } := by
  have closed : (s.arbiter.defrost && !(st == .defrost)) = false := by
    rcases h with rfl | h
    · simp
    · simp [h]
  unfold followView
  dsimp only
  rw [closed]
  rfl

/-- A view that leaves DEFROST makes the grants that wait (R135). -/
theorem followView_leaves {s : State} {st : SourceState} (left : st ≠ .defrost) (was : s.arbiter.defrost = true) :
    followView s st = grants { s with arbiter := { s.arbiter with defrost := false } } := by
  have out : (st == .defrost) = false := by simpa using left
  simp only [followView, was, out, Bool.not_false, Bool.and_self, if_true]

theorem followView_defrost (s : State) (st : SourceState) : (followView s st).arbiter.defrost = decide (st = .defrost) := by
  unfold followView
  dsimp only
  split
  · rw [grants_defrost]; exact beq_eq_decide st .defrost
  · exact beq_eq_decide st .defrost

/-! ### The programs follow -/

/-- A program when the source leaves HEATING (R141). -/
def pausedInstance (i : DryInstance) : DryInstance :=
  if i.state = .running then { i with state := .paused, part := ⟨i.part.secs, i.part.ms % 1000⟩ } else i

/-- A program when the source enters HEATING (R141). -/
def resumedInstance (i : DryInstance) : DryInstance := if i.state = .paused then { i with state := .running } else i

theorem setInstance_self (s : State) (p : Prog) : setInstance s p (instanceOf s p) = s := by cases p <;> rfl

theorem pauseProgram_eq (s : State) (p : Prog) : pauseProgram s p = setInstance s p (pausedInstance (instanceOf s p)) := by
  simp only [pauseProgram, pausedInstance, Age.pausedAt]
  split
  · rfl
  · exact (setInstance_self s p).symm

theorem resumeProgram_eq (s : State) (p : Prog) : resumeProgram s p = setInstance s p (resumedInstance (instanceOf s p)) := by
  simp only [resumeProgram, resumedInstance]
  split
  · rfl
  · exact (setInstance_self s p).symm

/-- Both instances changed by one rule. -/
theorem instanceOf_both (s : State) (g : DryInstance → DryInstance) (p : Prog) :
    let t := setInstance s .one (g (instanceOf s .one))
    instanceOf (setInstance t .two (g (instanceOf t .two))) p = g (instanceOf s p) := by
  cases p <;> rfl

/-- Whether a step has ended is judged by its definition, its number and its hours. -/
theorem stepExhausted_congr {s t : State} {p : Prog} (config : t.config = s.config)
    (step : (instanceOf t p).step = (instanceOf s p).step) (hours : (instanceOf t p).hours = (instanceOf s p).hours) :
    stepExhausted t p = stepExhausted s p := by
  have program : programDef t p = programDef s p := by cases p <;> simp only [programDef, config]
  simp only [stepExhausted, currentStep, program, step, hours]

theorem programDef_congr {s t : State} (config : t.config = s.config) (p : Prog) : programDef t p = programDef s p := by
  cases p <;> simp only [programDef, config]

/-- What the return of the source to HEATING makes of one program: `due` tells whether it was paused. -/
structure Resumed (s : State) (p : Prog) (t : State) : Prop where
  stays : (instanceOf s p).state ≠ .paused → instanceOf t p = instanceOf s p
  runs : (instanceOf s p).state = .paused → stepExhausted s p = false →
    instanceOf t p = { instanceOf s p with state := .running }
  advances : ∀ d k, (instanceOf s p).state = .paused → stepExhausted s p = true → programDef s p = some d →
    (instanceOf s p).step = some k → k < d.steps.length →
    instanceOf t p = { instanceOf s p with state := .running, step := some (k + 1), hours := 0, part := ⟨0, 0⟩ }
  ends : ∀ d k, (instanceOf s p).state = .paused → stepExhausted s p = true → programDef s p = some d →
    (instanceOf s p).step = some k → k = d.steps.length → ∃ members,
      instanceOf t p = { instanceOf s p with state := .done, hours := 0, part := ⟨0, 0⟩, members := members } ∧
      (t.operation = none → members = [] ∧ ∀ n ∈ (instanceOf s p).members, clearOf p t n)

/-- A step end judged in a station whose program has been taken back to RUNNING. -/
theorem EndResult.resumed {s a t : State} {p : Prog} (config : a.config = s.config)
    (back : instanceOf a p = resumedInstance (instanceOf s p))
    (h : EndResult ((instanceOf s p).state == .paused) a p t) : Resumed s p t := by
  have fields : (instanceOf a p).step = (instanceOf s p).step ∧ (instanceOf a p).hours = (instanceOf s p).hours ∧
      (instanceOf a p).members = (instanceOf s p).members := by
    rw [back]; unfold resumedInstance; split <;> exact ⟨rfl, rfl, rfl⟩
  obtain ⟨step, hours, members⟩ := fields
  have exhausted := stepExhausted_congr config step hours
  have program := programDef_congr config p
  have running (paused : (instanceOf s p).state = .paused) :
      instanceOf a p = { instanceOf s p with state := .running } := by
    rw [back, resumedInstance, if_pos paused]
  refine ⟨fun other => ?_, fun paused left => ?_, fun d k paused fell hd hk more => ?_, fun d k paused fell hd hk last => ?_⟩
  · rw [h.stays (by simp [other]), back, resumedInstance, if_neg other]
  · rw [h.stays (by simp [exhausted, left]), running paused]
  · rw [h.advances d k (by simp [paused]) (by rwa [exhausted]) (by rwa [program]) (by rwa [step]) more, running paused]
  · obtain ⟨set, own, rest⟩ := h.ends d k (by simp [paused]) (by rwa [exhausted]) (by rwa [program]) (by rwa [step]) last
    refine ⟨set, by rw [own, running paused], ?_⟩
    rw [members] at rest
    exact rest

/-- What the return of the source to HEATING leaves. -/
structure ResumedBoth (s t : State) : Prop where
  recorder : t.recorder = s.recorder
  bus : t.bus = s.bus
  loops : ∀ n, (∀ p, n ∉ (instanceOf s p).members) → t.loops.get n = s.loops.get n
  programs : ∀ p, Resumed s p t

/-- A step end of program 2 leaves what that of program 1 has come to. -/
theorem EndOf.then {b b' : Bool} {a x y : State} (h : EndOf b a .one x) (k : EndOf b' x .two y)
    (ended : y.operation = none → x.operation = none) : EndResult b a .one y ∧ EndResult b' a .two y := by
  have one := k.others .one (by decide)
  have two := h.others .two (by decide)
  have exhausted := stepExhausted_congr (p := .two) h.config (congrArg DryInstance.step two) (congrArg DryInstance.hours two)
  have program := programDef_congr h.config .two
  refine ⟨⟨fun e => one.trans (h.result.stays e), fun d j due fell hd hj more => one.trans (h.result.advances d j due fell hd hj more),
    fun d j due fell hd hj last => ?_⟩, ⟨fun e => ?_, fun d j due fell hd hj more => ?_, fun d j due fell hd hj last => ?_⟩⟩
  · obtain ⟨set, own, rest⟩ := h.result.ends d j due fell hd hj last
    refine ⟨set, one.trans own, fun idle => ?_⟩
    obtain ⟨none, clear⟩ := rest (ended idle)
    exact ⟨none, fun n hn => (clear n hn).shrinks k.shrinks⟩
  · rw [k.result.stays (by rw [exhausted, e]), two]
  · rw [k.result.advances d j due (by rwa [exhausted]) (by rwa [program]) (by rwa [two]) more, two]
  · have := k.result.ends d j due (by rwa [exhausted]) (by rwa [program]) (by rwa [two]) last
    rwa [two] at this

/-- The step ends of both programs that fell due, as they begin and as they are carried out. -/
theorem lateStepEnds (b b' : Bool) {a y : State} (idle : a.operation = none)
    (hy : y = lateStepEnd b' (lateStepEnd b a .one) .two ∨ y = finishDry (lateStepEnd b' (lateStepEnd b a .one) .two)) :
    ∃ x, EndOf b a .one x ∧ EndOf b' x .two y ∧ (y.operation = none → x.operation = none) := by
  obtain ⟨begun, done⟩ := lateStepEnd_endOf b .one idle
  by_cases due : (b' && stepExhausted (lateStepEnd b a .one) .two) = true
  · have two := (done.others .two (by decide)).trans (begun.others .two (by decide)).symm
    have exhausted : stepExhausted (finishDry (lateStepEnd b a .one)) .two = stepExhausted (lateStepEnd b a .one) .two :=
      stepExhausted_congr (done.config.trans begun.config.symm) (congrArg DryInstance.step two) (congrArg DryInstance.hours two)
    have rested := finishDry_operation (lateStepEnd b a .one)
    have same : lateStepEnd b' (finishDry (lateStepEnd b a .one)) .two = lateStepEnd b' (lateStepEnd b a .one) .two := by
      unfold lateStepEnd at due exhausted rested ⊢
      rw [exhausted, if_pos due, if_pos due, finishDry_of_none rested]
    obtain ⟨k, k'⟩ := lateStepEnd_endOf b' .two rested
    rw [same] at k k'
    refine ⟨_, done, ?_, fun _ => rested⟩
    rcases hy with rfl | rfl
    · exact k
    · exact k'
  · have same : lateStepEnd b' (lateStepEnd b a .one) .two = lateStepEnd b a .one := by
      rw [lateStepEnd, if_neg due]
    rw [same] at hy
    rw [Bool.not_eq_true] at due
    rcases hy with rfl | rfl
    · exact ⟨_, begun, endOf_refl due, id⟩
    · have two := (done.others .two (by decide)).trans (begun.others .two (by decide)).symm
      refine ⟨_, done, endOf_refl ?_, id⟩
      rw [stepExhausted_congr (done.config.trans begun.config.symm) (congrArg DryInstance.step two)
        (congrArg DryInstance.hours two)]
      exact due

/-- Both programs run again, and the step ends that fell due are made (R141, R142). -/
theorem resumePrograms_both {s y : State} (idle : s.operation = none)
    (hy : y = resumePrograms s ∨ y = finishDry (resumePrograms s)) : ResumedBoth s y := by
  let a := setInstance (setInstance s .one (resumedInstance (instanceOf s .one))) .two
    (resumedInstance (instanceOf (setInstance s .one (resumedInstance (instanceOf s .one))) .two))
  have back (p : Prog) : instanceOf a p = resumedInstance (instanceOf s p) := instanceOf_both s resumedInstance p
  have members (p : Prog) : (instanceOf a p).members = (instanceOf s p).members := by
    rw [back]; unfold resumedInstance; split <;> rfl
  obtain ⟨x, h, k, ended⟩ := lateStepEnds ((instanceOf s .one).state == .paused) ((instanceOf s .two).state == .paused)
    (a := a) (y := y) idle (by simpa only [resumePrograms, resumeProgram_eq] using hy)
  obtain ⟨one, two⟩ := h.then k ended
  refine ⟨k.recorder.trans h.recorder, k.bus.trans h.bus, fun n hn => ?_, fun p => ?_⟩
  · have outside : n ∉ (instanceOf x .two).members := by
      rw [h.others .two (by decide), members]; exact hn .two
    rw [k.loops n outside, h.loops n (by rw [members]; exact hn .one)]
    rfl
  · cases p
    · exact one.resumed (s := s) (a := a) rfl (back .one)
    · exact two.resumed (s := s) (a := a) rfl (back .two)

theorem followHeating_frame (s : State) (before after : SourceState) :
    DryFrame { s with cuts := (followHeating s before after).cuts } (followHeating s before after) := by
  unfold followHeating
  split
  · exact ((pauseProgram_frame _ _).trans (pauseProgram_frame _ _)).counted
  · split
    · exact resumePrograms_frame s
    · exact (DryFrame.refl s).counted

/-- The programs follow a source that leaves HEATING (R141). -/
theorem followHeating_leaves (s : State) {before after : SourceState} (was : before = .heating) (left : after ≠ .heating) :
    let t := followHeating s before after
    t.loops = s.loops ∧ t.operation = s.operation ∧ t.bus = s.bus ∧ t.recorder = s.recorder ∧
    ∀ p, instanceOf t p = pausedInstance (instanceOf s p) := by
  simp only [followHeating, was, left, ne_eq, not_false_eq_true, and_self, if_true, pauseProgram_eq]
  exact ⟨rfl, rfl, rfl, rfl, instanceOf_both s pausedInstance⟩

theorem followHeating_stays (s : State) {before after : SourceState} (same : before = .heating ↔ after = .heating) :
    followHeating s before after = s := by
  unfold followHeating
  rw [if_neg fun ⟨was, left⟩ => left (same.1 was), if_neg fun ⟨was, enters⟩ => was (same.2 enters)]

theorem followHeating_enters (s : State) {before after : SourceState} (was : before ≠ .heating) (enters : after = .heating) :
    followHeating s before after = resumePrograms s := by
  unfold followHeating
  rw [if_neg fun h => was h.1, if_pos ⟨was, enters⟩]

/-- Unless the source enters HEATING, following it changes no loop and reports nothing. -/
theorem followHeating_quiet (s : State) {before after : SourceState} (h : before = .heating ∨ after ≠ .heating) :
    let t := followHeating s before after
    t.loops = s.loops ∧ t.operation = s.operation ∧ t.bus = s.bus ∧ t.recorder = s.recorder := by
  by_cases left : before = .heating ∧ after ≠ .heating
  · obtain ⟨loops, operation, bus, recorder, -⟩ := followHeating_leaves s left.1 left.2
    exact ⟨loops, operation, bus, recorder⟩
  · have same : before = .heating ↔ after = .heating :=
      ⟨fun was => not_not.1 fun other => left ⟨was, other⟩, fun enters => h.resolve_right fun other => other enters⟩
    rw [followHeating_stays s same]
    exact ⟨rfl, rfl, rfl, rfl⟩

/-- What the sequencer leaves of the other blocks. -/
theorem DryFrame.beside {s t : State} (h : DryFrame { s with cuts := t.cuts } t) : t.peers = s.peers ∧ t.rooms = s.rooms ∧
    t.engine = s.engine ∧ t.meter = s.meter ∧ t.scanner = s.scanner ∧ t.config = s.config ∧ t.visiting = s.visiting ∧
    t.loader = s.loader ∧ t.phases = s.phases ∧ t.valves = s.valves ∧ t.channels = s.channels ∧ t.arbiter = s.arbiter := by
  obtain ⟨_, _, _, _, _, _, _, _, _, e⟩ := h
  rw [e]
  exact ⟨rfl, rfl, rfl, rfl, rfl, rfl, rfl, rfl, rfl, rfl, rfl, rfl⟩

/-- What grants leave of the other blocks. -/
theorem GrantFrame.blocks {s t : State} (h : GrantFrame s t) : t.peers = s.peers ∧ t.rooms = s.rooms ∧
    t.engine = s.engine ∧ t.meter = s.meter ∧ t.scanner = s.scanner ∧ t.config = s.config ∧ t.visiting = s.visiting ∧
    t.loader = s.loader ∧ t.phases = s.phases ∧ t.valves.trim = s.valves.trim ∧ t.loops = s.loops ∧
    t.operation = s.operation ∧ t.bus = s.bus ∧ t.recorder = s.recorder := by
  obtain ⟨_, _, _, rfl⟩ := h
  exact ⟨rfl, rfl, rfl, rfl, rfl, rfl, rfl, rfl, rfl, rfl, rfl, rfl, rfl, rfl⟩

/-! ### The report -/

/-- A counter that stops at its cap. -/
theorem bump_eq_min (cap n : Nat) : bump cap n = min cap (n + 1) := by
  unfold bump; split <;> omega

/-- A SOURCE report is well formed when its state is defined and its flows are in range (R80). -/
theorem sourceForm_eq (v : SourceFields) : sourceForm v =
    if v.fSrc ≤ 60000 ∧ v.fMin ≤ v.fSrc then sourceStateOf v.state else none := by
  unfold sourceForm
  cases sourceStateOf v.state with
  | none => simp
  | some st =>
    dsimp only
    congr 1
    exact propext ⟨fun ⟨a, _, c⟩ => ⟨a, c⟩, fun ⟨a, c⟩ => ⟨a, c.trans a, c⟩⟩

theorem sourceStateOf_undefined {code : Nat} (h : 3 < code) : sourceStateOf code = none := by
  unfold sourceStateOf
  split
  · omega
  · omega
  · omega
  · omega
  · rfl

theorem exec_sourceReport {s : State} {f : Frame} {v : SourceFields} (closed : requestOpen s = false)
    (head : s.bus.rx.head? = some f) (kind : f.kind = 1) (read : readSource f.content = some v) :
    exec .sourceReport s = .next (takeSourceReport (popped s) f) := by
  have taken : takeHead s .sourceReport = some (f, popped s) := by
    rw [takeHead_eq_some, answerOpen_of_closed closed]
    exact ⟨head, handOn_source kind read, rfl⟩
  simp only [exec, execSourceReport, taken]

/-- The station in which the programs and the arbiter follow a report that has been taken. -/
def withSource (u : State) (v : SourceFields) (st : SourceState) : State :=
  { u with peers := { u.peers with source := takenSource v st } }

theorem takeSourceReport_taken (s : State) {f : Frame} {v : SourceFields} {st : SourceState}
    (read : readSource f.content = some v) (sender : f.sender = 9) (form : sourceForm v = some st) :
    takeSourceReport s f =
      followHeating (followView (withSource (beforeHeating s st) v st) st) (effectiveState s) st := by
  simp only [takeSourceReport, read, sender, form]
  rfl

theorem beforeHeating_eq (s : State) (after : SourceState) : beforeHeating s after =
    if effectiveState s = .heating ↔ after = .heating then s else finishDry s := by
  unfold beforeHeating
  by_cases h : effectiveState s = .heating <;> by_cases k : after = .heating <;> simp [h, k]

end Sys2Proof.Machine

open Sys2Proof Sys2Proof.Machine

/-- Settles O30: the report is taken by the peer table, then the arbiter follows the source, and then the programs, whose step
ends are followed through their withdrawals. -/
theorem sourceReportByItsChecks : Obligations.SourceReportByItsChecks := by
  unfold Obligations.SourceReportByItsChecks
  refine ⟨fun s f v closed head kind read => ?_, fun s f v st closed head kind read sender defined flow order => ?_⟩
  · rw [exec_sourceReport closed head kind read]
    refine ⟨fun foreign => ?_, fun sender malformed => ?_⟩
    · have : f.sender.toNat ≠ 9 := fun h => foreign (BitVec.eq_of_toNat_eq h)
      simp only [takeSourceReport, read, this, ne_eq, not_false_eq_true, if_true, bump_eq_min]
      rfl
    · have form : sourceForm v = none := by
        rw [sourceForm_eq]
        rcases malformed with h | h | h | h
        · rw [sourceStateOf_undefined h, ite_self]
        · rw [if_neg (by omega)]
        · rw [if_neg (by omega)]
        · rw [if_neg (by omega)]
      simp only [takeSourceReport, read, sender, form]
      rfl
  · have form : sourceForm v = some st := by rw [sourceForm_eq, if_pos ⟨flow, order⟩, defined]
    let u := beforeHeating (popped s) st
    let c := followView (withSource u v st) st
    let t := followHeating c (effectiveState s) st
    have execs : exec .sourceReport s = .next t := by
      rw [exec_sourceReport closed head kind read, takeSourceReport_taken _ read sender form]
      rfl
    have u_eq : u = if effectiveState s = .heating ↔ st = .heating then popped s else finishDry (popped s) :=
      beforeHeating_eq (popped s) st
    have u_frame : DryFrame (popped s) u := by
      rw [u_eq]; split
      · exact .refl _
      · exact finishDry_frame _
    have c_frame : GrantFrame (withSource u v st) c := followView_grantFrame _ _
    have t_frame : DryFrame { c with cuts := t.cuts } t := followHeating_frame ..
    have own (p : Prog) : instanceOf c p = instanceOf u p := by rw [c_frame.instanceOf]; cases p <;> rfl
    have defrost : c.arbiter.defrost = decide (st = .defrost) := followView_defrost _ _
    obtain ⟨t_peers, t_rooms, t_engine, t_meter, t_scanner, t_config, t_visiting, t_loader, t_phases, t_valves, t_channels,
      t_arbiter⟩ := t_frame.beside
    obtain ⟨c_peers, c_rooms, c_engine, c_meter, c_scanner, c_config, c_visiting, c_loader, c_phases, c_trim, c_loops,
      c_operation, c_bus, c_recorder⟩ := c_frame.blocks
    obtain ⟨u_peers, u_rooms, u_engine, u_meter, u_scanner, u_config, u_visiting, u_loader, u_phases, u_valves, channels,
      arbiter⟩ := u_frame.counted.beside
    have u_channels : u.channels = s.channels := channels
    have u_arbiter : u.arbiter = s.arbiter := arbiter
    have exhausted (p : Prog) : stepExhausted c p = stepExhausted u p :=
      stepExhausted_congr c_config (congrArg DryInstance.step (own p)) (congrArg DryInstance.hours (own p))
    have resumes (was : effectiveState s ≠ .heating) (enters : st = .heating) (y : State)
        (hy : y = t ∨ y = finishDry t) : ResumedBoth c y := by
      have idle : c.operation = none := by
        rw [c_operation, u_eq, if_neg fun h => was (h.2 enters)]; exact finishDry_operation _
      have same : t = resumePrograms c := followHeating_enters c was enters
      rw [same] at hy
      exact resumePrograms_both idle hy
    have quiet (out : effectiveState s = .heating ∨ st ≠ .heating) := followHeating_quiet c out
    refine ⟨u, t, execs, fun same => by rw [u_eq, if_pos same], fun other => ?_, u_frame, fun idle => ?_, ?_, ?_,
      fun still => ?_, fun leaves was => ?_, fun was left => ?_, fun same => ?_, fun was enters p => ?_, fun n hn => ?_,
      fun out => ?_, ?_, ?_, t_rooms.trans (c_rooms.trans u_rooms), t_engine.trans (c_engine.trans u_engine),
      t_meter.trans (c_meter.trans u_meter), t_scanner.trans (c_scanner.trans u_scanner),
      t_config.trans (c_config.trans u_config), t_visiting.trans (c_visiting.trans u_visiting),
      t_loader.trans (c_loader.trans u_loader), t_phases.trans (c_phases.trans u_phases), ?_⟩
    · rw [u_eq, if_neg other]; exact ⟨rfl, finishDry_operation _⟩
    · rw [u_eq, finishDry_of_none (s := popped s) idle, ite_self]
    · rw [t_peers, c_peers, withSource, u_peers]; rfl
    · rw [t_arbiter, defrost]
    · have view : c = _ := followView_still (s := withSource u v st) (st := st) (by rwa [← u_arbiter] at still)
      rw [t_channels, t_arbiter, ← u_channels, ← u_arbiter, view]
      exact ⟨rfl, rfl, rfl⟩
    · have view : c = grants (withSource { u with arbiter := { u.arbiter with defrost := false } } v st) :=
        followView_leaves (s := withSource u v st) leaves (by rwa [← u_arbiter] at was)
      rw [t_channels, t_arbiter, view, withSource, grants_peers]
      exact ⟨rfl, rfl⟩
    · obtain ⟨-, -, -, -, paused⟩ := followHeating_leaves c was left
      intro p
      rw [← own p]; exact paused p
    · intro p
      rw [← own p]
      exact congrArg (instanceOf · p) (followHeating_stays c same)
    · have begun := (resumes was enters t (.inl rfl)).programs p
      have ended := resumes was enters (finishDry t) (.inr rfl)
      have done := ended.programs p
      have program : programDef c p = programDef u p := programDef_congr c_config p
      rw [← own p, ← exhausted p, ← program]
      refine ⟨fun other => ⟨begun.stays other, done.stays other⟩,
        fun paused left => ⟨begun.runs paused left, done.runs paused left⟩,
        fun d k e paused hd hk positive he reached => ?_⟩
      have fell : stepExhausted c p = true := by
        rw [stepExhausted_of hd hk positive he]; exact decide_eq_true reached
      refine ⟨begun.advances d k paused fell hd hk, fun last => ?_⟩
      obtain ⟨set, result, -⟩ := begun.ends d k paused fell hd hk last
      obtain ⟨none, finished, rest⟩ := done.ends d k paused fell hd hk last
      obtain ⟨rfl, clear⟩ := rest (finishDry_operation t)
      exact ⟨⟨set, result⟩, finished, ended.bus.trans c_bus, ended.recorder.trans c_recorder, fun n l hn hl => clear n hn l hl⟩
    · by_cases out : effectiveState s = .heating ∨ st ≠ .heating
      · rw [(quiet out).1, c_loops]; rfl
      · obtain ⟨was, enters⟩ := not_or.1 out
        rw [(resumes was (not_not.1 enters) t (.inl rfl)).loops n fun p => by rw [own]; exact hn p, c_loops]; rfl
    · exact ⟨(quiet out).1.trans c_loops, (quiet out).2.1.trans c_operation⟩
    · by_cases out : effectiveState s = .heating ∨ st ≠ .heating
      · exact (quiet out).2.2.1.trans c_bus
      · obtain ⟨was, enters⟩ := not_or.1 out
        exact (resumes was (not_not.1 enters) t (.inl rfl)).bus.trans c_bus
    · by_cases out : effectiveState s = .heating ∨ st ≠ .heating
      · exact (quiet out).2.2.2.trans c_recorder
      · obtain ⟨was, enters⟩ := not_or.1 out
        exact (resumes was (not_not.1 enters) t (.inl rfl)).recorder.trans c_recorder
    · rw [t_valves, c_trim]; exact congrArg ValveTables.trim u_valves

end

section
/-! The data of the queries: how long its fields are, and how they are laid out (section 13.3). -/

namespace Sys2Proof.Machine

open Sys2Proof

/-! ### Lengths of fields -/

@[simp] theorem length_u16 (n : Nat) : (u16 n).length = 2 := rfl
@[simp] theorem length_s16 (z : Int) : (s16 z).length = 2 := rfl
@[simp] theorem length_u32 (n : Nat) : (u32 n).length = 4 := rfl
@[simp] theorem length_s32 (z : Int) : (s32 z).length = 4 := rfl
@[simp] theorem length_u16? (x : Option Nat) : (u16? x).length = 2 := by cases x <;> rfl
@[simp] theorem length_s16? (x : Option Int) : (s16? x).length = 2 := by cases x <;> rfl
@[simp] theorem length_u32? (x : Option Nat) : (u32? x).length = 4 := by cases x <;> rfl

/-- Records of one length in a row. -/
theorem length_flatMap_const {α β : Type} {f : α → List β} {k : Nat} {l : List α} (h : ∀ x ∈ l, (f x).length = k) :
    (l.flatMap f).length = l.length * k := by
  rw [List.length_flatMap, List.map_congr_left h]
  simp

theorem length_entryBytes (e : Entry) : (entryBytes e).length = 3 := rfl

theorem length_roomData (r : Option Room) : (roomData r).length ≤ 10 := by
  cases r <;> simp [roomData]

theorem length_loopTableData (s : State) (l : Loop) : (loopTableData s l).length = 14 + l.chain.length * 3 := by
  simp only [loopTableData, List.length_append, List.length_cons, List.length_nil, length_u16,
    length_flatMap_const fun e _ => length_entryBytes e]
  omega

theorem length_engineData (e : EngineLoop) : (engineData e).length = 21 := by simp [engineData]

theorem length_probeData (sc : Scanner) (n : Fin 14) : (probeData sc n).length = 6 := by simp [probeData]

theorem length_moveData (m : Option MoveRecord) : (moveData m).length ≤ 10 := by cases m <;> simp [moveData]

theorem length_channelData (c : Channel) : (channelData c).length ≤ 27 := by
  have := length_moveData c.move
  simp only [channelData, List.length_append, List.length_cons, List.length_nil, length_u16, length_s16, length_u16?,
    length_s16?]
  omega

theorem length_arbiterData (s : State) (n : Fin 12) : (arbiterData s n).length ≤ 8 := by
  unfold arbiterData
  dsimp only
  split <;> simp

theorem length_slotData (a : AlertSlot) : (slotData a).length = 10 := by
  cases h : a.latest <;> simp [slotData, h]

theorem length_peerData (p : Peer) : (peerData p).length = 13 := rfl

theorem length_peerPart (peers : List Peer) : (peerPart peers).length = 1 + peers.length * 13 := by
  simp only [peerPart, List.length_cons, length_flatMap_const fun p _ => length_peerData p]
  omega

theorem length_sourceData (s : State) : (sourceData s).length = 31 := by simp [sourceData]

theorem length_tableData {t : Option ValveTable} (h : ∀ x, t = some x → x.fractions.length = 11) :
    (tableData t).length ≤ 25 := by
  cases t with
  | none => simp [tableData]
  | some x =>
    simp only [tableData, List.length_append, List.length_cons, List.length_nil, length_u16,
      length_flatMap_const fun n _ => length_u16 n, h x rfl]
    omega

theorem length_errorRecordData {r : Option ErrorRecord}
    (h : ∀ e c, r = some e → e.frame = some c → c.bytes.length ≤ 8) : (errorRecordData r).length = 23 := by
  cases r with
  | none => rfl
  | some e =>
    cases hf : e.frame with
    | none => simp [errorRecordData, hf]
    | some c =>
      have := h e c rfl hf
      simp only [errorRecordData, hf, List.length_append, List.length_cons, List.length_nil, length_s32, length_u16,
        List.length_replicate]
      omega

/-! ### The parts of READ_LOOP -/

theorem chain_length_le {s : State} (h : ChainsLaw s) {n : Fin 12} {l : Loop} (hl : s.loops.get n = some l) :
    l.chain.length ≤ 3 := by
  have := h n l hl
  unfold chainLaw at this
  split at this
  · cases this
  · rename_i bottom above hc
    simp only [Bool.and_eq_true, decide_eq_true_eq] at this
    rw [hc, List.length_cons]
    omega

/-- The place of the first entry of a channel, counted from the number of the head. -/
theorem queuePlace_cons_of_ne {e : DriveEntry} {rest : List DriveEntry} {n : Fin 12} (h : e.channel ≠ n) (k : Nat) :
    queuePlace (e :: rest) n k = queuePlace rest n (k + 1) := by
  simp [queuePlace, h]

theorem queuePlace_of_getElem? {n : Fin 12} : ∀ {queue : List DriveEntry} {i : Nat} {e : DriveEntry} (k : Nat),
    queue[i]? = some e → e.channel = n → (∀ x ∈ queue.take i, x.channel ≠ n) →
    queuePlace queue n k = some (k + i, e.kind)
  | [], _, _, _, h, _, _ => by simp at h
  | head :: rest, 0, e, k, h, own, _ => by
    obtain rfl : head = e := by simpa using h
    simp [queuePlace, own]
  | head :: rest, i + 1, e, k, h, own, before => by
    rw [queuePlace_cons_of_ne (before head (by simp)),
      queuePlace_of_getElem? (k + 1) (by simpa using h) own fun x hx => before x (by simp [hx])]
    simp [Nat.add_comm, Nat.add_left_comm]

theorem queuePlace_eq_none {n : Fin 12} : ∀ {queue : List DriveEntry} (k : Nat), (∀ e ∈ queue, e.channel ≠ n) →
    queuePlace queue n k = none
  | [], _, _ => rfl
  | head :: rest, k, h => by
    rw [queuePlace_cons_of_ne (h head List.mem_cons_self)]
    exact queuePlace_eq_none (k + 1) fun e he => h e (List.mem_cons_of_mem _ he)

/-- The place of a channel in the queue, or its slot (R137). -/
def ownPlace (s : State) (n : Fin 12) : List Byte :=
  match queuePlace s.arbiter.queue n 1, slotOf s n with
  | some (place, kind), _ => u16 place ++ [u8 (opKindCode kind)]
  | none, some (slot, kind) => u16 (slot.val + 1) ++ [u8 (opKindCode kind)]
  | none, none => []

theorem ownPlace_queued {s : State} {n : Fin 12} {i : Nat} {e : DriveEntry} (h : s.arbiter.queue[i]? = some e)
    (own : e.channel = n) (before : ∀ x ∈ s.arbiter.queue.take i, x.channel ≠ n) :
    ownPlace s n = u16 (i + 1) ++ [u8 (opKindCode e.kind)] := by
  simp only [ownPlace, queuePlace_of_getElem? 1 h own before, Nat.add_comm]

theorem ownPlace_slot {s : State} {n : Fin 12} (h : ∀ e ∈ s.arbiter.queue, e.channel ≠ n) {i : Fin 3} {kind : OpKind}
    (slot : slotOf s n = some (i, kind)) : ownPlace s n = u16 (i.val + 1) ++ [u8 (opKindCode kind)] := by
  simp only [ownPlace, queuePlace_eq_none 1 h, slot]

theorem ownPlace_none {s : State} {n : Fin 12} (h : ∀ e ∈ s.arbiter.queue, e.channel ≠ n) (slot : slotOf s n = none) :
    ownPlace s n = [] := by
  simp only [ownPlace, queuePlace_eq_none 1 h, slot]

theorem u8_bit (b : Bool) : u8 (if b then 0 else 1) = if b then 0 else 1 := by cases b <;> rfl

/-- The arbiter's values follow the place. -/
theorem arbiterData_eq (s : State) (n : Fin 12) : arbiterData s n = ownPlace s n ++ (u16 s.arbiter.queue.length ++
    u16 (s.arbiter.slots.items.filter Option.isNone).length ++ [if s.arbiter.defrost then 0 else 1]) := by
  unfold arbiterData ownPlace
  cases queuePlace s.arbiter.queue n 1 <;> cases slotOf s n <;> simp [u8_bit]

/-! ### The parts of READ_FAULTS -/

theorem kindByte_bits (k : KindRecord) : (kindByte k).getLsbD 7 = k.status ∧ (kindByte k).getLsbD 6 = k.masked ∧
    (kindByte k).toNat % 64 = severityCode k.severity := by
  obtain ⟨status, masked, severity⟩ := k
  cases status <;> cases masked <;> cases severity <;> decide

theorem getElem?_items {n : Nat} {α : Type} (t : Tab n α) (i : Fin n) : t.items[i.val]? = some (t.get i) := by
  simp [Tab.get, t.size]

end Sys2Proof.Machine

open Sys2Proof Sys2Proof.Machine

/-- Settles O34: the lengths of the parts are the sums of those of their fields, and the layouts are the definitions of the
parts. -/
theorem queryPartsFitOneReply : Obligations.QueryPartsFitOneReply := by
  unfold Obligations.QueryPartsFitOneReply
  refine ⟨fun s n => ?_, fun s record => ?_, fun s => ?_, fun s tables => ?_⟩
  · intro c sc probe moveBytes arbiterBytes channelBytes placed
    have place : placed (ownPlace s n) :=
      ⟨fun i e h own before => ownPlace_queued h own before, fun h i kind slot => ownPlace_slot h slot,
        fun h slot => ownPlace_none h slot⟩
    have channel : channelData (s.channels.get n) ++ arbiterData s n = channelBytes (ownPlace s n) := by
      rw [arbiterData_eq, ← List.append_assoc]
      rfl
    refine ⟨fun law d hd => ?_, fun l hl => ⟨_, place, ?_⟩, fun hl used => ⟨_, place, ?_⟩, fun hl unused => ?_⟩
    · have fits : (channelData (s.channels.get n) ++ arbiterData s n).length ≤ 55 := by
        have := length_channelData (s.channels.get n)
        have := length_arbiterData s n
        rw [List.length_append]; omega
      cases hl : s.loops.get n with
      | none =>
        simp only [loopParts, hl] at hd
        split at hd <;> simp only [List.mem_cons, List.not_mem_nil, or_false] at hd
        · rcases hd with rfl | rfl
          · simp
          · exact fits
        · subst hd; simp
      | some l =>
        have := chain_length_le law hl
        have := length_roomData (roomRecord s l.info.room)
        simp only [loopParts, hl, List.mem_cons, List.not_mem_nil, or_false] at hd
        rcases hd with rfl | rfl | rfl
        · rw [List.length_append, length_loopTableData]; omega
        · simp only [List.length_append, length_engineData, length_probeData]; omega
        · exact fits
    · simp only [loopParts, hl, channel]
      congr 1
      simp only [loopTableData, roomData, u8_bit, List.append_assoc]
      rfl
    · simp only [loopParts, hl, used, channel]
      rfl
    · simp only [loopParts, hl, unused]
      rfl
  · refine ⟨rfl, fun d hd => ?_, fun d hd => ?_, fun none => ?_, fun e he => ?_, ?_, rfl⟩
    · simp only [faultParts, List.mem_cons, List.not_mem_nil, or_false] at hd
      rcases hd with rfl | rfl | rfl | rfl
      · simp [s.recorder.kinds.size]
      · rw [length_errorRecordData record]; omega
      · rw [length_flatMap_const fun a _ => length_slotData a, s.recorder.slots.size]; omega
      · simp
    · obtain rfl : _ = d := Option.some.inj hd
      have size : (s.recorder.kinds.items.map kindByte).length = 16 := by simp [s.recorder.kinds.size]
      refine ⟨by simp [s.recorder.kinds.size], fun k => ⟨kindByte (s.recorder.kinds.get k), ?_, kindByte_bits _⟩, ?_⟩
      · rw [List.getElem?_append_left (by rw [size]; exact k.isLt), List.getElem?_map, getElem?_items]
        rfl
      · exact List.drop_left' size
    · simp [faultParts, errorRecordData, none]
    · simp only [faultParts, errorRecordData, he]
      cases e.frame <;> rfl
    · rfl
  · intro l source w part
    refine ⟨fun few d hd => ?_, rfl, ?_⟩
    · simp only [peerParts, List.mem_append, List.mem_singleton] at hd
      rcases hd with (rfl | hd) | hd
      · rw [length_sourceData]; omega
      · split at hd
        · cases hd
        · obtain rfl := List.mem_singleton.1 hd
          rw [length_peerPart, List.length_take]; omega
      · split at hd
        · cases hd
        · obtain rfl := List.mem_singleton.1 hd
          rw [length_peerPart, List.length_drop]
          have : s.peers.peers.length ≤ 8 := few
          omega
    · have parts : (peerParts s).drop 1 =
          (if l.isEmpty then [] else [part (l.take 4)]) ++ if l.length ≤ 4 then [] else [part (l.drop 4)] := rfl
      rw [parts]
      by_cases none : l.length = 0
      · simp [List.length_eq_zero_iff.1 none]
      · have empty : l.isEmpty = false := by cases h : l <;> simp_all
        by_cases few : l.length ≤ 4
        · simp [empty, none, few, List.take_of_length_le]
        · simp [empty, none, few]
  · have lengths (k : Fin 4) : (tableData (s.valves.tables.get k)).length ≤ 25 := length_tableData (tables k)
    refine ⟨fun d hd => ?_, ?_⟩
    · have := lengths 0
      have := lengths 1
      have := lengths 2
      have := lengths 3
      simp only [trimParts, List.mem_cons, List.not_mem_nil, or_false] at hd
      rcases hd with rfl | rfl | rfl
      · simp
      · rw [List.length_append]; omega
      · rw [List.length_append]; omega
    · intro m v table
      have same (k : Fin 4) : tableData (s.valves.tables.get k) = table k := by
        simp only [table, v]
        cases h : s.valves.tables.get k with
        | none => simp [tableData]
        | some t => simp [tableData, u8_bit]
      simp only [trimParts, same]
      rfl

end

section
/-! The start of the station: the chains, and the kept programs (R17, R139, R144, R145, R170). -/

namespace Sys2Proof.Machine

open Sys2Proof

/-! ### Calibration requests report nothing -/

theorem setChannel_grantFrame (s : State) (n : Fin 12) (c : Channel) : GrantFrame s (setChannel s n c) :=
  ⟨_, s.arbiter, s.valves.activity, rfl⟩

theorem joinCalibrate_grantFrame (s : State) (n : Fin 12) : GrantFrame s (joinCalibrate s n) := by
  unfold joinCalibrate
  split
  · exact arbiter_grantFrame _ _
  · split
    · exact .refl s
    · exact arbiter_grantFrame _ _

theorem sendCalibrate_grantFrame (s : State) (n : Fin 12) : GrantFrame s (sendCalibrate s n) :=
  ((putChannel_grantFrame _ _ _).trans (joinCalibrate_grantFrame _ _)).trans (grants_grantFrame _)

theorem requestCalibration_grantFrame (s : State) (n : Fin 12) (service : Bool) :
    GrantFrame s (requestCalibration s n service) := by
  unfold requestCalibration
  split
  · exact .refl s
  · dsimp only
    split
    · exact sendCalibrate_grantFrame s n
    · exact sendCalibrate_grantFrame s n
    · split
      · exact sendCalibrate_grantFrame s n
      · exact .refl s
    · exact setChannel_grantFrame _ _ _
    · exact setChannel_grantFrame _ _ _
    · exact setChannel_grantFrame _ _ _
    · split
      · split
        · exact setChannel_grantFrame _ _ _
        · exact .refl s
      · exact .refl s
    · exact .refl s
    · exact .refl s
    · split
      · exact sendCalibrate_grantFrame s n
      · exact .refl s

theorem startCalibration_grantFrame (s : State) (n : Fin 12) : GrantFrame s (startCalibration s n) := by
  unfold startCalibration
  split
  · exact .refl s
  · exact requestCalibration_grantFrame s n false

/-! ### The chains of the start -/

/-- The station as its blocks come into service, before the chains are built. -/
def broughtUp (s : State) : State :=
  startBlocks (reportAll s (loadFaults s)) (loadImage s.loader.imageStatus s.loader.image)

/-- The station with its chains built. -/
def chained (s : State) : State := buildChains (broughtUp s)

/-- The station with its kept programs checked and pushed again. -/
def restarted (s : State) : State := restartProgram (restartProgram (chained s) .one) .two

theorem startStation_eq (s : State) : startStation s = (List.finRange 12).foldl startCalibration (restarted s) := rfl

theorem startStation_grantFrame (s : State) : GrantFrame (restarted s) (startStation s) :=
  foldl_frame .refl .trans startCalibration_grantFrame _ _

/-- A loop after the switch to its COMFORT entry has been tried. -/
def comforted (u : State) (l : Loop) : Loop :=
  if switchCode u l.chain l.info.comfort = 0 then switched l l.info.comfort else l

theorem comfortSwitch_of_none {s : State} {n : Fin 12} (h : s.loops.get n = none) : comfortSwitch s n = s := by
  simp [comfortSwitch, h]

theorem comfortSwitch_of_some {s : State} {n : Fin 12} {l : Loop} (h : s.loops.get n = some l) : comfortSwitch s n =
    if switchCode s l.chain l.info.comfort = 0 then setLoop s n (switched l l.info.comfort)
    else refuseProfile s n (switchCode s l.chain l.info.comfort) l.info.comfort none := by
  simp only [comfortSwitch, h, baseSwitch_of_some h]

/-- The switches to the COMFORT entries, loop by loop. -/
theorem visitsLoops_comfort (u : State) : VisitsLoops u comfortSwitch (fun _ x => x.map (comforted u))
    (fun _ x => x.elim 0 fun l => switchCode u l.chain l.info.comfort) (fun _ x => x.elim 0 fun l => l.info.comfort) none where
  config s n := by
    cases h : s.loops.get n with
    | none => rw [comfortSwitch_of_none h]
    | some l => rw [comfortSwitch_of_some h]; split <;> simp [refuseProfile]
  other s n m hm := by
    cases h : s.loops.get n with
    | none => rw [comfortSwitch_of_none h]
    | some l => rw [comfortSwitch_of_some h]; split <;> simp [refuseProfile, Tab.get_set, Ne.symm hm]
  own s n config := by
    cases h : s.loops.get n with
    | none => rw [comfortSwitch_of_none h, h]; rfl
    | some l =>
      rw [comfortSwitch_of_some h, switchCode_congr config]
      simp only [comforted, Option.map_some]
      split <;> simp [refuseProfile, h]
  made s n config taken := by
    cases h : s.loops.get n with
    | none => rw [comfortSwitch_of_none h]; exact ⟨rfl, rfl⟩
    | some l =>
      rw [h] at taken
      rw [comfortSwitch_of_some h, switchCode_congr config, if_pos (show switchCode u l.chain l.info.comfort = 0 from taken)]
      exact ⟨rfl, rfl⟩
  refused s n config refusal := by
    cases h : s.loops.get n with
    | none => rw [h] at refusal; exact absurd rfl refusal
    | some l =>
      rw [h] at refusal
      rw [comfortSwitch_of_some h, switchCode_congr config,
        if_neg (show switchCode u l.chain l.info.comfort ≠ 0 from refusal)]
      rfl

/-- The base entry that a present loop's chain starts with (R17). -/
def firstBase (u : State) (info : LoopInfo) : Entry :=
  ⟨if (profileAt u info.comfort).any (fun q => baseKind q.kind) then info.comfort else 0, .base⟩

theorem comforted_freshLoop (u : State) (info : LoopInfo) :
    comforted u (freshLoop info) = { freshLoop info with chain := [firstBase u info] } := by
  by_cases zero : 0 = info.comfort
  · simp [comforted, freshLoop, firstBase, switched, ← zero]
  · cases h : profileAt u info.comfort with
    | none => simp [comforted, freshLoop, firstBase, switchCode, h, zero, firstFailingCheck]
    | some p =>
      by_cases base : baseKind p.kind = true <;>
        simp [comforted, freshLoop, firstBase, switched, switchCode, h, zero, base, firstFailingCheck]

/-- The records of the loops that a start finds in the image. -/
def imageLoops (s : State) : Tab 12 (Option LoopInfo) := (loadImage s.loader.imageStatus s.loader.image).loops

theorem broughtUp_loops (s : State) (n : Fin 12) :
    (broughtUp s).loops.get n = ((imageLoops s).get n).map freshLoop := by
  rw [broughtUp, startBlocks, Tab.get_map, imageLoops]

theorem chained_config (s : State) : (chained s).config = (broughtUp s).config :=
  (visitsLoops_comfort (broughtUp s)).foldl_config _ _

/-- Each present loop starts with its base entry alone (R17). -/
theorem chained_loops (s : State) (n : Fin 12) : (chained s).loops.get n = ((imageLoops s).get n).map fun info =>
    { freshLoop info with chain := [firstBase (chained s) info] } := by
  have visited : (chained s).loops.get n = ((broughtUp s).loops.get n).map (comforted (broughtUp s)) :=
    (visitsLoops_comfort (broughtUp s)).foldl_visited (List.finRange 12) (.inl (List.nodup_finRange 12))
      (broughtUp s) rfl (List.mem_finRange n)
  have same : firstBase (chained s) = firstBase (broughtUp s) := by
    funext info
    rw [firstBase, firstBase, profileAt_congr (chained_config s)]
  rw [same, visited, broughtUp_loops, Option.map_map]
  refine congrArg (Option.map · _) (funext fun info => ?_)
  exact comforted_freshLoop _ info

theorem chained_grows (s : State) : RecorderGrows (broughtUp s).recorder (chained s).recorder :=
  (visitsLoops_comfort (broughtUp s)).foldl_grows _ _ rfl

theorem chained_status (s : State) : ((chained s).recorder.kinds.get (kindIndex .configFault)).status =
    ((broughtUp s).recorder.kinds.get (kindIndex .configFault)).status := by
  rw [chained, buildChains]
  generalize broughtUp s = u
  exact (visitsLoops_comfort u).foldl_other (by decide) (List.finRange 12) u rfl

/-- The programs stand until they are checked. -/
theorem instanceOf_chained (s : State) (p : Prog) : instanceOf (chained s) p = instanceOf s p := by
  obtain ⟨_, _, _, _, _, e⟩ := buildChains_frame (broughtUp s)
  obtain ⟨_, _, _, _, d⟩ := reportAll_frame s (loadFaults s)
  rw [chained, e]
  simp only [broughtUp, startBlocks]
  rw [d]
  cases p <;> rfl

/-! ### Kept programs -/

/-- The program is kept across a warm reset as one under way (R139). -/
def kept (i : DryInstance) : Prop := i.state = .running ∨ i.state = .paused

theorem setInstance_setInstance (s : State) (p : Prog) (i j : DryInstance) :
    setInstance (setInstance s p i) p j = setInstance s p j := by cases p <;> rfl

theorem awake_of_kept {i : DryInstance} (h : kept i) : awake i = { i with state := .running } := by
  unfold awake
  rcases h with h | h
  · rw [if_neg (by simp [h]), ← h]
  · rw [if_pos h]

/-- A program that is not kept stands (R139). -/
theorem restartProgram_of_not_kept {s : State} {p : Prog} (h : ¬ kept (instanceOf s p)) : restartProgram s p = s := by
  have still : awake (instanceOf s p) = instanceOf s p := if_neg fun e => h (.inr e)
  have other : (instanceOf s p).state ≠ .running := fun e => h (.inl e)
  rw [restartProgram, still, setInstance_self]
  simp only [checkKept, other, ne_eq, not_false_eq_true, if_true]

section
variable {s : State} {p : Prog} (hk : kept (instanceOf s p))
include hk

theorem restartProgram_of_kept : restartProgram s p =
    checkKept (setInstance s p { instanceOf s p with state := .running }) p := by
  rw [restartProgram, awake_of_kept hk]

/-- Without a definition a kept program is aborted (R144). -/
theorem restartProgram_undefined (hd : programDef s p = none) : restartProgram s p =
    let x := setInstance s p { instanceOf s p with state := .aborted, members := [] }
    report x (abortedFault (setInstance s p { instanceOf s p with state := .running }) p (instanceOf s p).step none) := by
  have program (i : DryInstance) : programDef (setInstance s p i) p = none := by
    rw [programDef_congr (setInstance_config ..), hd]
  rw [restartProgram_of_kept hk]
  simp only [checkKept, instanceOf_setInstance, program, ne_eq, not_true_eq_false, if_false, abortAtStart,
    setInstance_setInstance]

/-- Beyond its new table a kept program is DONE (R139). -/
theorem restartProgram_beyond {d : ProgramDef} (hd : programDef s p = some d)
    (beyond : d.steps.length < (instanceOf s p).step.getD 0) : restartProgram s p = setInstance s p
      { instanceOf s p with state := .done, step := some d.steps.length, members := [] } := by
  have program (i : DryInstance) : programDef (setInstance s p i) p = some d := by
    rw [programDef_congr (setInstance_config ..), hd]
  rw [restartProgram_of_kept hk]
  simp only [checkKept, instanceOf_setInstance, program, ne_eq, not_true_eq_false, if_false, beyond, if_true,
    setInstance_setInstance]

/-- Within its table a kept program takes its step ends, and is pushed again when it still runs (R144, R145). -/
theorem restartProgram_within {d : ProgramDef} (hd : programDef s p = some d)
    (within : (instanceOf s p).step.getD 0 ≤ d.steps.length) : restartProgram s p =
      let after := advanceKept 33 d.steps { instanceOf s p with state := .running }
      if after.state = .running then repush (setInstance s p after) p d else setInstance s p after := by
  have program (i : DryInstance) : programDef (setInstance s p i) p = some d := by
    rw [programDef_congr (setInstance_config ..), hd]
  rw [restartProgram_of_kept hk]
  simp only [checkKept, instanceOf_setInstance, program, ne_eq, not_true_eq_false, if_false, Nat.not_lt.2 within,
    setInstance_setInstance]

end

/-- A step with time left stands. -/
theorem advanceKept_left {fuel k : Nat} {steps : List DryStep} {i : DryInstance} {st : DryStep} (hk : i.step = some k)
    (hst : steps[k - 1]? = some st) (left : i.hours < st.hours) : advanceKept (fuel + 1) steps i = i := by
  simp only [advanceKept, hk, hst, Nat.not_le.2 left, if_false]

/-- A step at its end advances. -/
theorem advanceKept_next {fuel k : Nat} {steps : List DryStep} {i : DryInstance} {st : DryStep} (hk : i.step = some k)
    (hst : steps[k - 1]? = some st) (ended : st.hours ≤ i.hours) (more : k < steps.length) :
    advanceKept (fuel + 1) steps i =
      advanceKept fuel steps { i with step := some (k + 1), hours := 0, part := ⟨0, 0⟩ } := by
  simp only [advanceKept, hk, hst, ended, more, if_true]

/-- The last step at its end leaves the program DONE. -/
theorem advanceKept_last {fuel k : Nat} {steps : List DryStep} {i : DryInstance} {st : DryStep} (hk : i.step = some k)
    (hst : steps[k - 1]? = some st) (ended : st.hours ≤ i.hours) (last : k = steps.length) :
    advanceKept (fuel + 1) steps i = { i with state := .done, hours := 0, part := ⟨0, 0⟩, members := [] } := by
  simp only [advanceKept, hk, hst, ended, if_true, Nat.not_lt.2 last.ge, if_false]

theorem abortAtStart_eq (s : State) (p : Prog) : abortAtStart s p =
    report (setInstance s p { instanceOf s p with state := .aborted, members := [] })
      (abortedFault s p (instanceOf s p).step none) := rfl

/-! ### What the check of a program leaves of the others -/

/-- The present loops are those of the image, with the flag set and the timer stopped (R17). -/
def FreshLoops (infos : Tab 12 (Option LoopInfo)) (s : State) : Prop :=
  ∀ n, (s.loops.get n).map (fun l => (l.info, l.stale, l.boost)) = (infos.get n).map fun info => (info, true, none)

theorem FreshLoops.of_loops {infos : Tab 12 (Option LoopInfo)} {s t : State} (e : t.loops = s.loops)
    (h : FreshLoops infos s) : FreshLoops infos t := by
  unfold FreshLoops; rw [e]; exact h

/-- The check of one program leaves the configuration, the record of the other program, what the recorder held, the present loops
but for their chains, and reports no CONFIG_FAULT. -/
structure LeavesOthers (p : Prog) (s t : State) : Prop where
  config : t.config = s.config
  others : ∀ q, q ≠ p → instanceOf t q = instanceOf s q
  grows : RecorderGrows s.recorder t.recorder
  fresh : ∀ infos, FreshLoops infos s → FreshLoops infos t
  status : (t.recorder.kinds.get (kindIndex .configFault)).status = (s.recorder.kinds.get (kindIndex .configFault)).status

theorem LeavesOthers.refl (p : Prog) (s : State) : LeavesOthers p s s :=
  ⟨rfl, fun _ _ => rfl, .refl _, fun _ => id, rfl⟩

theorem LeavesOthers.trans {p : Prog} {s t u : State} (h : LeavesOthers p s t) (k : LeavesOthers p t u) :
    LeavesOthers p s u :=
  ⟨k.config.trans h.config, fun q hq => (k.others q hq).trans (h.others q hq), h.grows.trans k.grows,
    fun infos f => k.fresh infos (h.fresh infos f), k.status.trans h.status⟩

theorem setInstance_leavesOthers (s : State) (p : Prog) (i : DryInstance) : LeavesOthers p s (setInstance s p i) :=
  ⟨setInstance_config .., fun _ hq => instanceOf_setInstance_other _ _ hq, by rw [setInstance_recorder]; exact .refl _,
    fun _ => .of_loops (setInstance_loops ..), by rw [setInstance_recorder]⟩

theorem report_leavesOthers (s : State) (p : Prog) {e : FaultEvent} (h : kindIndex e.kind ≠ kindIndex .configFault) :
    LeavesOthers p s (report s e) :=
  ⟨report_config _ _, fun _ _ => report_instanceOf _ _ _, report_grows _ _, fun _ => .of_loops (report_loops _ _), by
    rw [report_kinds]; simp [h]⟩

theorem abortAtStart_leavesOthers (s : State) (p : Prog) : LeavesOthers p s (abortAtStart s p) :=
  (setInstance_leavesOthers _ _ _).trans (report_leavesOthers _ _ (e := abortedFault s p _ none)
    (show kindIndex .dryoutAborted ≠ kindIndex .configFault by decide))

/-- A program's push leaves of a loop all but its chain. -/
theorem pushMember_fresh {infos : Tab 12 (Option LoopInfo)} {s : State} (p : Prog) (k : Fin 16) (n : Fin 12)
    (h : FreshLoops infos s) : FreshLoops infos (pushMember p k s n) := by
  intro m
  rw [← h m]
  have visits := visitsLoops_pushMember s p k
  by_cases hm : m = n
  · subst hm
    rw [visits.own s m rfl]
    cases hl : s.loops.get m with
    | none => rfl
    | some l =>
      have stale : l.stale = true := by
        have same := h m
        rw [hl, Option.map_some] at same
        obtain ⟨info, -, e⟩ := Option.map_eq_some_iff.1 same.symm
        simp only [Prod.mk.injEq] at e
        exact e.2.1.symm
      simp only [afterPush, Option.map_some]
      split <;> simp [pushed, stale]
  · rw [visits.other s n m hm]

theorem pushMember_leavesOthers (p : Prog) (k : Fin 16) (s : State) (n : Fin 12) :
    LeavesOthers p s (pushMember p k s n) :=
  ⟨(visitsLoops_pushMember s p k).config s n, fun _ hq => instanceOf_pushMember_other s k n hq,
    (visitsLoops_pushMember s p k).grows rfl n, fun _ => pushMember_fresh p k n,
    (visitsLoops_pushMember s p k).foldl_other (by decide) [n] s rfl⟩

theorem repush_leavesOthers (s : State) (p : Prog) (d : ProgramDef) : LeavesOthers p s (repush s p d) := by
  have pushes (l : List (Fin 12)) (i : DryInstance) :
      LeavesOthers p s (l.foldl (pushMember p d.profile) (setInstance s p i)) :=
    (setInstance_leavesOthers _ _ _).trans (foldl_frame (.refl p) .trans (pushMember_leavesOthers p d.profile) l _)
  unfold repush
  dsimp only
  split
  · exact (pushes _ _).trans (abortAtStart_leavesOthers _ _)
  · exact pushes _ _

theorem restartProgram_leavesOthers (s : State) (p : Prog) : LeavesOthers p s (restartProgram s p) := by
  refine (setInstance_leavesOthers s p (awake (instanceOf s p))).trans ?_
  unfold restartProgram checkKept
  dsimp only
  split
  · exact .refl _ _
  · split
    · exact abortAtStart_leavesOthers _ _
    · split
      · exact setInstance_leavesOthers _ _ _
      · split
        · exact (setInstance_leavesOthers _ _ _).trans (repush_leavesOthers _ _ _)
        · exact setInstance_leavesOthers _ _ _

end Sys2Proof.Machine
end

section
/-! The kept programs at the start of the station (R139, R144, R145). -/

namespace Sys2Proof.Machine

open Sys2Proof

/-- A program pushed again on its kept members, in a station whose chains are their base entries alone: the loops that take the
push keep its entry and are its members, and without one the program is aborted (R145). -/
structure PushedAgain (p : Prog) (d : ProgramDef) (after : DryInstance) (t : State) : Prop where
  chains : ∀ n l, t.loops.get n = some l → l.chain = l.chain.take 1 ++
    if n ∈ after.members.filter (fun n => (t.loops.get n).any fun l => dryCode t p d.profile (l.chain.take 1) == 0)
    then [⟨d.profile, .dryout p⟩] else []
  some : after.members.filter (fun n => (t.loops.get n).any fun l => dryCode t p d.profile (l.chain.take 1) == 0) ≠ [] →
    instanceOf t p = { after with
      members := after.members.filter fun n => (t.loops.get n).any fun l => dryCode t p d.profile (l.chain.take 1) == 0 }
  none : after.members.filter (fun n => (t.loops.get n).any fun l => dryCode t p d.profile (l.chain.take 1) == 0) = [] →
    instanceOf t p = { after with state := .aborted, members := [] } ∧
    (t.recorder.kinds.get (kindIndex .dryoutAborted)).status = true

theorem abortAtStart_status (s : State) (p : Prog) :
    ((abortAtStart s p).recorder.kinds.get (kindIndex .dryoutAborted)).status = true := by
  rw [abortAtStart_eq, report_kinds]
  simp [abortedFault]

theorem repush_pushedAgain {y : State} (p : Prog) (d : ProgramDef) {base : Fin 12 → Entry}
    (single : ∀ n l, y.loops.get n = some l → l.chain = [base n]) (distinct : (instanceOf y p).members.Nodup) :
    PushedAgain p d (instanceOf y p) (repush y p d) := by
  let w := ((instanceOf y p).members.filter (loopPresent y)).foldl (pushMember p d.profile)
    (setInstance y p { instanceOf y p with members := [] })
  have pushes : StartPushes y w p d.profile (instanceOf y p).members := startPushes y p d.profile distinct
  let t := repush y p d
  have t_def : t = if (instanceOf w p).members.isEmpty then abortAtStart w p else w := rfl
  have loops : t.loops = w.loops := by
    rw [t_def]; split
    · rw [abortAtStart_eq]; simp
    · rfl
  have config : t.config = y.config := (repush_leavesOthers y p d).config
  have takes (n : Fin 12) : ((t.loops.get n).any fun l => dryCode t p d.profile (l.chain.take 1) == 0) =
      takesPush y p d.profile (y.loops.get n) := by
    rw [loops, dryCode_congr config]
    cases h : y.loops.get n with
    | none => rw [pushes.absent n h]; rfl
    | some l =>
      rw [pushes.loops n l h]
      have chain := single n l h
      split <;> simp [takesPush, pushCode, chain]
  have filter : (instanceOf y p).members.filter
      (fun n => (t.loops.get n).any fun l => dryCode t p d.profile (l.chain.take 1) == 0) = (instanceOf w p).members := by
    rw [pushes.members]
    exact List.filter_congr fun n _ => takes n
  change PushedAgain p d (instanceOf y p) t
  refine ⟨?_, ?_, ?_⟩ <;> rw [filter]
  · intro n l hl
    rw [loops] at hl
    cases h : y.loops.get n with
    | none => rw [pushes.absent n h] at hl; cases hl
    | some l' =>
      have chain := single n l' h
      have member : n ∈ (instanceOf w p).members ↔
          n ∈ (instanceOf y p).members ∧ pushCode y p d.profile (some l') = 0 := by
        rw [pushes.members]; simp [takesPush, h]
      rw [pushes.loops n l' h, ← if_congr member rfl rfl] at hl
      obtain rfl := Option.some.inj hl
      split <;> simp [chain]
  · intro some
    rw [t_def, if_neg (by simpa using some), pushes.members]
  · intro none
    rw [t_def, if_pos (by simpa using none)]
    refine ⟨?_, abortAtStart_status w p⟩
    rw [abortAtStart_eq, report_instanceOf, instanceOf_setInstance, pushes.members]

theorem PushedAgain.transfer {p : Prog} {d : ProgramDef} {after : DryInstance} {y t : State} (h : PushedAgain p d after y)
    (config : t.config = y.config) (loops : t.loops = y.loops) (own : instanceOf t p = instanceOf y p)
    (grows : RecorderGrows y.recorder t.recorder) : PushedAgain p d after t := by
  obtain ⟨chains, some, none⟩ := h
  rw [← dryCode_congr config, ← loops] at chains some none
  rw [← own] at some none
  exact ⟨chains, some, fun empty => ⟨(none empty).1, grows.status _ (none empty).2⟩⟩

/-- What the check of a program that still runs comes to, with what follows it. -/
theorem pushedAgain_of_restart {x t : State} {p : Prog} {d : ProgramDef} {after : DryInstance} {base : Fin 12 → Entry}
    (result : restartProgram x p = repush (setInstance x p after) p d)
    (single : ∀ n l, x.loops.get n = some l → l.chain = [base n]) (distinct : after.members.Nodup)
    (config : t.config = x.config) (loops : t.loops = (restartProgram x p).loops)
    (own : instanceOf t p = instanceOf (restartProgram x p) p)
    (grows : RecorderGrows (restartProgram x p).recorder t.recorder) : PushedAgain p d after t := by
  rw [result] at own grows loops
  have pushes := repush_pushedAgain (y := setInstance x p after) p d (base := base)
    (fun n l hl => single n l (by rwa [setInstance_loops] at hl)) (by rwa [instanceOf_setInstance])
  rw [instanceOf_setInstance] at pushes
  refine pushes.transfer ?_ loops own grows
  rw [config, (repush_leavesOthers _ p d).config, setInstance_config]

/-- The chain of a present loop before the kept programs are pushed again is one entry. -/
theorem chained_single (s : State) : ∃ base : Fin 12 → Entry, ∀ n l, (chained s).loops.get n = some l →
    l.chain = [base n] := by
  refine ⟨fun n => (((imageLoops s).get n).map (firstBase (chained s))).getD ⟨0, .base⟩, fun n l hl => ?_⟩
  rw [chained_loops] at hl
  obtain ⟨info, hi, rfl⟩ := Option.map_eq_some_iff.1 hl
  simp [hi]

/-- Grants and requests leave the configuration, the recorder and the loops. -/
theorem GrantFrame.beside {s t : State} (h : GrantFrame s t) :
    t.config = s.config ∧ t.recorder = s.recorder ∧ t.loops = s.loops := by
  obtain ⟨_, _, _, rfl⟩ := h
  exact ⟨rfl, rfl, rfl⟩

/-- A program is checked in a station that the check of the other leaves to it, and what follows leaves its result. -/
structure CheckedIn (s : State) (p : Prog) (x : State) : Prop where
  before : instanceOf x p = instanceOf s p
  config : (startStation s).config = x.config
  own : instanceOf (startStation s) p = instanceOf (restartProgram x p) p
  grows : RecorderGrows (restartProgram x p).recorder (startStation s).recorder
  alone : (∀ q, q ≠ p → ¬ kept (instanceOf s q)) → x = chained s ∧ (startStation s).loops = (restartProgram x p).loops

theorem exists_checkedIn (s : State) (p : Prog) : ∃ x, CheckedIn s p x := by
  have requests := startStation_grantFrame s
  have own (q : Prog) : instanceOf (startStation s) q = instanceOf (restarted s) q := requests.instanceOf q
  obtain ⟨config, recorder, loops⟩ := requests.beside
  have one := restartProgram_leavesOthers (chained s) .one
  have two := restartProgram_leavesOthers (restartProgram (chained s) .one) .two
  cases p with
  | one =>
    refine ⟨chained s, instanceOf_chained s .one, config.trans (two.config.trans one.config),
      (own .one).trans (two.others .one (by decide)), by rw [recorder]; exact two.grows, fun alone => ⟨rfl, ?_⟩⟩
    rw [loops, restarted, restartProgram_of_not_kept (p := .two)]
    rw [one.others .two (by decide), instanceOf_chained]
    exact alone .two (by decide)
  | two =>
    refine ⟨restartProgram (chained s) .one, (one.others .two (by decide)).trans (instanceOf_chained s .two),
      config.trans two.config, own .two, by rw [recorder]; exact .refl _, fun alone => ⟨?_, loops⟩⟩
    rw [restartProgram_of_not_kept (p := .one)]
    rw [instanceOf_chained]
    exact alone .one (by decide)

end Sys2Proof.Machine

open Sys2Proof Sys2Proof.Machine

/-- Settles O9: each program is checked by itself, and what follows its check leaves its record and only adds to the
recorder. -/
theorem keptProgramsAreCheckedAndPushedAgain : Obligations.KeptProgramsAreCheckedAndPushedAgain := by
  unfold Obligations.KeptProgramsAreCheckedAndPushedAgain
  intro s p loading ok
  refine ⟨startStation s, by simp only [exec, execStationStart, loading, if_true], ?_⟩
  intro i kept' aborted others pushed
  obtain ⟨x, h⟩ := exists_checkedIn s p
  have program : programDef (startStation s) p = programDef x p := programDef_congr h.config p
  have step : (instanceOf x p).step = i.step := congrArg DryInstance.step h.before
  have again {d : ProgramDef} {after : DryInstance} (alone : others) (distinct : i.members.Nodup)
      (members : after.members = i.members)
      (result : restartProgram x p = repush (setInstance x p { after with state := .running }) p d) : pushed d after := by
    have unkept : ∀ q, q ≠ p → ¬ kept (instanceOf s q) := fun q hq under => under.elim (alone q hq).1 (alone q hq).2
    obtain ⟨e, loops⟩ := h.alone unkept
    obtain ⟨base, single⟩ := chained_single s
    rw [← e] at single
    obtain ⟨chains, some, none⟩ := pushedAgain_of_restart result single (by simpa only [members] using distinct) h.config loops
      h.own h.grows
    simp only [members] at chains some none
    exact ⟨chains, some, none⟩
  refine ⟨fun other => ?_, fun under undefined => ?_, fun d under defined beyond => ?_,
    fun d k st under defined at_ positive hst => ⟨fun left alone distinct => ?_,
      fun next ended more short alone distinct => ?_, fun ended last => ?_⟩⟩
  · rw [h.own, restartProgram_of_not_kept (by rw [h.before]; exact other), h.before]
  · have result := restartProgram_undefined (s := x) (by rw [h.before]; exact under) (program.symm.trans undefined)
    refine ⟨?_, h.grows.status _ ?_⟩
    · rw [h.own, result, report_instanceOf, instanceOf_setInstance, h.before]
    · rw [result, report_kinds]
      simp [abortedFault]
  · have result := restartProgram_beyond (s := x) (by rw [h.before]; exact under) (program.symm.trans defined)
      (by rw [step]; exact beyond)
    rw [h.own, result, instanceOf_setInstance, h.before]
  all_goals
    have inside : k - 1 < d.steps.length := (List.getElem?_eq_some_iff.1 hst).1
    have result := restartProgram_within (s := x) (by rw [h.before]; exact under) (program.symm.trans defined)
      (by rw [step, at_]; simp only [Option.getD_some]; omega)
    rw [h.before] at result
  · rw [advanceKept_left (i := { i with state := .running }) at_ hst left] at result
    exact again (after := i) alone distinct rfl result
  · have room : k < d.steps.length := (List.getElem?_eq_some_iff.1 more).1
    rw [advanceKept_next (i := { i with state := .running }) at_ hst ended room,
      advanceKept_left (k := k + 1) rfl more short] at result
    exact again (after := { i with step := some (k + 1), hours := 0, part := ⟨0, 0⟩ }) alone distinct rfl result
  · rw [advanceKept_last (i := { i with state := .running }) at_ hst ended last] at result
    rw [h.own, result, if_neg (by simp), instanceOf_setInstance]

end

section
/-! The calibration requests of the start (R122, R127, R134, R170). -/

namespace Sys2Proof.Machine

open Sys2Proof

/-! ### Position counters and rest positions -/

/-- The position counters stand, and a rest position is taken from the counter or stands. -/
def CountersStand (s t : State) : Prop := ∀ n, (t.channels.get n).counter = (s.channels.get n).counter ∧
  ((t.channels.get n).rest = (s.channels.get n).rest ∨ (t.channels.get n).rest = (t.channels.get n).counter)

theorem CountersStand.refl (s : State) : CountersStand s s := fun _ => ⟨rfl, .inl rfl⟩

theorem CountersStand.trans {s t u : State} (h : CountersStand s t) (k : CountersStand t u) : CountersStand s u :=
  fun n => by
    obtain ⟨counter, rest⟩ := h n
    obtain ⟨counter', rest'⟩ := k n
    refine ⟨counter'.trans counter, rest'.elim (fun e => rest.imp e.trans fun e' => ?_) .inr⟩
    rw [e, e', counter']

/-- A channel is put with its counter, and with its rest position or its counter for it. -/
theorem CountersStand.of_put {s t : State} {n : Fin 12} {c : Channel} (own : t.channels.get n = c)
    (others : ∀ m, n ≠ m → t.channels.get m = s.channels.get m) (counter : c.counter = (s.channels.get n).counter)
    (rest : c.rest = (s.channels.get n).rest ∨ c.rest = c.counter) : CountersStand s t := by
  intro m
  by_cases hm : n = m
  · subst hm; rw [own]; exact ⟨counter, rest⟩
  · rw [others m hm]; exact ⟨rfl, .inl rfl⟩

theorem setChannel_countersStand {s : State} {n : Fin 12} {c : Channel} (counter : c.counter = (s.channels.get n).counter)
    (rest : c.rest = (s.channels.get n).rest ∨ c.rest = c.counter) : CountersStand s (setChannel s n c) :=
  .of_put (by simp) (fun m h => by simp [Tab.get_set_ne _ _ h]) counter rest

theorem grantTo_countersStand (s : State) (i : Fin 3) (e : DriveEntry) : CountersStand s (grantTo s i e) := by
  have put (c : Channel) (counter : c.counter = (s.channels.get e.channel).counter)
      (rest : c.rest = (s.channels.get e.channel).rest ∨ c.rest = c.counter) :
      CountersStand s (putChannel { s with arbiter := granted s.arbiter i e } e.channel c) :=
    .of_put (putChannel_get_self _ _ c) (fun _ h => putChannel_get_ne _ c h) counter rest
  unfold grantTo moveGranted
  dsimp only
  split
  · split
    · exact put _ rfl (.inl rfl)
    · exact put _ rfl (.inr rfl)
  · exact put _ rfl (.inl rfl)

theorem grants_countersStand (s : State) : CountersStand s (grants s) := by
  unfold grants
  generalize s.arbiter.queue.length = fuel
  induction fuel generalizing s with
  | zero => exact .refl s
  | succ fuel ih =>
    unfold grantLoop
    split
    · exact (grantTo_countersStand _ _ _).trans (ih _)
    · exact .refl s

theorem joinCalibrate_channels (s : State) (n : Fin 12) : (joinCalibrate s n).channels = s.channels := by
  unfold joinCalibrate
  split
  · rfl
  · split <;> rfl

theorem sendCalibrate_countersStand (s : State) (n : Fin 12) : CountersStand s (sendCalibrate s n) := by
  let c : Channel := { s.channels.get n with state := .queued, calibrated := false }
  refine (CountersStand.of_put (t := joinCalibrate (putChannel s n c) n) (n := n) (c := c) ?_ (fun m h => ?_) rfl
    (.inl rfl)).trans (grants_countersStand _)
  · rw [joinCalibrate_channels, putChannel_get_self]
  · rw [joinCalibrate_channels, putChannel_get_ne _ _ h]

/-! ### What a request leaves of the other channels -/

/-- A channel that has no entry stands, and has none afterwards. -/
def Untouched (n : Fin 12) (s t : State) : Prop :=
  unqueued s.arbiter n → t.channels.get n = s.channels.get n ∧ unqueued t.arbiter n

theorem Untouched.refl (n : Fin 12) (s : State) : Untouched n s s := fun h => ⟨rfl, h⟩

theorem Untouched.trans {n : Fin 12} {s t u : State} (h : Untouched n s t) (k : Untouched n t u) : Untouched n s u :=
  fun q => by
    obtain ⟨same, q⟩ := h q
    obtain ⟨same', q⟩ := k q
    exact ⟨same'.trans same, q⟩

theorem grants_untouched (n : Fin 12) (s : State) : Untouched n s (grants s) := grantLoop_unqueued n _ s

theorem joinCalibrate_untouched {n m : Fin 12} (h : m ≠ n) (s : State) : Untouched n s (joinCalibrate s m) := by
  intro q
  refine ⟨by rw [joinCalibrate_channels], ?_⟩
  unfold joinCalibrate
  split
  · intro e he
    obtain ⟨x, hx, rfl⟩ := List.mem_map.1 he
    split
    · exact h
    · exact q x hx
  · split
    · exact q
    · intro e he
      rcases List.mem_append.1 he with he | he
      · exact q e he
      · rw [List.mem_singleton.1 he]; exact h

theorem sendCalibrate_untouched {n m : Fin 12} (h : m ≠ n) (s : State) : Untouched n s (sendCalibrate s m) :=
  (Untouched.trans (fun q => ⟨putChannel_get_ne s _ h, q⟩) (joinCalibrate_untouched h _)).trans (grants_untouched n _)

/-- The cases of a request: none, remembered, or sent to the arbiter. -/
theorem requestCalibration_cases (s : State) (n : Fin 12) (service : Bool) :
    requestCalibration s n service = s ∨
    requestCalibration s n service = setChannel s n { s.channels.get n with remembered := true } ∨
    requestCalibration s n service = sendCalibrate s n := by
  unfold requestCalibration
  split
  · exact .inl rfl
  · dsimp only
    split
    · exact .inr (.inr rfl)
    · exact .inr (.inr rfl)
    · split
      · exact .inr (.inr rfl)
      · exact .inl rfl
    · exact .inr (.inl rfl)
    · exact .inr (.inl rfl)
    · exact .inr (.inl rfl)
    · split
      · split
        · exact .inr (.inl rfl)
        · exact .inl rfl
      · exact .inl rfl
    · exact .inl rfl
    · exact .inl rfl
    · split
      · exact .inr (.inr rfl)
      · exact .inl rfl

theorem startCalibration_countersStand (s : State) (n : Fin 12) : CountersStand s (startCalibration s n) := by
  unfold startCalibration
  split
  · exact .refl s
  · rcases requestCalibration_cases s n false with e | e | e <;> rw [e]
    · exact .refl s
    · exact setChannel_countersStand rfl (.inl rfl)
    · exact sendCalibrate_countersStand s n

theorem startCalibration_untouched {n m : Fin 12} (h : m ≠ n) (s : State) : Untouched n s (startCalibration s m) := by
  unfold startCalibration
  split
  · exact .refl n s
  · rcases requestCalibration_cases s m false with e | e | e <;> rw [e]
    · exact .refl n s
    · exact fun q => ⟨by simp [Tab.get_set_ne _ _ h], q⟩
    · exact sendCalibrate_untouched h s

/-- A channel in use whose flag is clear is asked to calibrate at the start. -/
def asksAtStart (s : State) (n : Fin 12) : Bool := channelInUse s n && !(s.channels.get n).calibrated

theorem startCalibration_of_not {s : State} {n : Fin 12} (h : asksAtStart s n = false) : startCalibration s n = s := by
  unfold startCalibration
  split
  · rfl
  · rename_i flag
    have : channelInUse s n = false := by simpa [asksAtStart, flag] using h
    simp [requestCalibration, this]

theorem GrantFrame.channelInUse {s t : State} (h : GrantFrame s t) (n : Fin 12) : channelInUse t n = channelInUse s n := by
  obtain ⟨_, _, _, rfl⟩ := h; rfl

/-- A channel that does not ask, and has no entry, stands through the requests of the start. -/
theorem startCalibrations_untouched {n : Fin 12} (l : List (Fin 12)) : ∀ s : State, asksAtStart s n = false →
    Untouched n s (l.foldl startCalibration s) := by
  induction l with
  | nil => intro s _; exact .refl n s
  | cons m l ih =>
    intro s quiet q
    by_cases h : m = n
    · subst h
      rw [List.foldl_cons, startCalibration_of_not quiet]
      exact ih s quiet q
    · obtain ⟨same, q'⟩ := startCalibration_untouched h s q
      have quiet' : asksAtStart (startCalibration s m) n = false := by
        rw [asksAtStart, (startCalibration_grantFrame s m).channelInUse, same]; exact quiet
      obtain ⟨same', q''⟩ := ih _ quiet' q'
      exact ⟨same'.trans same, q''⟩

/-! ### The requests that are sent -/

/-- The station `x` after the channels of `done` have asked, in their order, in the station `b`: the first three hold the slots
in their calibrations, and the others wait. -/
structure AskedSoFar (b : State) (done : List (Fin 12)) (x : State) : Prop where
  frame : GrantFrame b x
  slots : x.arbiter.slots.items = (done.take 3).map (fun n => some ⟨n, .calibrate⟩) ++ List.replicate (3 - done.length) none
  queue : x.arbiter.queue = (done.drop 3).map (⟨·, .calibrate⟩)
  view : x.arbiter.defrost = false
  others : ∀ n, n ∉ done → x.channels.get n = b.channels.get n
  flags : ∀ n ∈ done, (x.channels.get n).calibrated = false
  first : ∀ n ∈ done.take 3, (x.channels.get n).state = .calClose ∧ (x.channels.get n).live = none
  later : ∀ n ∈ done.drop 3, (x.channels.get n).state = .queued

theorem askedSoFar_nil {b : State} (slots : b.arbiter = Arbiter.reset) : AskedSoFar b [] b where
  frame := .refl b
  slots := by rw [slots]; rfl
  queue := by rw [slots]; rfl
  view := by rw [slots]; rfl
  others _ _ := rfl
  flags _ h := by cases h
  first _ h := by cases h
  later _ h := by cases h

/-- The grant that follows a request of the start: the lowest free slot, while there is one. -/
theorem nextGrant_asked {a : Arbiter} {n : Fin 12} : ∀ {done : List (Fin 12)},
    a.slots.items = (done.take 3).map (fun n => some ⟨n, .calibrate⟩) ++ List.replicate (3 - done.length) none →
    a.queue = (done.drop 3).map (⟨·, .calibrate⟩) ++ [⟨n, .calibrate⟩] → a.defrost = false →
    nextGrant a = if h : done.length < 3 then some (⟨done.length, h⟩, ⟨n, .calibrate⟩) else none := by
  intro done slots queue view
  obtain ⟨q, ⟨items, size⟩, d⟩ := a
  dsimp only at slots queue view
  subst queue view
  match done with
  | [] => subst slots; rfl
  | [_] => subst slots; rfl
  | [_, _] => subst slots; rfl
  | _ :: _ :: _ :: rest =>
    have full : ¬ (rest.length + 3 < 3) := by omega
    simp only [List.take_succ_cons, List.take_zero, List.map_cons, List.map_nil, List.length_cons,
      Nat.add_assoc, Nat.reduceAdd, Nat.sub_eq_zero_of_le (Nat.le_add_left 3 rest.length), List.replicate_zero,
      List.append_nil] at slots
    subst slots
    simp only [List.length_cons, Nat.add_assoc, Nat.reduceAdd, full, dite_false]
    rfl

/-- The entry of one more slot. -/
theorem set_asked {n : Fin 12} : ∀ {done : List (Fin 12)}, done.length < 3 →
    ((done.take 3).map (fun n => some (DriveEntry.mk n .calibrate)) ++ List.replicate (3 - done.length) none).set
        done.length (some ⟨n, .calibrate⟩) =
      ((done ++ [n]).take 3).map (fun n => some (DriveEntry.mk n .calibrate)) ++
        List.replicate (3 - (done ++ [n]).length) none
  | [], _ => rfl
  | [_], _ => rfl
  | [_, _], _ => rfl
  | _ :: _ :: _ :: _, h => by simp only [List.length_cons] at h; omega

/-- A channel without entry and slot joins the tail of the queue. -/
theorem joinCalibrate_tail {s : State} {n : Fin 12} (entry : entryOf s n = none) (slot : slotOf s n = none) :
    joinCalibrate s n =
      { s with arbiter := { s.arbiter with queue := s.arbiter.queue ++ [⟨n, .calibrate⟩] } } := by
  simp [joinCalibrate, entry, slot]

theorem AskedSoFar.entryOf_eq_none {b x : State} {done : List (Fin 12)} (h : AskedSoFar b done x) {n : Fin 12}
    (out : n ∉ done) : entryOf x n = none := by
  rw [entryOf, h.queue, List.find?_eq_none]
  intro e he
  obtain ⟨m, hm, rfl⟩ := List.mem_map.1 he
  have : m ≠ n := fun e => out (e ▸ List.mem_of_mem_drop hm)
  simpa using this

theorem AskedSoFar.slotOf_eq_none {b x : State} {done : List (Fin 12)} (h : AskedSoFar b done x) {n : Fin 12}
    (out : n ∉ done) : slotOf x n = none := by
  rw [slotOf, List.findSome?_eq_none_iff]
  intro i _
  have held : x.arbiter.slots.get i ∈ x.arbiter.slots.items := List.getElem_mem _
  rw [h.slots, List.mem_append] at held
  rcases held with held | held
  · obtain ⟨m, hm, e⟩ := List.mem_map.1 held
    have : m ≠ n := fun e => out (e ▸ List.mem_of_mem_take hm)
    simp [← e, this]
  · simp [(List.mem_replicate.1 held).2]

theorem grants_of_none {s : State} (h : nextGrant s.arbiter = none) : grants s = s := by
  unfold grants
  cases s.arbiter.queue.length with
  | zero => rfl
  | succ k => simp only [grantLoop, h]

/-- One more channel asks: it takes the lowest free slot, or waits behind the others. -/
theorem AskedSoFar.step {b x : State} {done : List (Fin 12)} (h : AskedSoFar b done x) {n : Fin 12} (out : n ∉ done)
    (asks : asksAtStart b n = true)
    (rests : (b.channels.get n).state = .uncalibrated ∨ (b.channels.get n).state = .idle) :
    AskedSoFar b (done ++ [n]) (startCalibration x n) := by
  have own := h.others n out
  obtain ⟨used, flag⟩ : channelInUse x n = true ∧ (x.channels.get n).calibrated = false := by
    rw [h.frame.channelInUse, own]; simpa [asksAtStart] using asks
  have sent : startCalibration x n = sendCalibrate x n := by
    rw [startCalibration, flag]
    unfold requestCalibration
    rw [used, own]
    rcases rests with e | e <;> simp [e]
  let c : Channel := { x.channels.get n with state := .queued, calibrated := false }
  let z := putChannel x n c
  let y : State := { z with arbiter := { x.arbiter with queue := x.arbiter.queue ++ [⟨n, .calibrate⟩] } }
  have joined : sendCalibrate x n = grants y := by
    have entry : entryOf z n = none := h.entryOf_eq_none out
    have slot : slotOf z n = none := h.slotOf_eq_none out
    exact congrArg grants (joinCalibrate_tail entry slot)
  have frame : GrantFrame b y := (h.frame.trans (putChannel_grantFrame x n c)).trans (arbiter_grantFrame z _)
  have next : nextGrant y.arbiter = _ := nextGrant_asked (n := n) h.slots (congrArg (· ++ _) h.queue) h.view
  have put : y.channels.get n = c := putChannel_get_self x n c
  have others (m : Fin 12) (hm : m ≠ n) : y.channels.get m = x.channels.get m := putChannel_get_ne x c (Ne.symm hm)
  have apart (m : Fin 12) (hm : m ∈ done) : m ≠ n := fun e => out (e ▸ hm)
  rw [sent, joined]
  by_cases room : done.length < 3
  · have empty : done.drop 3 = [] := List.drop_eq_nil_of_le (by omega)
    have queue : y.arbiter.queue = [⟨n, .calibrate⟩] := by
      change x.arbiter.queue ++ _ = _
      rw [h.queue, empty]; rfl
    rw [dif_pos room] at next
    have granted : grants y = grantTo y ⟨done.length, room⟩ ⟨n, .calibrate⟩ := by
      rw [grants, queue]
      simp only [List.length_singleton, grantLoop, next]
    let c' : Channel := { y.channels.get n with
      state := .calClose
      live := none
      remembered := false
      move := some ⟨.calibrate, some .close, 0, some (phaseLimit y n), 0, 0⟩
      wait := none }
    have result : (grants y).channels.get n = c' := by rw [granted]; exact putChannel_get_self _ n c'
    have rest (m : Fin 12) (hm : m ≠ n) : (grants y).channels.get m = x.channels.get m := by
      rw [granted, ← others m hm]; exact putChannel_get_ne _ c' (Ne.symm hm)
    have all : (done ++ [n]).take 3 = done ++ [n] := List.take_of_length_le (by simp; omega)
    have short : (done ++ [n]).drop 3 = [] := List.drop_eq_nil_of_le (by simp; omega)
    have before : done.take 3 = done := List.take_of_length_le (by omega)
    refine ⟨by rw [granted]; exact frame.trans (grantTo_grantFrame _ _ _), ?_, ?_, by rw [granted]; exact h.view,
      fun m hm => ?_, fun m hm => ?_, fun m hm => ?_, fun m hm => ?_⟩
    · rw [granted, ← set_asked room, ← h.slots]; rfl
    · rw [granted, short]
      change y.arbiter.queue.erase _ = _
      rw [queue]; simp
    · rw [List.mem_append, not_or, List.mem_singleton] at hm
      rw [rest m hm.2, h.others m hm.1]
    · rcases List.mem_append.1 hm with hm | hm
      · rw [rest m (apart m hm)]; exact h.flags m hm
      · rw [List.mem_singleton.1 hm, result]; simp only [c', put, c]
    · rw [all] at hm
      rcases List.mem_append.1 hm with hm | hm
      · rw [rest m (apart m hm)]; exact h.first m (by rwa [before])
      · rw [List.mem_singleton.1 hm, result]; exact ⟨rfl, rfl⟩
    · rw [short] at hm; cases hm
  · rw [dif_neg room] at next
    rw [grants_of_none next]
    have first : (done ++ [n]).take 3 = done.take 3 := List.take_append_of_le_length (by omega)
    have later : (done ++ [n]).drop 3 = done.drop 3 ++ [n] := List.drop_append_of_le_length (by omega)
    refine ⟨frame, ?_, ?_, h.view, fun m hm => ?_, fun m hm => ?_, fun m hm => ?_, fun m hm => ?_⟩
    · rw [first, show 3 - (done ++ [n]).length = 3 - done.length by simp; omega]; exact h.slots
    · rw [later, List.map_append]; exact congrArg (· ++ _) h.queue
    · rw [List.mem_append, not_or, List.mem_singleton] at hm
      rw [others m hm.2, h.others m hm.1]
    · rcases List.mem_append.1 hm with hm | hm
      · rw [others m (apart m hm)]; exact h.flags m hm
      · rw [List.mem_singleton.1 hm, put]
    · rw [first] at hm
      rw [others m (apart m (List.mem_of_mem_take hm))]; exact h.first m hm
    · rw [later] at hm
      rcases List.mem_append.1 hm with hm | hm
      · rw [others m (apart m (List.mem_of_mem_drop hm))]; exact h.later m hm
      · rw [List.mem_singleton.1 hm, put]

/-- The requests of the start, channel by channel: those that ask do so in their order. -/
theorem askedSoFar_foldl {b : State} (rests : ∀ n, asksAtStart b n = true →
      (b.channels.get n).state = .uncalibrated ∨ (b.channels.get n).state = .idle) (l : List (Fin 12)) :
    ∀ {done : List (Fin 12)} {x : State}, AskedSoFar b done x → l.Nodup → (∀ n ∈ l, n ∉ done) →
      AskedSoFar b (done ++ l.filter (asksAtStart b)) (l.foldl startCalibration x) := by
  induction l with
  | nil => intro done x h _ _; simpa using h
  | cons n l ih =>
    intro done x h distinct out
    obtain ⟨unseen, distinct⟩ := List.nodup_cons.1 distinct
    have fresh := out n List.mem_cons_self
    have outside : ∀ m ∈ l, m ∉ done := fun m hm => out m (List.mem_cons_of_mem n hm)
    rw [List.foldl_cons]
    by_cases asks : asksAtStart b n = true
    · have next := ih (h.step fresh asks (rests n asks)) distinct fun m hm inside => by
        rcases List.mem_append.1 inside with inside | inside
        · exact outside m hm inside
        · exact unseen (List.mem_singleton.1 inside ▸ hm)
      rwa [List.append_assoc, List.singleton_append, ← List.filter_cons_of_pos asks] at next
    · have quiet : asksAtStart x n = false := by
        rw [asksAtStart, h.frame.channelInUse, h.others n fresh]; exact Bool.not_eq_true _ ▸ asks
      rw [startCalibration_of_not quiet, List.filter_cons_of_neg asks]
      exact ih h distinct outside

end Sys2Proof.Machine
end

section
/-! The blocks as the station starts in NORMAL (R17, R20, R34, R46, R76, R97, R127, R134, R153, R170). -/

namespace Sys2Proof.Machine

open Sys2Proof

/-! ### The records of the rooms -/

theorem addRoom_fresh {records : List Room} {x : Option Loop} (h : ∀ r ∈ records, ∃ room, r = freshRoom room) :
    ∀ r ∈ addRoom records x, ∃ room, r = freshRoom room := by
  cases x with
  | none => exact h
  | some l =>
    unfold addRoom
    dsimp only
    split
    · exact h
    · intro r hr
      rcases List.mem_append.1 hr with hr | hr
      · exact h r hr
      · exact ⟨_, List.mem_singleton.1 hr⟩

theorem mem_addRoom {records : List Room} {r : Room} (x : Option Loop) (h : r ∈ records) : r ∈ addRoom records x := by
  cases x with
  | none => exact h
  | some l =>
    unfold addRoom
    dsimp only
    split
    · exact h
    · exact List.mem_append_left _ h

theorem addRoom_own (records : List Room) (l : Loop) : ∃ r ∈ addRoom records (some l), r.room = l.info.room := by
  unfold addRoom
  dsimp only
  split
  · rename_i h
    obtain ⟨r, hr, e⟩ := List.any_eq_true.1 h
    exact ⟨r, hr, by simpa using e⟩
  · exact ⟨freshRoom l.info.room, List.mem_append_right _ (List.mem_singleton.2 rfl), rfl⟩

/-- Every record of the start is fresh (R20). -/
theorem buildRooms_fresh (loops : Tab 12 (Option Loop)) : ∀ r ∈ buildRooms loops, ∃ room, r = freshRoom room := by
  have all : ∀ (items : List (Option Loop)) (records : List Room), (∀ r ∈ records, ∃ room, r = freshRoom room) →
      ∀ r ∈ items.foldl addRoom records, ∃ room, r = freshRoom room := by
    intro items
    induction items with
    | nil => exact fun _ h => h
    | cons x items ih => exact fun records h => ih _ (addRoom_fresh h)
  exact all _ [] fun r hr => by cases hr

/-- Every present loop's room has a record (R20). -/
theorem buildRooms_own {loops : Tab 12 (Option Loop)} {n : Fin 12} {l : Loop} (h : loops.get n = some l) :
    ∃ r ∈ buildRooms loops, r.room = l.info.room := by
  have keeps : ∀ (items : List (Option Loop)) (records : List Room) (r : Room), r ∈ records →
      r ∈ items.foldl addRoom records := by
    intro items
    induction items with
    | nil => exact fun _ _ h => h
    | cons x items ih => exact fun records r h => ih _ r (mem_addRoom x h)
  have all : ∀ (items : List (Option Loop)) (records : List Room), some l ∈ items →
      ∃ r ∈ items.foldl addRoom records, r.room = l.info.room := by
    intro items
    induction items with
    | nil => intro _ h; cases h
    | cons x items ih =>
      intro records h
      rcases List.mem_cons.1 h with rfl | h
      · obtain ⟨r, hr, own⟩ := addRoom_own records l
        exact ⟨r, keeps items _ r hr, own⟩
      · exact ih _ h
  exact all _ [] (h ▸ List.getElem_mem _)

/-! ### What the start leaves of the blocks -/

theorem broughtUp_loader (s : State) : (broughtUp s).loader =
    { s.loader with state := stateAfterLoad s.loader.imageStatus, image := [], reported := 0 } := by
  obtain ⟨_, _, _, _, e⟩ := reportAll_frame s (loadFaults s)
  rw [broughtUp, e]
  rfl

theorem broughtUp_reportTimer (s : State) : (broughtUp s).bus.reportTimer = some (stationNumber s * 2000) := by
  obtain ⟨_, _, _, _, e⟩ := reportAll_frame s (loadFaults s)
  rw [broughtUp, e]
  rfl

/-- A channel as its block comes into service in NORMAL (R127). -/
theorem broughtUp_channel {s : State} (ok : s.loader.imageStatus = .ok) (n : Fin 12) : (broughtUp s).channels.get n =
    startChannel .normal ((imageLoops s).get n).isSome (s.channels.get n) := by
  obtain ⟨_, _, _, _, e⟩ := reportAll_frame s (loadFaults s)
  rw [broughtUp, e]
  simp only [startBlocks, Tab.get_tabulate, Tab.get_map, ok, stateAfterLoad, if_true, Option.isSome_map, imageLoops]
  rfl

theorem restarted_frame (s : State) : DryFrame (broughtUp s) (restarted s) :=
  ((buildChains_frame _).dry.trans (restartProgram_frame _ _)).trans (restartProgram_frame _ _)

/-- What the chains, the programs and the calibration requests of the start leave. -/
theorem startStation_beside (s : State) :
    let t := startStation s
    let b := broughtUp s
    t.loader = b.loader ∧ t.rooms = b.rooms ∧ t.scanner = b.scanner ∧ t.engine = b.engine ∧ t.peers = b.peers ∧
    t.meter = b.meter ∧ t.bus.reportTimer = b.bus.reportTimer ∧ t.config = b.config ∧
    t.valves.tables = b.valves.tables := by
  have all {a b c : State} (h : DryFrame a b) (k : GrantFrame b c) : c.loader = a.loader ∧ c.rooms = a.rooms ∧
      c.scanner = a.scanner ∧ c.engine = a.engine ∧ c.peers = a.peers ∧ c.meter = a.meter ∧
      c.bus.reportTimer = a.bus.reportTimer ∧ c.config = a.config ∧ c.valves.tables = a.valves.tables := by
    obtain ⟨_, _, _, _, _, _, _, _, _, rfl⟩ := h
    obtain ⟨_, _, _, rfl⟩ := k
    exact ⟨rfl, rfl, rfl, rfl, rfl, rfl, rfl, rfl, rfl⟩
  exact all (restarted_frame s) (startStation_grantFrame s)

/-- The channels and the arbiter that the calibration requests of the start find. -/
theorem restarted_drive (s : State) : (restarted s).channels = (broughtUp s).channels ∧
    (restarted s).arbiter = Arbiter.reset ∧ (restarted s).loader = (broughtUp s).loader := by
  have all {a b : State} (h : DryFrame a b) :
      b.channels = a.channels ∧ b.arbiter = a.arbiter ∧ b.loader = a.loader := by
    obtain ⟨_, _, _, _, _, _, _, _, _, rfl⟩ := h
    exact ⟨rfl, rfl, rfl⟩
  exact all (restarted_frame s)

/-- The requests of the start leave the arbiter's view of the source. -/
theorem startStation_defrost (s : State) : (startStation s).arbiter.defrost = (restarted s).arbiter.defrost := by
  have join (x : State) (n : Fin 12) : (joinCalibrate x n).arbiter.defrost = x.arbiter.defrost := by
    unfold joinCalibrate
    split
    · rfl
    · split <;> rfl
  have one (x : State) (n : Fin 12) : (startCalibration x n).arbiter.defrost = x.arbiter.defrost := by
    unfold startCalibration
    split
    · rfl
    · rcases requestCalibration_cases x n false with e | e | e <;> rw [e]
      · rfl
      · rw [sendCalibrate, grants_defrost, join]; rfl
  have all := foldl_frame (R := fun a b : State => b.arbiter.defrost = a.arbiter.defrost) (fun _ => rfl)
    (fun h k => k.trans h) one (List.finRange 12) (restarted s)
  rwa [← startStation_eq] at all

/-- Without a kept program the start leaves the chains as they were built. -/
theorem restarted_of_unkept {s : State} (h : ∀ p, ¬ kept (instanceOf s p)) : restarted s = chained s := by
  have own (p : Prog) : ¬ kept (instanceOf (chained s) p) := by rw [instanceOf_chained]; exact h p
  rw [restarted, restartProgram_of_not_kept (own .one), restartProgram_of_not_kept (own .two)]

/-- The present loops of a station that has started are those of the image. -/
theorem startStation_freshLoops (s : State) : FreshLoops (imageLoops s) (startStation s) := by
  have chains : FreshLoops (imageLoops s) (chained s) := fun n => by
    rw [chained_loops, Option.map_map]; rfl
  have one := (restartProgram_leavesOthers (chained s) .one).fresh _ chains
  have two := (restartProgram_leavesOthers (restartProgram (chained s) .one) .two).fresh _ one
  exact two.of_loops (startStation_grantFrame s).beside.2.2

theorem FreshLoops.of_some {infos : Tab 12 (Option LoopInfo)} {s : State} (h : FreshLoops infos s) {n : Fin 12} {l : Loop}
    (hl : s.loops.get n = some l) : infos.get n = some l.info ∧ l.stale = true ∧ l.boost = none := by
  have same := h n
  rw [hl, Option.map_some] at same
  obtain ⟨info, hi, e⟩ := Option.map_eq_some_iff.1 same.symm
  simp only [Prod.mk.injEq] at e
  obtain ⟨rfl, stale, boost⟩ := e
  exact ⟨hi, stale.symm, boost.symm⟩

theorem FreshLoops.isSome {infos : Tab 12 (Option LoopInfo)} {s : State} (h : FreshLoops infos s) (n : Fin 12) :
    (s.loops.get n).isSome = (infos.get n).isSome := by
  have := congrArg Option.isSome (h n)
  simpa using this

end Sys2Proof.Machine

open Sys2Proof Sys2Proof.Machine

/-- Settles O6: the blocks as they are brought up, and the calibration requests as they are made one after the other. -/
theorem startInNormalBringsTheBlocksIntoService : Obligations.StartInNormalBringsTheBlocksIntoService := by
  unfold Obligations.StartInNormalBringsTheBlocksIntoService
  intro s loading ok
  have starts : exec .stationStart s = .next (startStation s) := by
    simp only [exec, execStationStart, loading, if_true]
  have fresh := startStation_freshLoops s
  obtain ⟨loader, rooms, scanner, engine, peers, meter, report, config, -⟩ := startStation_beside s
  have requests := startStation_grantFrame s
  obtain ⟨channels, arbiter, loader'⟩ := restarted_drive s
  have normal : (broughtUp s).loader.state = .normal := by rw [broughtUp_loader, ok]; rfl
  have channel (n : Fin 12) : (restarted s).channels.get n =
      startChannel .normal ((imageLoops s).get n).isSome (s.channels.get n) := by
    rw [channels, broughtUp_channel ok]
  have used (n : Fin 12) : channelInUse (restarted s) n = ((imageLoops s).get n).isSome := by
    rw [← requests.channelInUse, channelInUse, loader, normal]
    exact fresh.isSome n
  have asks (n : Fin 12) : asksAtStart (restarted s) n =
      (((imageLoops s).get n).isSome && !(s.channels.get n).calibrated) := by
    rw [asksAtStart, used, channel]
    cases ((imageLoops s).get n).isSome <;> simp [startChannel]
  have vacant (n : Fin 12) : unqueued (restarted s).arbiter n := by
    rw [arbiter]; intro e he; cases he
  have present (n : Fin 12) := fresh.isSome n
  have stands (n : Fin 12) (quiet : asksAtStart (restarted s) n = false) :
      (startStation s).channels.get n = startChannel .normal ((imageLoops s).get n).isSome (s.channels.get n) := by
    rw [← channel]
    exact (startCalibrations_untouched _ _ quiet (vacant n)).1
  have up : (broughtUp s).scanner = startScanner (broughtUp s).loops ∧
      (broughtUp s).rooms = { RoomTable.reset with records := buildRooms (broughtUp s).loops } ∧
      (broughtUp s).engine.timer = some 30000 ∧ (broughtUp s).peers = PeerTable.reset ∧
      (broughtUp s).meter.counting = true := ⟨rfl, rfl, rfl, rfl, rfl⟩
  obtain ⟨upScanner, upRooms, upTimer, upPeers, upCounting⟩ := up
  have probes (n : Fin 14) : probeUsed (broughtUp s).loops n = true ↔
      (12 ≤ n.val ∨ ∃ h : n.val < 12, ((startStation s).loops.get ⟨n.val, h⟩).isSome) := by
    unfold probeUsed
    by_cases h : n.val < 12
    · simp [h, broughtUp_loops, present]
    · simp [h, Nat.le_of_not_lt h]
  refine ⟨startStation s, starts, by rw [loader, normal], ?_, by rw [engine, upTimer], ?_, by rw [scanner, upScanner]; rfl,
    by rw [meter, upCounting], fun n => ?_, ?_, by rw [scanner, upScanner]; rfl, by rw [peers, upPeers]; rfl,
    by rw [peers, upPeers]; rfl, ?_, fun r hr => ?_, fun n l hl => ?_, fun n l hl unkept => ?_, fun n => ?_,
    fun n absent => ?_, fun n there flag => ?_, fun resting => ?_⟩
  · rw [stationNumber, loader, broughtUp_loader]; rfl
  · rw [report, broughtUp_reportTimer, Nat.mul_comm]
  · intro used' fresh'
    rw [scanner, upScanner]
    refine ⟨fun h => ?_, fun h => ?_, ?_⟩
    · have := (probes n).2 h
      simp only [startScanner, Tab.get_tabulate, this, if_true]
      rfl
    · have : probeUsed (broughtUp s).loops n = false := by
        rw [← Bool.not_eq_true]; exact fun e => h ((probes n).1 e)
      simp only [startScanner, Tab.get_tabulate, this]
      rfl
    · rw [startScanner, scanList, List.mem_filter]
      exact ⟨fun h => (probes n).1 h.2, fun h => ⟨List.mem_finRange n, (probes n).2 h⟩⟩
  · rw [scanner, upScanner]
    exact (List.pairwise_lt_finRange 14).filter _
  · rw [startStation_defrost, arbiter]; rfl
  · rw [rooms, upRooms] at hr
    obtain ⟨room, rfl⟩ := buildRooms_fresh _ r hr
    exact ⟨rfl, rfl, rfl, rfl, rfl, rfl⟩
  · obtain ⟨info, stale, boost⟩ := fresh.of_some hl
    refine ⟨?_, stale, boost⟩
    rw [rooms, upRooms]
    exact buildRooms_own (l := freshLoop l.info) (by rw [broughtUp_loops, info]; rfl)
  · have still : restarted s = chained s := restarted_of_unkept fun p under => under.elim (unkept p).1 (unkept p).2
    rw [requests.beside.2.2, still, chained_loops] at hl
    obtain ⟨info, -, rfl⟩ := Option.map_eq_some_iff.1 hl
    rw [profileAt_congr (config.trans (chained_config s).symm)]
    rfl
  · have counters : CountersStand (restarted s) (startStation s) :=
      foldl_frame .refl .trans startCalibration_countersStand _ _
    obtain ⟨counter, rest⟩ := counters n
    rw [channel] at counter rest
    refine ⟨rest.elim (fun e => ?_) id, counter⟩
    rw [e, counter]; rfl
  · have out : ((imageLoops s).get n).isSome = false := by rw [← present, absent]; rfl
    rw [stands n (by rw [asks, out]; rfl), out]
    simp [startChannel]
  · rw [present] at there
    rw [stands n (by rw [asks, flag]; simp), there]
    simp [startChannel, flag]
  · intro asked
    have same : asked = (List.finRange 12).filter (asksAtStart (restarted s)) := by
      refine List.filter_congr fun n _ => ?_
      rw [asks, present]
    have result := askedSoFar_foldl (b := restarted s) (fun n h => by
      have there : ((imageLoops s).get n).isSome = true := by
        rw [asks] at h; exact (Bool.and_eq_true _ _ ▸ h).1
      rw [channel, there]
      exact resting n) (List.finRange 12) (askedSoFar_nil arbiter) (List.nodup_finRange 12)
      fun n _ => List.not_mem_nil
    rw [List.nil_append, ← same, ← startStation_eq] at result
    exact ⟨result.slots, result.queue, result.flags, result.first, result.later⟩

end

section
/-! The records of the image: which stand, how their fields are judged, and the faults that a load makes of them (R168, R174). -/

namespace Sys2Proof.Machine

open Sys2Proof

/-! ### The field checks -/

theorem within_eq (low high : Nat) : within low high = fun x => decide (low ≤ x ∧ x ≤ high) := by
  funext x; simp [within]

/-- The first failing field, found by its place. -/
theorem firstFailing_eq_find (checks : List (Nat → Bool)) : ∀ (at_ : Nat) (fields : List Nat),
    firstFailing at_ checks fields = ((List.range checks.length).find? fun i =>
      !(fields[i]?).any (checks.getD i fun _ => true)).map (· + at_) := by
  induction checks with
  | nil => intro at_ fields; simp [firstFailing]
  | cons check checks ih =>
    intro at_ fields
    rw [List.length_cons, List.range_succ_eq_map, List.find?_cons]
    cases fields with
    | nil => simp [firstFailing]
    | cons v values =>
      rw [firstFailing]
      cases h : check v with
      | false => simp [h]
      | true =>
        rw [if_pos rfl, ih, List.find?_map]
        simp only [List.getElem?_cons_zero, Option.any_some, List.getD_cons_zero, h, Bool.not_true, Option.map_map]
        congr 1
        funext i
        simp only [Function.comp_apply]
        omega

theorem failingField_eq (rules : List (Nat → Bool)) (fields : List Nat) :
    failingField rules fields = firstFailing 1 rules fields := by
  rw [firstFailing_eq_find]; rfl

/-- Every field of a record without a failing one is held and passes its check. -/
theorem passes_of_failingField {rules : List (Nat → Bool)} {fields : List Nat} (h : failingField rules fields = none)
    {i : Nat} (hi : i < rules.length) : ∃ x, fields[i]? = some x ∧ rules[i] x = true := by
  rw [failingField, Option.map_eq_none_iff, List.find?_eq_none] at h
  have := h i (List.mem_range.2 hi)
  rw [List.getD_eq_getElem _ _ hi] at this
  cases hf : fields[i]? with
  | none => simp [hf] at this
  | some x => exact ⟨x, rfl, by simpa [hf] using this⟩

/-! ### The judgement of each section's records -/

section
variable (profiles : Tab 15 (Option Profile)) (r : ImageRecord)

theorem judgeStation_eq : judgeStation r = failingField (fieldRules profiles 1 r) r.fields := by
  rw [failingField_eq]
  have source : orElse r.fields 4 0 60000 0 =
      if r.fields.getD (4 - 1) 0 ≤ 60000 then r.fields.getD (4 - 1) 0 else 0 := by
    rw [orElse, List.getD_eq_getElem?_getD]
    cases r.fields[4 - 1]? <;> simp [within]
  simp only [judgeStation, fieldRules, within_eq, source]
  congr 2
  simp

theorem judgeKind_eq : judgeKind r = failingField (fieldRules profiles 2 r) r.fields := by
  rw [failingField_eq]
  simp only [judgeKind, fieldRules, within_eq]

theorem judgeSlot_eq : judgeSlot r = failingField (fieldRules profiles 3 r) r.fields := by
  rw [failingField_eq]
  simp only [judgeSlot, fieldRules, within_eq]

theorem setpointOk_eq (mode value : Nat) : setpointOk mode value =
    if mode = 0 then decide (-1000 ≤ (BitVec.ofNat 16 value).toInt ∧ (BitVec.ofNat 16 value).toInt ≤ 500)
    else decide (500 ≤ (BitVec.ofNat 16 value).toInt ∧ (BitVec.ofNat 16 value).toInt ≤ 3000) := by
  unfold setpointOk
  dsimp only
  split <;> exact (Bool.decide_and _ _).symm

theorem programFieldOk_eq (kind value : Nat) : programFieldOk kind value =
    if kind = 5 then decide (1 ≤ value ∧ value ≤ 2) else decide (value = 0) := by
  simp only [programFieldOk, within_eq]
  split <;> simp [beq_eq_decide]

theorem judgeProfile_eq : judgeProfile r = failingField (fieldRules profiles 4 r) r.fields := by
  rw [failingField_eq]
  have setpoint : setpointOk (field r.fields 2) = fun x => _ := funext (setpointOk_eq (field r.fields 2))
  have program : programFieldOk (field r.fields 1) = fun x => _ := funext (programFieldOk_eq (field r.fields 1))
  simp only [judgeProfile, fieldRules, within_eq, setpoint, program, beq_eq_decide]
  rfl

theorem risingChecks_eq (fields : List Nat) : risingChecks fields =
    (List.range 9).map fun k x => decide (fields.getD (k + 1 - 1) 0 < x ∧ x ≤ 1000) := by
  have numbers : ([2, 3, 4, 5, 6, 7, 8, 9, 10] : List Nat) = (List.range 9).map (· + 2) := rfl
  rw [risingChecks, numbers, List.map_map]
  refine List.map_congr_left fun k _ => funext fun x => ?_
  simp [field, within, Bool.and_comm]

theorem judgeTable_eq : judgeTable r = failingField (fieldRules profiles 5 r) r.fields := by
  rw [failingField_eq]
  have zero : (fun v : Nat => v == 0) = fun x => decide (0 ≤ x ∧ x ≤ 0) := by funext x; simp [beq_eq_decide]
  have last : (fun v : Nat => v == 1000 && decide (field r.fields 10 < v)) =
      fun x => decide (r.fields.getD (10 - 1) 0 < 1000 ∧ x = 1000) := by
    funext x
    by_cases h : x = 1000 <;> simp [h, field]
  simp only [judgeTable, fieldRules, risingChecks_eq, within_eq, zero, last]

theorem progOfNumber_eq_some {n : Nat} {p : Prog} : progOfNumber n = some p ↔ progNumber p = n := by
  unfold progOfNumber
  split
  · cases p <;> simp [progNumber]
  · cases p <;> simp [progNumber]
  · rename_i one two
    cases p <;> simp only [progNumber, reduceCtorEq, false_iff]
    · exact fun h => one h.symm
    · exact fun h => two h.symm

theorem dryProfileOk_eq (number : Nat) : dryProfileOk profiles number = fun x => (List.finRange 15).any fun k =>
    decide (x = k.val + 1) && (profiles.get k).any fun p =>
      p.kind == .dryout && p.program.any fun q => decide (progNumber q = number) := by
  funext x
  have names (p : Profile) : (p.program == progOfNumber number && p.program.isSome) =
      p.program.any fun q => decide (progNumber q = number) := by
    cases h : p.program with
    | none => simp
    | some q =>
      simp only [Option.any_some, Option.isSome_some, Bool.and_true, beq_eq_decide]
      exact decide_eq_decide.2 (eq_comm.trans progOfNumber_eq_some)
  unfold dryProfileOk
  rw [Bool.eq_iff_iff, List.any_eq_true]
  by_cases h : 1 ≤ x ∧ x ≤ 15
  · rw [dif_pos h]
    have only (k : Fin 15) : x = k.val + 1 ↔ k = ⟨x - 1, by omega⟩ := by
      rw [Fin.ext_iff]; dsimp only; omega
    simp only [only, Bool.and_eq_true, decide_eq_true_eq, List.mem_finRange, true_and, exists_eq_left]
    cases hp : profiles.get ⟨x - 1, by omega⟩ with
    | none => simp
    | some p => simp only [Option.any_some, ← names, Bool.and_assoc, Bool.and_eq_true]
  · rw [dif_neg h]
    simp only [Bool.false_eq_true, false_iff, not_exists, not_and, Bool.and_eq_true, decide_eq_true_eq]
    intro k _ e
    have := k.isLt
    omega

theorem judgeProgram_eq : judgeProgram profiles r = failingField (fieldRules profiles 6 r) r.fields := by
  rw [failingField_eq]
  simp only [judgeProgram, fieldRules, dryProfileOk_eq, stepChecks, within_eq]
  rfl

theorem judgeLoop_eq : judgeLoop r = failingField (fieldRules profiles 7 r) r.fields := by
  rw [failingField_eq]
  unfold judgeLoop
  split
  · rename_i rest h
    simp [fieldRules, h, firstFailing]
  · rename_i present
    have head : r.fields.head? ≠ some 0 := fun h => by
      cases hf : r.fields with
      | nil => simp [hf] at h
      | cons x rest =>
        obtain rfl : x = 0 := by simpa [hf] using h
        exact present rest hf
    simp only [fieldRules, head, if_false, within_eq]
    rfl

theorem judgeMeter_eq : judgeMeter r = failingField (fieldRules profiles 8 r) r.fields := by
  rw [failingField_eq]
  simp only [judgeMeter, fieldRules, within_eq]

end

end Sys2Proof.Machine
end

section
/-! Which records stand, and the faults of the sections (R174). -/

namespace Sys2Proof.Machine

open Sys2Proof

/-- The section codes that R168 knows. -/
def knownCodes : List Nat := [1, 2, 3, 4, 5, 6, 7, 8]

theorem recordNumbers_contains {code : Nat} (h : code ∈ knownCodes) (number : Nat) :
    (recordNumbers code).contains number = numberOk code number := by
  rw [Bool.eq_iff_iff]
  simp only [knownCodes, List.mem_cons, List.not_mem_nil, or_false] at h
  rcases h with rfl | rfl | rfl | rfl | rfl | rfl | rfl | rfl <;>
    · simp only [recordNumbers, numberOk, numberRange, List.contains_eq_mem, List.mem_cons, List.not_mem_nil, or_false,
        decide_eq_true_eq, Bool.and_eq_true]
      omega

/-- The record that stands for a number of its section is the first of that number. -/
theorem recordAt_standing {code number : Nat} (ok : numberOk code number = true) (records : List ImageRecord) :
    ∀ seen : List Nat, number ∉ seen →
      recordAt (standing code seen records) number = records.find? fun r => r.number == number := by
  induction records with
  | nil => intros; rfl
  | cons r rest ih =>
    intro seen unseen
    by_cases own : r.number = number
    · have stands : numberOk code r.number = true ∧ (!seen.contains r.number) = true := by
        rw [own]; exact ⟨ok, by simpa using unseen⟩
      rw [standing, if_pos stands]
      simp [recordAt, own]
    · have skip : (r.number == number) = false := by simpa using own
      rw [List.find?_cons, skip, standing]
      split
      · rw [recordAt, List.find?_cons, skip]
        exact ih _ (by simp [unseen, Ne.symm own])
      · exact ih seen unseen

theorem recordAt_standing_first {code number : Nat} (ok : numberOk code number = true) (records : List ImageRecord) :
    recordAt (standing code [] records) number = records.find? fun r => r.number == number :=
  recordAt_standing ok records [] List.not_mem_nil

/-! ### The faults of one section -/

/-- A fault of a load, as item, first and second value. -/
def faultOf (x : Nat × Nat × Nat) : FaultEvent := configFault x.1 x.2.1 x.2.2

/-- The record's number has not been read before. -/
def freshIn (records : List ImageRecord) (x : ImageRecord × Nat) : Bool :=
  !(records.take x.2).any fun r => r.number == x.1.number

/-- The fault of a record that does not stand. -/
def numberFault (code : Nat) (records : List ImageRecord) (x : ImageRecord × Nat) : Option (Nat × Nat × Nat) :=
  if !(recordNumbers code).contains x.1.number then some (0, code, 0)
  else if freshIn records x then none else some (x.1.number, code, 0)

/-- The fault of a record that stands. -/
def fieldFault (code : Nat) (judge : ImageRecord → Option Nat) (records : List ImageRecord) (x : ImageRecord × Nat) :
    Option (Nat × Nat × Nat) :=
  if (recordNumbers code).contains x.1.number && freshIn records x then (judge x.1).map fun k => (x.1.number, code, k)
  else none

/-- The numbers that have been seen are those of the records before, as far as they are in range. -/
def seesNumbers (code : Nat) (seen : List Nat) (before : List ImageRecord) : Prop :=
  ∀ n, numberOk code n = true → (n ∈ seen ↔ ∃ r ∈ before, r.number = n)

theorem freshIn_next {code : Nat} {seen : List Nat} {before rest : List ImageRecord} {r : ImageRecord}
    (h : seesNumbers code seen before) (ok : numberOk code r.number = true) :
    freshIn (before ++ r :: rest) (r, before.length) = !seen.contains r.number := by
  rw [freshIn, List.take_left', Bool.not_inj_iff, Bool.eq_iff_iff]
  · simpa using (h r.number ok).symm
  · rfl

theorem seesNumbers.read {code : Nat} {seen : List Nat} {before : List ImageRecord} {r : ImageRecord}
    (h : seesNumbers code seen before) : seesNumbers code (r.number :: seen) (before ++ [r]) := by
  intro n ok
  simp only [List.mem_cons, List.mem_append, h n ok, List.not_mem_nil, or_false]
  constructor
  · rintro (rfl | ⟨x, hx, e⟩)
    · exact ⟨r, .inr rfl, rfl⟩
    · exact ⟨x, .inl hx, e⟩
  · rintro ⟨x, hx | rfl, e⟩
    · exact .inr ⟨x, hx, e⟩
    · exact .inl e.symm

theorem seesNumbers.skip {code : Nat} {seen : List Nat} {before : List ImageRecord} {r : ImageRecord}
    (h : seesNumbers code seen before) (out : numberOk code r.number = true → r.number ∈ seen) :
    seesNumbers code seen (before ++ [r]) := by
  intro n ok
  simp only [List.mem_append, List.mem_singleton, h n ok]
  constructor
  · rintro ⟨x, hx, e⟩
    exact ⟨x, .inl hx, e⟩
  · rintro ⟨x, hx | rfl, e⟩
    · exact ⟨x, hx, e⟩
    · rw [← e] at ok ⊢
      exact (h x.number ok).1 (out ok)

/-- The faults of a section's numbers and fields, record by record. -/
theorem sectionFaults_zipIdx {code : Nat} (known : code ∈ knownCodes) (judge : ImageRecord → Option Nat)
    (rest : List ImageRecord) : ∀ (before : List ImageRecord) (seen : List Nat), seesNumbers code seen before →
      numberFaults code seen rest =
        ((rest.zipIdx before.length).filterMap (numberFault code (before ++ rest))).map faultOf ∧
      (standing code seen rest).filterMap (fun r => (judge r).map fun k => configFault r.number code k) =
        ((rest.zipIdx before.length).filterMap (fieldFault code judge (before ++ rest))).map faultOf := by
  induction rest with
  | nil => intros; exact ⟨rfl, rfl⟩
  | cons r rest ih =>
    intro before seen sees
    have later := ih (before ++ [r])
    rw [List.append_assoc, List.singleton_append, List.length_append, List.length_singleton] at later
    have read : numberFault code (before ++ r :: rest) (r, before.length) =
        (if !numberOk code r.number then some (0, code, 0)
        else if freshIn (before ++ r :: rest) (r, before.length) then none else some (r.number, code, 0)) ∧
        fieldFault code judge (before ++ r :: rest) (r, before.length) =
        if numberOk code r.number && freshIn (before ++ r :: rest) (r, before.length) then
          (judge r).map fun k => (r.number, code, k) else none := by
      rw [← recordNumbers_contains known]; exact ⟨rfl, rfl⟩
    rw [List.zipIdx_cons, List.filterMap_cons, List.filterMap_cons, numberFaults, standing, read.1, read.2]
    by_cases ok : numberOk code r.number = true
    · rw [freshIn_next sees ok]
      by_cases again : r.number ∈ seen
      · obtain ⟨numbers, fields⟩ := later seen (sees.skip fun _ => again)
        simp [ok, again, numbers, fields, faultOf]
      · obtain ⟨numbers, fields⟩ := later (r.number :: seen) sees.read
        cases h : judge r <;> simp [ok, again, numbers, fields, faultOf, h]
    · rw [Bool.not_eq_true] at ok
      obtain ⟨numbers, fields⟩ := later seen (sees.skip fun h => by rw [ok] at h; cases h)
      simp [ok, numbers, fields, faultOf]

theorem sectionFaults_eq {code : Nat} (known : code ∈ knownCodes) (judge : ImageRecord → Option Nat)
    (records : List ImageRecord) : sectionFaults code judge records =
      (records.zipIdx.filterMap (numberFault code records) ++
        records.zipIdx.filterMap (fieldFault code judge records)).map faultOf := by
  have start : seesNumbers code [] [] := fun n _ => by simp
  obtain ⟨numbers, fields⟩ := sectionFaults_zipIdx known judge records [] [] start
  rw [List.map_append, sectionFaults, numbers, fields]
  rfl

/-- The judgement of a section's records by its field rules. -/
def judgeBy (profiles : Tab 15 (Option Profile)) (code : Nat) (r : ImageRecord) : Option Nat :=
  failingField (fieldRules profiles code r) r.fields

/-- The judgements of the load are those of the field rules. -/
theorem judges_eq (profiles : Tab 15 (Option Profile)) :
    judgeStation = judgeBy profiles 1 ∧ judgeKind = judgeBy profiles 2 ∧ judgeSlot = judgeBy profiles 3 ∧
    judgeProfile = judgeBy profiles 4 ∧ judgeTable = judgeBy profiles 5 ∧
    judgeProgram profiles = judgeBy profiles 6 ∧ judgeLoop = judgeBy profiles 7 ∧ judgeMeter = judgeBy profiles 8 :=
  ⟨funext (judgeStation_eq profiles), funext (judgeKind_eq profiles), funext (judgeSlot_eq profiles),
    funext (judgeProfile_eq profiles), funext (judgeTable_eq profiles), funext (judgeProgram_eq profiles),
    funext (judgeLoop_eq profiles), funext (judgeMeter_eq profiles)⟩

/-- The faults of a load are those of the image, in their order (R174). -/
theorem judgeSections_faults (sections : List ImageSection) : (judgeSections sections).faults =
    (imageFaults (judgeSections sections).config.profiles sections).map faultOf := by
  obtain ⟨station, kind, slot, profile, table, program, loop, meter⟩ := judges_eq (judgeSections sections).config.profiles
  have unknown : sections.filterMap unknownFault =
      (sections.filterMap fun sec => if 1 ≤ sec.code ∧ sec.code ≤ 8 then none else some (0, sec.code, 0)).map faultOf := by
    rw [List.map_filterMap]
    refine List.filterMap_congr fun sec _ => ?_
    by_cases h : 1 ≤ sec.code ∧ sec.code ≤ 8 <;> simp [unknownFault, within_eq, h, faultOf]
  have one {code : Nat} (known : code ∈ knownCodes) := sectionFaults_eq known
    (judgeBy (judgeSections sections).config.profiles code) (recordsOf sections code)
  have all : (judgeSections sections).faults = sections.filterMap unknownFault ++ knownCodes.flatMap fun code =>
      sectionFaults code (judgeBy (judgeSections sections).config.profiles code) (recordsOf sections code) := by
    simp only [knownCodes, List.flatMap_cons, List.flatMap_nil, List.append_nil, ← station, ← kind, ← slot, ← profile,
      ← table, ← program, ← loop, ← meter, ← List.append_assoc]
    rfl
  rw [all, unknown, imageFaults, List.map_append, List.map_flatMap]
  congr 1
  refine List.flatMap_congr fun code known => one known

end Sys2Proof.Machine
end

section
/-! What the blocks take from a record that is good (R1, R3, R5, R93, R138, R168). -/

namespace Sys2Proof.Machine

open Sys2Proof

/-- The first record of a number of a section, when every field passes its check. -/
def goodOf (profiles : Tab 15 (Option Profile)) (sections : List ImageSection) (code number : Nat) : Option ImageRecord :=
  ((recordsOf sections code).find? (·.number == number)).filter fun r =>
    failingField (fieldRules profiles code r) r.fields == none

theorem goodRecord_eq {profiles : Tab 15 (Option Profile)} {code number : Nat} (ok : numberOk code number = true)
    {judge : ImageRecord → Option Nat} (by_rules : judge = judgeBy profiles code) (sections : List ImageSection) :
    goodRecord (standing code [] (recordsOf sections code)) judge number = goodOf profiles sections code number := by
  rw [goodRecord, recordAt_standing_first ok, goodOf, by_rules]
  cases (recordsOf sections code).find? (·.number == number) with
  | none => rfl
  | some r => simp [judgeBy, Option.filter, Option.isNone_iff_eq_none]

theorem goodOf_eq_some {profiles : Tab 15 (Option Profile)} {sections : List ImageSection} {code number : Nat}
    {r : ImageRecord} (h : goodOf profiles sections code number = some r) :
    r ∈ recordsOf sections code ∧ r.number = number ∧ judgeBy profiles code r = none := by
  obtain ⟨first, passes⟩ := Option.filter_eq_some_iff.1 h
  exact ⟨List.mem_of_find?_eq_some first, by simpa using List.find?_some first, by simpa [judgeBy] using passes⟩

/-- The value of a field that is held. -/
theorem getD_of_getElem? {fields : List Nat} {i x : Nat} (h : fields[i]? = some x) (y : Nat) : fields.getD i y = x := by
  rw [List.getD_eq_getElem?_getD, h]; rfl

/-- A program number as the fields of the image carry it. -/
theorem progOfNumber_eq_getD (n : Nat) : progOfNumber n = [none, some Prog.one, some .two].getD n none := by
  match n with
  | 0 => rfl
  | 1 => rfl
  | 2 => rfl
  | n + 3 => rfl

theorem severityOf_eq (n : Nat) : severityOf n = if n = 0 then .advisory else if n = 1 then .degraded else .serious := by
  match n with
  | 0 => rfl
  | 1 => rfl
  | n + 2 => rfl

/-! ### Profiles -/

theorem profileFrom_eq {profiles : Tab 15 (Option Profile)} {r : ImageRecord} (h : judgeBy profiles 4 r = none) :
    let v (k : Nat) : Nat := r.fields.getD (k - 1) 0
    profileFrom r.fields =
      { kind := [.normal, .setback, .frost, .off, .boost, .dryout].getD (v 1) .normal
        mode := if v 2 = 0 then .offset else .absolute
        setpoint := (BitVec.ofNat 16 (v 3)).toInt
        fixedDemand := v 4
        dropOverride := if v 5 = 0 then none else some (v 5)
        floorMax := v 6
        seed := v 7
        park := [.hold, .close, .park].getD (v 8) .hold
        overrides := decide (v 9 = 1 ∧ v 1 ≠ 5)
        program := [none, some .one, some .two].getD (v 10) none } := by
  intro v
  obtain ⟨x, hx, low⟩ := passes_of_failingField h (i := 0) (by simp [fieldRules])
  obtain ⟨y, hy, park⟩ := passes_of_failingField h (i := 7) (by simp [fieldRules])
  have kind : profileKindOf (v 1) = [.normal, .setback, .frost, .off, .boost, .dryout].getD (v 1) .normal := by
    have : x ≤ 5 := (of_decide_eq_true (p := 0 ≤ x ∧ x ≤ 5) low).2
    rw [show v 1 = x from getD_of_getElem? hx 0]
    interval_cases x <;> rfl
  have parks : parkOf (v 8) = [.hold, .close, .park].getD (v 8) .hold := by
    have : y ≤ 2 := (of_decide_eq_true (p := 0 ≤ y ∧ y ≤ 2) park).2
    rw [show v 8 = y from getD_of_getElem? hy 0]
    interval_cases y <;> rfl
  rw [← kind, ← parks, ← progOfNumber_eq_getD]
  simp [profileFrom, field, signedField, v, beq_eq_decide, bne]

/-! ### Valve tables -/

theorem tableFrom_eq {profiles : Tab 15 (Option Profile)} {r : ImageRecord} (h : judgeBy profiles 5 r = none) :
    tableFrom r = ⟨true, r.fields.take 11, r.fields.getD (12 - 1) 0⟩ := by
  obtain ⟨x, hx, -⟩ := passes_of_failingField h (i := 11) (by simp [fieldRules])
  have long : 11 < r.fields.length := (List.getElem?_eq_some_iff.1 hx).1
  have fractions : (List.range 11).map (fun k => r.fields.getD k 65535) = r.fields.take 11 := by
    refine List.ext_getElem (by simp; omega) fun i hi hi' => ?_
    simp only [List.length_map, List.length_range] at hi
    rw [List.getElem_map, List.getElem_range, List.getElem_take, List.getD_eq_getElem _ _ (by omega)]
  have valid : (judgeTable r).isNone = true := by
    rw [judgeTable_eq profiles]; exact Option.isNone_iff_eq_none.2 h
  rw [tableFrom, fractions, valid, getD_of_getElem? hx, getD_of_getElem? (i := 12 - 1) hx]

/-! ### Programs -/

/-- The steps of fields that hold a demand and a duration each. -/
theorem stepsFrom_eq (n : Nat) : ∀ fields : List Nat, fields.length = 2 * n → stepsFrom fields =
    (List.range n).map fun j => ⟨fields.getD (2 * j) 0, fields.getD (2 * j + 1) 0⟩ := by
  induction n with
  | zero => intro fields h; obtain rfl := List.length_eq_zero_iff.1 (show fields.length = 0 by omega); rfl
  | succ n ih =>
    intro fields h
    match fields, h with
    | demand :: hours :: rest, h =>
      rw [stepsFrom, ih rest (by simp only [List.length_cons] at h; omega), List.range_succ_eq_map, List.map_cons,
        List.map_map]
      congr 1

/-- A program's record holds no more fields than its step count announces. -/
theorem length_program_le {sections : List ImageSection} {r : ImageRecord} (h : r ∈ recordsOf sections 6) :
    r.fields.length ≤ 3 + 2 * r.fields.getD 2 0 := by
  have all : ∀ (fuel : Nat) (words : List Nat), ∀ r ∈ splitRecords 6 fuel words,
      r.fields.length ≤ 3 + 2 * r.fields.getD 2 0 := by
    intro fuel
    induction fuel with
    | zero => intro words r hr; cases words <;> cases hr
    | succ fuel ih =>
      intro words r hr
      cases words with
      | nil => cases hr
      | cons number rest =>
        rcases List.mem_cons.1 hr with rfl | hr
        · have count : (rest.take (3 + 2 * rest.getD 2 0)).getD 2 0 = rest.getD 2 0 := by
            rw [List.getD_eq_getElem?_getD, List.getD_eq_getElem?_getD, List.getElem?_take_of_lt (by omega)]
          simp only [recordWidth, count, List.length_take]
          omega
        · exact ih _ r hr
  obtain ⟨sec, -, hr⟩ := List.mem_flatMap.1 h
  split at hr
  · exact all _ _ r hr
  · cases hr

theorem programFrom_eq {profiles : Tab 15 (Option Profile)} {sections : List ImageSection} {r : ImageRecord}
    (read : r ∈ recordsOf sections 6) (h : judgeBy profiles 6 r = none) :
    let v (k : Nat) : Nat := r.fields.getD (k - 1) 0
    programFrom r.fields =
      { profile := Fin.ofNat 16 (v 1)
        loops := (List.finRange 12).filter fun n => (v 2).testBit n.val
        steps := (List.range (v 3)).map fun j => ⟨v (2 * j + 4), v (2 * j + 5)⟩ } := by
  intro v
  obtain ⟨x, hx, range⟩ := passes_of_failingField h (i := 2) (by simp [fieldRules])
  have count : v 3 = x := getD_of_getElem? hx 0
  have bounds : 1 ≤ x ∧ x ≤ 32 := of_decide_eq_true (p := 1 ≤ x ∧ x ≤ 32) range
  have most := length_program_le read
  have rules : (fieldRules profiles 6 r).length = 3 + 2 * x := by
    have : min 32 (r.fields.getD (3 - 1) 0) = x := by
      rw [getD_of_getElem? hx]; omega
    simp only [fieldRules, List.length_append, List.length_cons, List.length_nil]
    rw [length_flatMap_const (k := 2) fun _ _ => rfl, List.length_range]
    omega
  obtain ⟨y, hy, -⟩ := passes_of_failingField h (i := 3 + 2 * x - 1) (by rw [rules]; omega)
  have least := (List.getElem?_eq_some_iff.1 hy).1
  have steps : stepsFrom (r.fields.drop 3) = (List.range (v 3)).map fun j => ⟨v (2 * j + 4), v (2 * j + 5)⟩ := by
    rw [count, stepsFrom_eq x _ (by
      rw [getD_of_getElem? hx] at most
      rw [List.length_drop]; omega)]
    refine List.map_congr_left fun j _ => ?_
    simp only [v, List.getD_eq_getElem?_getD, List.getElem?_drop]
    congr 3 <;> omega
  rw [programFrom, steps]
  rfl

end Sys2Proof.Machine
end

section
/-! The image judged at the start of the station: what the blocks take, and the faults that are reported (R168, R174). -/

namespace Sys2Proof.Machine

open Sys2Proof

/-! ### The faults of the load -/

theorem reportAll_grows (s : State) (events : List FaultEvent) : RecorderGrows s.recorder (reportAll s events).recorder :=
  foldl_frame (R := fun a b : State => RecorderGrows a.recorder b.recorder) (fun _ => .refl _) (fun h k => h.trans k)
    report_grows events s

/-- Reports of one kind set its status when there are any. -/
theorem reportAll_status {k : FaultKind} (events : List FaultEvent) : ∀ s : State, (∀ e ∈ events, e.kind = k) →
    (((reportAll s events).recorder.kinds.get (kindIndex k)).status = true ↔
      (s.recorder.kinds.get (kindIndex k)).status = true ∨ events ≠ []) := by
  induction events with
  | nil => intro s _; simp [reportAll]
  | cons e events ih =>
    intro s kinds
    have own : e.kind = k := kinds e List.mem_cons_self
    have rest := ih (report s e) fun x hx => kinds x (List.mem_cons_of_mem e hx)
    rw [reportAll, List.foldl_cons]
    rw [report_kinds, own] at rest
    simp only [decide_true, Bool.or_true, true_or, iff_true] at rest
    exact ⟨fun _ => .inr (List.cons_ne_nil _ _), fun _ => rest⟩

/-- The first of several reports takes an empty pointer, and keeps it. -/
theorem reportAll_first {s : State} {e : FaultEvent} (more : List FaultEvent) (empty : s.recorder.pointer = none)
    (unmasked : (s.recorder.kinds.get (kindIndex e.kind)).masked = false) :
    (reportAll s (e :: more)).recorder.pointer = some e.kind ∧ (reportAll s (e :: more)).recorder.record =
      some ⟨e.kind, (s.recorder.kinds.get (kindIndex e.kind)).severity, faultOrigin e, e.item, e.first, e.second,
        e.frame.map captureFrame⟩ := by
  obtain ⟨pointer, record⟩ := report_empty_pointer s e empty unmasked
  obtain ⟨held, kept⟩ := (reportAll_grows (report s e) more).held (by rw [pointer]; exact Option.some_ne_none _)
  exact ⟨held.trans pointer, kept.trans record⟩

theorem FaultFrame.loader_eq {s t : State} (h : FaultFrame s t) : t.loader = s.loader := by
  obtain ⟨_, _, _, _, rfl⟩ := h; rfl

theorem startBlocks_recorder (s : State) (l : Loaded) :
    (startBlocks s l).recorder = startRecorder l s.loader.warm s.recorder := rfl

theorem broughtUp_recorder (s : State) : (broughtUp s).recorder =
    startRecorder (loadImage s.loader.imageStatus s.loader.image) s.loader.warm (reportAll s (loadFaults s)).recorder := by
  rw [broughtUp, startBlocks_recorder, (reportAll_frame s (loadFaults s)).loader_eq]

/-- The chains and the programs of the start add to the recorder what is no CONFIG_FAULT. -/
theorem startStation_recorder (s : State) : RecorderGrows (broughtUp s).recorder (startStation s).recorder ∧
    ((startStation s).recorder.kinds.get (kindIndex .configFault)).status =
      ((broughtUp s).recorder.kinds.get (kindIndex .configFault)).status := by
  obtain ⟨-, recorder, -⟩ := (startStation_grantFrame s).beside
  have one := restartProgram_leavesOthers (chained s) .one
  have two := restartProgram_leavesOthers (restartProgram (chained s) .one) .two
  rw [recorder, restarted]
  exact ⟨((chained_grows s).trans one.grows).trans two.grows, two.status.trans (one.status.trans (chained_status s))⟩

/-! ### The station values -/

theorem numberOk_station : numberOk 1 0 = true := rfl

theorem orElse_first (sections : List ImageSection) (k low high substitute : Nat) :
    orElse ((recordAt (standing 1 [] (recordsOf sections 1)) 0).elim [] (·.fields)) k low high substitute =
      (((recordsOf sections 1).find? (·.number == 0)).bind (·.fields[k - 1]?)).elim substitute
        fun x => if low ≤ x ∧ x ≤ high then x else substitute := by
  rw [recordAt_standing_first numberOk_station, orElse]
  cases (recordsOf sections 1).find? (·.number == 0) with
  | none => rfl
  | some r =>
    simp only [Option.elim_some, Option.bind_some]
    cases r.fields[k - 1]? <;> simp [within]

/-! ### The tables of the load -/

section
variable (profiles : Tab 15 (Option Profile)) (sections : List ImageSection)

theorem numberOk_of_val {code n : Nat} (h : numberRange code = (1, n)) (k : Fin n) : numberOk code (k.val + 1) = true := by
  have := k.isLt
  simp only [numberOk, h, Bool.and_eq_true, decide_eq_true_eq]
  omega

theorem loadProfiles_get (k : Fin 15) : (loadProfiles (standing 4 [] (recordsOf sections 4))).get k =
    (goodOf profiles sections 4 (k.val + 1)).map fun r => profileFrom r.fields := by
  rw [loadProfiles, Tab.get_tabulate, goodRecord_eq (numberOk_of_val rfl k) (judges_eq profiles).2.2.2.1]

theorem loadKinds_get (k : Fin 16) : (loadKinds (standing 2 [] (recordsOf sections 2))).get k =
    (goodOf profiles sections 2 (k.val + 1)).elim (defaultKinds.get k)
      fun r => (field r.fields 1 == 1, severityOf (field r.fields 2)) := by
  rw [loadKinds, Tab.get_tabulate, goodRecord_eq (numberOk_of_val rfl k) (judges_eq profiles).2.1]
  cases goodOf profiles sections 2 (k.val + 1) <;> rfl

theorem loadSlots_get (k : Fin 4) : (loadSlots (standing 3 [] (recordsOf sections 3))).get k =
    (goodOf profiles sections 3 (k.val + 1)).elim (0, 0, false)
      fun r => (BitVec.ofNat 16 (field r.fields 1), field r.fields 2, field r.fields 3 == 1) := by
  rw [loadSlots, Tab.get_tabulate, goodRecord_eq (numberOk_of_val rfl k) (judges_eq profiles).2.2.1]
  cases goodOf profiles sections 3 (k.val + 1) <;> rfl

theorem loadLoops_get (k : Fin 12) : (loadLoops (standing 7 [] (recordsOf sections 7))).get k =
    ((goodOf profiles sections 7 (k.val + 1)).filter fun r => field r.fields 1 == 1).map fun r => loopFrom r.fields := by
  rw [loadLoops, Tab.get_tabulate,
    goodRecord_eq (numberOk_of_val rfl k) (judges_eq profiles).2.2.2.2.2.2.1]
  cases goodOf profiles sections 7 (k.val + 1) with
  | none => rfl
  | some r => by_cases h : field r.fields 1 = 1 <;> simp [h, Option.filter]

theorem loadTables_valid (k : Fin 4) {s : State}
    (h : s.valves.tables = loadTables (standing 5 [] (recordsOf sections 5))) :
    validTable s k = (goodOf profiles sections 5 (k.val + 1)).map tableFrom := by
  rw [validTable, h, loadTables, Tab.get_tabulate, recordAt_standing_first (numberOk_of_val rfl k), goodOf]
  cases (recordsOf sections 5).find? (·.number == k.val + 1) with
  | none => rfl
  | some r =>
    have judged : (tableFrom r).valid = (judgeBy profiles 5 r).isNone := congrArg Option.isNone (judgeTable_eq profiles r)
    cases hj : judgeBy profiles 5 r with
    | none => rw [hj] at judged; simp [judgeBy] at hj; simp [Option.filter, judged, hj]
    | some n => rw [hj] at judged; simp [judgeBy] at hj; simp [Option.filter, judged, hj]

end

theorem programDef_judged (sections : List ImageSection) {s : State} (h : s.config = (judgeSections sections).config)
    (p : Prog) : programDef s p = (goodOf s.config.profiles sections 6 (progNumber p)).map fun r => programFrom r.fields := by
  have judge := (judges_eq s.config.profiles).2.2.2.2.2.1
  cases p with
  | one =>
    have := goodRecord_eq (number := 1) (sections := sections) (by rfl) judge
    rw [programDef, progNumber, ← this, h]
    rfl
  | two =>
    have := goodRecord_eq (number := 2) (sections := sections) (by rfl) judge
    rw [programDef, progNumber, ← this, h]
    rfl

theorem defaultKinds_eq (k : Fin 16) : defaultKinds.get k =
    (decide (k = 10), (State.reset.recorder.kinds.get k).severity) := by
  revert k; decide

end Sys2Proof.Machine
end

section
/-! The image judged at the start of the station (R168, R174): the statement. -/

namespace Sys2Proof.Machine

open Sys2Proof

/-- The faults that a load has still to report. -/
theorem loadFaults_eq {s : State} (ok : s.loader.imageStatus = .ok) : loadFaults s =
    ((imageFaults (judgeSections ((imageSections (s.loader.image.map BitVec.toNat)).getD [])).config.profiles
      ((imageSections (s.loader.image.map BitVec.toNat)).getD [])).drop s.loader.reported).map faultOf := by
  rw [List.map_drop, ← judgeSections_faults, loadFaults, ok]
  rfl

/-- What the recorder takes from the records of kinds and alert slots. -/
theorem startRecorder_get (profiles : Tab 15 (Option Profile)) (sections : List ImageSection) (warm : Bool) (r : Recorder) :
    let started := startRecorder (judgeSections sections) warm r
    (∀ k, started.kinds.get k = { r.kinds.get k with
      masked := (goodOf profiles sections 2 (k.val + 1)).elim (decide (k = 10)) fun x => field x.fields 1 == 1
      severity := (goodOf profiles sections 2 (k.val + 1)).elim (State.reset.recorder.kinds.get k).severity fun x =>
        if field x.fields 2 = 0 then .advisory else if field x.fields 2 = 1 then .degraded else .serious }) ∧
    ∀ k, (started.slots.get k).kinds =
        (goodOf profiles sections 3 (k.val + 1)).elim 0 (fun x => BitVec.ofNat 16 (field x.fields 1)) ∧
      (started.slots.get k).tag = (goodOf profiles sections 3 (k.val + 1)).elim 0 (fun x => field x.fields 2) ∧
      (started.slots.get k).masked = if warm then (r.slots.get k).masked
        else (goodOf profiles sections 3 (k.val + 1)).elim false fun x => field x.fields 3 == 1 := by
  refine ⟨fun k => ?_, fun k => ?_⟩
  · have kinds : (judgeSections sections).kinds.get k = _ := loadKinds_get profiles sections k
    simp only [startRecorder, Tab.get_tabulate, startKind, kinds]
    cases goodOf profiles sections 2 (k.val + 1) with
    | none => simp [defaultKinds_eq]
    | some x => simp [severityOf_eq]
  · have slots : (judgeSections sections).slots.get k = _ := loadSlots_get profiles sections k
    simp only [startRecorder, Tab.get_tabulate, startSlot, slots]
    cases goodOf profiles sections 3 (k.val + 1) <;> exact ⟨rfl, rfl, rfl⟩

end Sys2Proof.Machine

open Sys2Proof Sys2Proof.Machine

/-- Settles O8: the records that stand are the first of their numbers, their judgements are those of the field rules, and what
the start reports after the load's faults is no CONFIG_FAULT. -/
theorem imageRecordsAreJudged : Obligations.ImageRecordsAreJudged := by
  unfold Obligations.ImageRecordsAreJudged
  intro s loading ok
  refine ⟨startStation s, by simp only [exec, execStationStart, loading, if_true], ?_⟩
  intro sections first good v held src low
  have load : loadImage s.loader.imageStatus s.loader.image = judgeSections sections := by rw [ok]; rfl
  obtain ⟨-, -, -, -, -, meter, -, config, tables⟩ := startStation_beside s
  have fresh := startStation_freshLoops s
  obtain ⟨grows, status⟩ := startStation_recorder s
  rw [broughtUp_recorder, load] at grows status
  have config : (startStation s).config = (judgeSections sections).config := by
    rw [config, ← load]; rfl
  have tables : (startStation s).valves.tables = (judgeSections sections).tables := by
    rw [tables, ← load]; rfl
  have meter : ∃ m, (startStation s).meter = startMeter (judgeSections sections) m :=
    ⟨_, meter.trans (by rw [broughtUp, load]; rfl)⟩
  rw [imageLoops, load] at fresh
  have faults : loadFaults s = ((imageFaults (startStation s).config.profiles sections).drop s.loader.reported).map faultOf := by
    rw [loadFaults_eq ok, config]
  have good_eq (code number : Nat) : good code number = goodOf (startStation s).config.profiles sections code number := rfl
  have held_eq (k low high substitute : Nat) : held k low high substitute = orElse
      ((recordAt (standing 1 [] (recordsOf sections 1)) 0).elim [] (·.fields)) k low high substitute :=
    (orElse_first sections k low high substitute).symm
  have v_eq (r : ImageRecord) (k : Nat) : v r k = field r.fields k := rfl
  have src_eq : src = held 4 0 60000 0 := rfl
  have low_eq : low = held 5 0 60000 0 := rfl
  clear_value src low held good v sections
  generalize startStation s = t at *
  obtain ⟨m, measure⟩ := meter
  have rates := goodRecord_eq (number := 0) (by rfl) (judges_eq t.config.profiles).2.2.2.2.2.2.2 sections
  have pitch : (judgeSections sections).pitch = (goodOf t.config.profiles sections 8 0).map fun r => field r.fields 1 :=
    congrArg (Option.map fun r : ImageRecord => field r.fields 1) rates
  have maximum : (judgeSections sections).maximum =
      (goodOf t.config.profiles sections 8 0).map fun r => field r.fields 2 :=
    congrArg (Option.map fun r : ImageRecord => field r.fields 2) rates
  obtain ⟨kinds, slots⟩ := startRecorder_get t.config.profiles sections s.loader.warm (reportAll s (loadFaults s)).recorder
  have reported := reportAll_grows s (loadFaults s)
  refine ⟨?_, ?_, ?_, ?_, ?_, ?_, fun k => ⟨?_, ?_⟩, fun k => ⟨?_, ?_, fun cold => ?_, fun warm => ?_⟩, fun k => ?_,
    fun k => ?_, fun p => ?_, fun n => ?_, ?_, ?_, ?_, fun none => ?_, fun item one two more some => ?_, ?_,
    fun item one two more some empty unmasked => ?_⟩
  · rw [config, held_eq]; rfl
  · rw [config, held_eq]; rfl
  · rw [config, held_eq]; rfl
  · rw [config, src_eq, low_eq, held_eq, held_eq]; rfl
  · rw [config, src_eq, low_eq, held_eq, held_eq]; rfl
  · rw [grows.enable, held_eq]; exact beq_eq_decide _ _
  · rw [grows.masked, kinds, good_eq]; simp only [v_eq]
  · rw [grows.severity, kinds, good_eq]; simp only [v_eq]
  · rw [(grows.slots k).1, (slots k).1, good_eq]; simp only [v_eq]
  · rw [(grows.slots k).2.1, (slots k).2.1, good_eq]; simp only [v_eq]
  · rw [(grows.slots k).2.2, (slots k).2.2, cold, if_neg Bool.false_ne_true, good_eq]; simp only [v_eq]
  · rw [(grows.slots k).2.2, (slots k).2.2, warm, if_pos rfl, (reported.slots k).2.2]
  · rw [good_eq]
    refine (congrArg (·.profiles.get k) config).trans ((loadProfiles_get t.config.profiles sections k).trans ?_)
    refine Option.map_congr fun r hr => ?_
    simp only [v_eq]
    exact profileFrom_eq (goodOf_eq_some hr).2.2
  · rw [good_eq, loadTables_valid t.config.profiles sections k tables]
    refine Option.map_congr fun r hr => ?_
    simp only [v_eq]
    exact tableFrom_eq (goodOf_eq_some hr).2.2
  · rw [good_eq, programDef_judged sections config p]
    refine Option.map_congr fun r hr => ?_
    simp only [v_eq]
    exact programFrom_eq (goodOf_eq_some hr).1 (goodOf_eq_some hr).2.2
  · have infos : (t.loops.get n).map (·.info) = (judgeSections sections).loops.get n := by
      have same := congrArg (Option.map Prod.fst) (fresh n)
      simpa [Option.map_map, Function.comp_def] using same
    rw [infos, good_eq]
    simp only [v_eq]
    exact loadLoops_get t.config.profiles sections n
  · rw [measure, good_eq]; simp only [v_eq]; exact pitch
  · rw [measure, good_eq]; simp only [v_eq]; exact maximum
  · rw [measure, good_eq, startMeter, pitch, maximum]
    simp
  · have left : loadFaults s = [] := by rw [faults, none]; rfl
    rw [loadStep, left]
  · have left : loadFaults s = faultOf (item, one, two) :: more.map faultOf := by rw [faults, some]; rfl
    rw [loadStep, left]; rfl
  · have all : ∀ e ∈ loadFaults s, e.kind = .configFault := by
      rw [faults]
      intro e he
      obtain ⟨x, -, rfl⟩ := List.mem_map.1 he
      rfl
    rw [status, kinds, reportAll_status (loadFaults s) s all, faults, ne_eq, List.map_eq_nil_iff]
  · have left : loadFaults s = faultOf (item, one, two) :: more.map faultOf := by rw [faults, some]; rfl
    obtain ⟨pointer, record⟩ := reportAll_first (e := faultOf (item, one, two)) (more.map faultOf) empty unmasked
    rw [← left] at pointer record
    obtain ⟨held, kept⟩ := grows.held (by
      change (reportAll s (loadFaults s)).recorder.pointer ≠ Option.none
      rw [pointer]; exact Option.some_ne_none _)
    refine ⟨held.trans pointer, ?_⟩
    rw [kept]
    change (reportAll s (loadFaults s)).recorder.record.map _ = _
    rw [record]
    rfl

end

section
/-! Reports of rooms, and the ages of their records (R22 to R27). -/

namespace Sys2Proof.Machine

open Sys2Proof

/-! ### A report taken by its checks -/

theorem exec_roomReport {s : State} {f : Frame} {v : RoomFields} (closed : requestOpen s = false)
    (head : s.bus.rx.head? = some f) (kind : f.kind = 2) (read : readRoom f.content = some v) :
    exec .roomReport s = .next (takeRoomReport (popped s) f) := by
  have taken : takeHead s .roomReport = some (f, popped s) := by
    rw [takeHead_eq_some, answerOpen_of_closed closed]
    exact ⟨head, handOn_room kind read, rfl⟩
  simp only [exec, execRoomReport, taken]

/-- Every mode code up to 4 is defined, and none above. -/
theorem roomModeOf_eq_none : ∀ {code : Nat}, roomModeOf code = none ↔ 4 < code
  | 0 | 1 | 2 | 3 | 4 => by decide
  | n + 5 => by simp [roomModeOf]

/-- The number by which a record is found is its own. -/
theorem room_of_roomRecord {s : State} {room : Nat} {r : Room} (h : roomRecord s room = some r) : r.room = room := by
  simpa using List.find?_some h

section
variable {s : State} {f : Frame} {v : RoomFields} (read : readRoom f.content = some v)
include read

/-- A sender below 16, room 0 and an unknown room are ignored (R22). -/
theorem takeRoomReport_ignored (h : f.sender.toNat < 16 ∨ v.room = 0 ∨ roomRecord s v.room = none) :
    takeRoomReport s f = { s with rooms := { s.rooms with ignored := min 65535 (s.rooms.ignored + 1) } } := by
  simp only [takeRoomReport, read, bump_eq_min]
  by_cases early : f.sender.toNat < 16 ∨ v.room = 0
  · rw [if_pos early]
  · have unknown : roomRecord s v.room = none := by tauto
    rw [if_neg early, unknown]

/-- A temperature out of range and an undefined mode are refused (R23). -/
theorem takeRoomReport_refused (sender : 16 ≤ f.sender.toNat) (room : v.room ≠ 0) (known : roomRecord s v.room ≠ none)
    (h : v.temperature < -2000 ∨ 5000 < v.temperature ∨ 4 < v.mode) :
    takeRoomReport s f = { s with rooms := { s.rooms with refused := min 65535 (s.rooms.refused + 1) } } := by
  obtain ⟨r, record⟩ := Option.ne_none_iff_exists'.1 known
  simp only [takeRoomReport, read, bump_eq_min, record]
  rw [if_neg (by omega)]
  cases defined : roomModeOf v.mode with
  | none => rfl
  | some mode =>
    have inTable : ¬ 4 < v.mode := fun above => by simp [roomModeOf_eq_none.2 above] at defined
    exact if_pos (by tauto)

/-- Any other report is taken, with a mode notice when the mode differs (R24, R25, R29). -/
theorem takeRoomReport_taken {r : Room} {mode : RoomMode} (sender : 16 ≤ f.sender.toNat) (room : v.room ≠ 0)
    (record : roomRecord s v.room = some r) (defined : roomModeOf v.mode = some mode) (low : -2000 ≤ v.temperature)
    (high : v.temperature ≤ 5000) :
    takeRoomReport s f =
      let taken := putRoom s (takenRoom r v mode)
      { taken with rooms := { taken.rooms with
        notices := if mode = r.mode then s.rooms.notices else s.rooms.notices ++ [⟨v.room, r.mode, mode, f⟩] } } := by
  simp only [takeRoomReport, read, record, defined]
  rw [if_neg (by omega), if_neg (by omega)]
  split <;> rfl

end

/-- "x raised to a or lowered to b" as the greater and the lesser of two (section 5.2). -/
theorem clampInt_eq {x a b : Int} (h : a ≤ b) : clampInt x a b = max a (min b x) := by unfold clampInt; omega

theorem takenRoom_eq (r : Room) (v : RoomFields) (mode : RoomMode) : takenRoom r v mode =
    { room := r.room
      state := .fresh
      age := ⟨0, 0⟩
      temperature := some v.temperature
      setpoint := some (max 500 (min 3000 v.setpoint))
      mode := mode
      floor := v.floor.filter fun x => decide (-2000 ≤ x ∧ x ≤ 9000) } := by
  rw [takenRoom, clampInt_eq (by decide)]
  cases v.floor with
  | none => rfl
  | some x => simp [Option.filter_some]

end Sys2Proof.Machine

open Sys2Proof Sys2Proof.Machine

/-- Settles O13, by the three outcomes of a report. -/
theorem roomReportByItsChecks : Obligations.RoomReportByItsChecks := by
  unfold Obligations.RoomReportByItsChecks
  intro s f v closed head kind read
  rw [exec_roomReport closed head kind read]
  refine ⟨fun h => ?_, fun sender room known h => ?_, fun r mode sender room record defined low high => ?_⟩
  · exact congrArg _ (takeRoomReport_ignored (s := popped s) read h)
  · exact congrArg _ (takeRoomReport_refused (s := popped s) read sender room known h)
  · have own : r.room = v.room := room_of_roomRecord record
    refine ⟨_, rfl, ?_⟩
    rw [takeRoomReport_taken (s := popped s) read sender room record defined low high, takenRoom_eq, own]
    refine ⟨rfl, ?_, fun m other => ?_, rfl, rfl, rfl⟩
    · refine (roomRecord_putRoom (popped s) _ v.room).trans ?_
      rw [if_pos rfl, show roomRecord (popped s) v.room = some r from record]; rfl
    · exact (roomRecord_putRoom (popped s) _ m).trans (if_neg other)

end

section
/-! The ages of room records: into HELD, and into ORPHAN (R26, R27). -/

namespace Sys2Proof.Machine

open Sys2Proof

/-- Time that passes changes a record's age only (R26). -/
theorem roomRecord_elapse {s : State} {room : Nat} {r : Room} (h : roomRecord s room = some r) (d : Nat) :
    ∃ age, roomRecord (elapse d s) room = some { r with age := age } := by
  unfold elapse
  split
  · exact ⟨r.age, h⟩
  · split
    · exact ⟨r.age, h⟩
    · refine ⟨r.age.after (roomLimit r.state) d, ?_⟩
      have later : ∀ l : List Room, (l.map (roomAfter d)).find? (fun r => r.room == room) =
          (l.find? fun r => r.room == room).map (roomAfter d) := fun l => by
        rw [List.find?_map]; rfl
      simp only [roomRecord, later] at h ⊢
      rw [h]; rfl

/-- A record that takes the step past its limit takes the given age and state, and the other records stand. -/
theorem ageRoom_of_record {s : State} {room : Nat} {r : Room} (h : roomRecord s room = some r) (secs : Nat)
    (st : RoomState) : ∃ rooms, ageRoom s room secs st = { s with rooms := rooms } ∧ rooms.notices = s.rooms.notices ∧
      roomRecord (ageRoom s room secs st) room = some { r with age := ⟨secs, 0⟩, state := st } ∧
      ∀ m, m ≠ room → roomRecord (ageRoom s room secs st) m = roomRecord s m := by
  simp only [ageRoom, h]
  refine ⟨_, rfl, rfl, ?_, fun m other => ?_⟩
  · rw [roomRecord_putRoom, if_pos (room_of_roomRecord h).symm, h]; rfl
  · rw [roomRecord_putRoom, if_neg (by simpa [room_of_roomRecord h] using other)]

/-- The same, once the time has passed that the record has left. -/
theorem ageRoom_elapse {s : State} {room : Nat} {r : Room} (h : roomRecord s room = some r) (d secs : Nat)
    (st : RoomState) : ∃ rooms, ageRoom (elapse d s) room secs st = { elapse d s with rooms := rooms } ∧
      rooms.notices = s.rooms.notices ∧
      roomRecord (ageRoom (elapse d s) room secs st) room = some { r with age := ⟨secs, 0⟩, state := st } ∧
      ∀ m, m ≠ room → roomRecord (ageRoom (elapse d s) room secs st) m = roomRecord (elapse d s) m := by
  obtain ⟨age, later⟩ := roomRecord_elapse h d
  obtain ⟨rooms, aged, notices, record, others⟩ := ageRoom_of_record later secs st
  exact ⟨rooms, aged, notices.trans (elapse_rooms_notices s d), record, others⟩

/-- The item of ROOM_STALE is the lowest-numbered loop that is present and serves the room (R27). -/
theorem roomItem_of_first {s : State} {room : Nat} {n : Fin 12} {l : Loop} (present : s.loops.get n = some l)
    (serves : l.info.room = room) (first : ∀ m k, m < n → s.loops.get m = some k → k.info.room ≠ room) :
    roomItem s room = n.val + 1 := by
  unfold roomItem
  split
  · rename_i m found
    obtain ⟨own, i, inRange, here, before⟩ := List.find?_eq_some_iff_getElem.1 found
    obtain rfl : (⟨i, by simpa using inRange⟩ : Fin 12) = m := by simpa using here
    rcases lt_trichotomy (⟨i, by simpa using inRange⟩ : Fin 12) n with below | same | above
    · cases other : s.loops.get ⟨i, by simpa using inRange⟩ with
      | none => simp [other] at own
      | some k => exact absurd (by simpa [other] using own) (first _ k below other)
    · rw [← same]
    · simpa [present, serves] using before n.val above
  · rename_i missing
    simpa [present, serves] using List.find?_eq_none.1 missing n (List.mem_finRange n)

/-- Time changes neither which loops are present nor which rooms they serve. -/
theorem elapse_room {s : State} {d : Nat} {n : Fin 12} {l : Loop} (h : (elapse d s).loops.get n = some l) :
    ∃ k, s.loops.get n = some k ∧ k.info = l.info := by
  have same := elapse_loop s d n
  rw [h] at same
  obtain ⟨k, present, e⟩ := Option.map_eq_some_iff.1 same.symm
  exact ⟨k, present, congrArg Prod.fst e⟩

theorem roomItem_elapse {s : State} {room : Nat} {n : Fin 12} {l : Loop} (present : s.loops.get n = some l)
    (serves : l.info.room = room) (first : ∀ m k, m < n → s.loops.get m = some k → k.info.room ≠ room) (d : Nat) :
    roomItem (elapse d s) room = n.val + 1 := by
  have same := elapse_loop s d n
  rw [present] at same
  obtain ⟨l', present', e⟩ := Option.map_eq_some_iff.1 same
  refine roomItem_of_first present' ((congrArg (·.1.room) e).trans serves) fun m k below later => ?_
  obtain ⟨k', before, info⟩ := elapse_room later
  rw [← info]
  exact first m k' below before

theorem exec_roomEntersHeld {s : State} {room : Nat} {r : Room} (h : roomRecord s room = some r)
    (fresh : r.state = .fresh) :
    exec (.roomEntersHeld room) s = .next (ageRoom (elapse (roomLeft s room) s) room 301 .held) := by
  simp [exec, execRoomEntersHeld, roomStateOf, h, fresh]

theorem exec_roomStale {s : State} {room : Nat} {r : Room} (h : roomRecord s room = some r)
    (state : r.state = .held ∨ r.state = .never) :
    exec (.roomStale room) s =
      .next (orphanRoom (elapse (roomLeft s room) s) room (decide (r.state = .never))) := by
  rcases state with held | never
  · simp [exec, execRoomStale, roomStateOf, h, held]
  · simp [exec, execRoomStale, roomStateOf, h, never]

@[simp] theorem report_rooms (s : State) (e : FaultEvent) : (report s e).rooms = s.rooms := by
  obtain ⟨_, _, _, _, h⟩ := report_frame s e; rw [h]

@[simp] theorem roomRecord_report (s : State) (e : FaultEvent) (room : Nat) :
    roomRecord (report s e) room = roomRecord s room := by
  simp only [roomRecord, report_rooms]

end Sys2Proof.Machine

open Sys2Proof Sys2Proof.Machine

/-- Settles O14: both rows age the record once the time to its step has passed, and the second reports. -/
theorem roomAgesIntoHeldAndOrphan : Obligations.RoomAgesIntoHeldAndOrphan := by
  unfold Obligations.RoomAgesIntoHeldAndOrphan
  refine ⟨fun s room r record fresh => ?_, fun s room r n l record state present serves first => ?_⟩
  · obtain ⟨rooms, aged, notices, held, others⟩ := ageRoom_elapse record (roomLeft s room) 301 .held
    refine ⟨_, exec_roomEntersHeld record fresh, ?_, held, ?_, others⟩
    · rw [aged]
    · rw [aged]; exact notices
  · obtain ⟨rooms, aged, notices, orphan, others⟩ := ageRoom_elapse record (roomLeft s room) 901 .orphan
    refine ⟨_, rooms, exec_roomStale record state, ?_, ?_, ?_, fun m other => ?_⟩
    · simp only [orphanRoom, decide_eq_true_eq, roomItem_elapse present serves first, aged]
    · exact (roomRecord_report _ _ _).trans orphan
    · rw [orphanRoom, report_rooms, aged]; exact notices
    · exact (roomRecord_report _ _ _).trans (others m other)

end

section
/-! The demand of one loop, and what its room supplies to it (R31, R51 to R57). -/

namespace Sys2Proof.Machine

open Sys2Proof

theorem roomSupply_absent (r : Room) (h : r.state = .never ∨ r.state = .orphan) : roomSupply (some r) = none := by
  rcases h with h | h <;> simp [roomSupply, h]

theorem roomSupply_present {r : Room} {t sp : Int} (temperature : r.temperature = some t) (setpoint : r.setpoint = some sp) :
    (r.state = .fresh → roomSupply (some r) = some ⟨false, t, sp, r.floor⟩) ∧
    (r.state = .held → roomSupply (some r) = some ⟨true, t, sp, r.floor⟩) :=
  ⟨fun fresh => by simp [roomSupply, fresh, temperature, setpoint],
    fun held => by simp [roomSupply, held, temperature, setpoint]⟩

theorem effectiveSetpoint_eq (p : Profile) (sp : Int) :
    effectiveSetpoint p sp = max 500 (min 3000 (if p.mode = .offset then sp + p.setpoint else p.setpoint)) := by
  unfold effectiveSetpoint
  split
  · rename_i offset; rw [clampInt_eq (by decide), if_pos offset]
  · rename_i absolute; rw [clampInt_eq (by decide), if_neg (by simp [absolute])]

theorem controlError_eq (sp t : Int) : controlError sp t = max (-500) (min 500 (sp - t)) := clampInt_eq (by decide)

theorem holdApplies_iff {dLast : Option Nat} {scaled : Bool} {source : SourceState} {roomHeld : Bool} {err : Int} :
    holdApplies dLast scaled source roomHeld err = true ↔
      (dLast = some 1000 ∧ 0 < err) ∨ (dLast = some 0 ∧ err < 0) ∨ (scaled = true ∧ 0 < err) ∨ source ≠ .heating ∨
        roomHeld = true := by
  simp [holdApplies, or_assoc]

/-- The last two words on a demand: the frost floor, then the floor limit (R56, R57). -/
def limited (p : Profile) (room : Option RoomSupply) (x : Nat) : Nat := floorLimit p.floorMax room (frostFloor p.kind room x)

theorem limited_of_none (p : Profile) (x : Nat) : limited p none x = x := rfl

/-- A demand of 0 stays so under an OFF profile (R56, R57). -/
theorem limited_off {p : Profile} (h : p.kind = .off) (room : Option RoomSupply) : limited p room 0 = 0 := by
  have unfloored : frostFloor p.kind room 0 = 0 := by
    unfold frostFloor
    split
    · simp [h]
    · rfl
  rw [limited, unfloored]
  unfold floorLimit
  dsimp only
  split
  · rfl
  · split_ifs <;> simp

/-- A demand is its kind's raw demand, limited; the integrator is the raw demand's. -/
theorem demandOf_eq (s : State) (o : Opening) (n : Fin 12) (p : Profile) (stale : Bool) (room : Option RoomSupply)
    (e : EngineLoop) : demandOf s o n p stale room e =
      (limited p room (rawDemand s o n p stale room e).1, (rawDemand s o n p stale room e).2) := rfl

section
variable {s : State} {o : Opening} {n : Fin 12} {p : Profile} {stale : Bool} {e : EngineLoop}

theorem rawDemand_boost (room : Option RoomSupply) (h : p.kind = .boost) :
    rawDemand s o n p stale room e = (p.fixedDemand, e.integrator) := by simp [rawDemand, h]

theorem rawDemand_off (room : Option RoomSupply) (h : p.kind = .off) :
    rawDemand s o n p stale room e = (0, e.integrator) := by simp [rawDemand, h]

theorem rawDemand_dryout (room : Option RoomSupply) (h : p.kind = .dryout) :
    rawDemand s o n p stale room e = (stepDemand s n p, e.integrator) := by simp [rawDemand, h]

/-- Under control without a supplying room (R52). -/
theorem rawDemand_seed (h : controlKind p.kind = true) : rawDemand s o n p stale none e = (p.seed, e.integrator) := by
  cases kind : p.kind <;> simp_all [rawDemand, controlKind]

/-- Under control with a supplying room (R52 to R55). -/
theorem rawDemand_control (h : controlKind p.kind = true) (r : RoomSupply) : rawDemand s o n p stale (some r) e =
    let err := controlError (effectiveSetpoint p r.setpoint) r.temperature
    let i := nextIntegrator s.config.ki stale p.seed e o.source r.held err
    (controlDemand s.config.kp i err, i) := by
  cases kind : p.kind <;> simp_all [rawDemand, controlKind]

theorem stepDemand_of_step {prog : Prog} {st : DryStep} (program : p.program = some prog)
    (step : currentStep s prog = some st) : stepDemand s n p = st.demand := by simp [stepDemand, program, step]

/-- A program that stands at no step supplies a free value of 0 to 1000 (assumption 46). -/
theorem stepDemand_of_none (none_ : ∀ prog, p.program = some prog → currentStep s prog = none) :
    stepDemand s n p ≤ 1000 := by
  have step : p.program.bind (currentStep s) = none := by
    cases program : p.program with
    | none => rfl
    | some prog => exact none_ prog program
  rw [stepDemand, step]
  exact Nat.min_le_left _ _

end

theorem controlDemand_eq (kp integrator : Nat) (err : Int) : controlDemand kp integrator err =
    (max 0 (min 1000 (((integrator / 100 : Nat) : Int) + (kp * err).tdiv 100))).toNat := by
  rw [controlDemand, clampInt_eq (by decide)]

section
variable {ki seed : Nat} {e : EngineLoop} {source : SourceState} {roomHeld : Bool} {err : Int}

theorem nextIntegrator_held (h : holdApplies e.dLast e.scaled source roomHeld err = true) :
    nextIntegrator ki false seed e source roomHeld err = e.integrator := by simp [nextIntegrator, h]

theorem nextIntegrator_incremented (h : ¬ holdApplies e.dLast e.scaled source roomHeld err = true) :
    (nextIntegrator ki false seed e source roomHeld err : Int) = max 0 (min 100000 ((e.integrator : Int) + ki * err)) := by
  rw [nextIntegrator, if_neg Bool.false_ne_true, if_neg h, clampInt_eq (by decide)]
  exact Int.toNat_of_nonneg (le_max_left _ _)

end

end Sys2Proof.Machine

open Sys2Proof Sys2Proof.Machine

/-- Settles O20, by the kinds of the profile. -/
theorem demandFollowsTheProfileAndTheRoom : Obligations.DemandFollowsTheProfileAndTheRoom := by
  unfold Obligations.DemandFollowsTheProfileAndTheRoom
  refine ⟨⟨rfl, fun r => ⟨roomSupply_absent r, fun t sp => roomSupply_present⟩⟩, ?_⟩
  intro s o n p stale room e d floored
  have floored_eq (x : Nat) : limited p room x = floored x := by
    cases room with
    | none => rfl
    | some r =>
      have floor : frostFloor p.kind (some r) x = if r.temperature < 500 ∧ p.kind ≠ .off then max x 150 else x := by
        simp only [frostFloor, and_comm]
      have narrow (margin : Int) : margin ≤ 49 ↔ margin < 50 := by omega
      cases carried : r.floor <;> simp only [limited, floor, floorLimit, narrow, Option.bind_some, floored, carried]
  have d_eq : d = (floored (rawDemand s o n p stale room e).1, (rawDemand s o n p stale room e).2) := by
    rw [← floored_eq]; exact demandOf_eq s o n p stale room e
  clear_value d
  refine ⟨fun boost => ?_, fun off => ?_, fun prog st dry program step => ?_, fun dry none_ => ?_, fun control absent => ?_,
    fun r control supplied => ?_⟩
  · rw [d_eq, rawDemand_boost room boost]
  · rw [d_eq, rawDemand_off room off, ← floored_eq, limited_off off]
  · rw [d_eq, rawDemand_dryout room dry, stepDemand_of_step program step]
  · rw [rawDemand_dryout room dry] at d_eq
    exact ⟨stepDemand s n p, stepDemand_of_none none_, d_eq⟩
  · rw [d_eq, ← floored_eq, absent, rawDemand_seed control, limited_of_none]
  · rw [supplied, rawDemand_control control r, effectiveSetpoint_eq, controlError_eq] at d_eq
    rw [d_eq]
    refine ⟨congrArg floored (controlDemand_eq _ _ _), fun seeded => ?_, fun going hold => ?_, fun going free => ?_⟩
    · rw [seeded]; rfl
    · rw [going]; exact nextIntegrator_held (seed := p.seed) (holdApplies_iff.2 hold)
    · rw [going]; exact nextIntegrator_incremented (seed := p.seed) (mt holdApplies_iff.1 free)

end

section
/-! The idle step, and the station's own work that it goes on with (assumptions 1, 4 and 12). -/

namespace Sys2Proof.Machine

open Sys2Proof

/-! ### The work in progress -/

/-- When each work is in progress. -/
def inProgress (s : State) : Work → Prop
  | .load => s.loader.state = .loading ∧ loadFaults s ≠ []
  | .pass => s.engine.visit ≠ none
  | .trim => s.valves.update ≠ none
  | .notice => s.visiting ≠ none
  | .dryout => s.operation ≠ none
  | .alerts => s.bus.placing ≠ []

/-- The works listed are those in progress. -/
theorem mem_works (s : State) (w : Work) : w ∈ works s ↔ inProgress s w := by
  have listed (x : Work) (c : Prop) [Decidable c] : w ∈ (if c then [x] else []) ↔ c ∧ w = x := by
    split_ifs <;> simp [*]
  have unlisted (x : Work) (c : Prop) [Decidable c] : w ∈ (if c then [] else [x]) ↔ ¬ c ∧ w = x := by
    split_ifs <;> simp [*]
  simp only [works, List.mem_append, listed, unlisted]
  cases w <;> simp [inProgress, Option.isSome_iff_ne_none]

/-! ### What a piece of work leaves -/

/-- What every step of the station's own work leaves as it was. -/
structure WorkFrame (s t : State) : Prop where
  now : t.now = s.now
  draws : t.draws = s.draws
  pending : t.pending = s.pending
  channels : t.channels = s.channels
  phases : t.phases = s.phases
  arbiter : t.arbiter = s.arbiter
  rooms : t.rooms = s.rooms
  peers : t.peers = s.peers
  scanner : t.scanner = s.scanner
  config : t.config = s.config
  rx : t.bus.rx = s.bus.rx

theorem WorkFrame.refl (s : State) : WorkFrame s s := ⟨rfl, rfl, rfl, rfl, rfl, rfl, rfl, rfl, rfl, rfl, rfl⟩

theorem WorkFrame.trans {s t u : State} (h : WorkFrame s t) (k : WorkFrame t u) : WorkFrame s u where
  now := k.now.trans h.now
  draws := k.draws.trans h.draws
  pending := k.pending.trans h.pending
  channels := k.channels.trans h.channels
  phases := k.phases.trans h.phases
  arbiter := k.arbiter.trans h.arbiter
  rooms := k.rooms.trans h.rooms
  peers := k.peers.trans h.peers
  scanner := k.scanner.trans h.scanner
  config := k.config.trans h.config
  rx := k.rx.trans h.rx

theorem FaultFrame.work {s t : State} (h : FaultFrame s t) : WorkFrame s t := by
  obtain ⟨_, _, _, _, rfl⟩ := h
  exact ⟨rfl, rfl, rfl, rfl, rfl, rfl, rfl, rfl, rfl, rfl, rfl⟩

theorem PassFrame.work {s t : State} (h : PassFrame s t) : WorkFrame s t := by
  obtain ⟨_, _, _, _, _, _, rfl⟩ := h
  exact ⟨rfl, rfl, rfl, rfl, rfl, rfl, rfl, rfl, rfl, rfl, rfl⟩

theorem TrimFrame.work {s t : State} (h : TrimFrame s t) : WorkFrame s t := by
  obtain ⟨_, _, _, _, _, _, rfl⟩ := h
  exact ⟨rfl, rfl, rfl, rfl, rfl, rfl, rfl, rfl, rfl, rfl, rfl⟩

theorem NoticeFrame.work {s t : State} (h : NoticeFrame s t) : WorkFrame s t := by
  obtain ⟨_, _, _, _, _, _, rfl⟩ := h
  exact ⟨rfl, rfl, rfl, rfl, rfl, rfl, rfl, rfl, rfl, rfl, rfl⟩

theorem DryFrame.work {s t : State} (h : DryFrame s t) : WorkFrame s t := by
  obtain ⟨_, _, _, _, _, _, _, _, _, rfl⟩ := h
  exact ⟨rfl, rfl, rfl, rfl, rfl, rfl, rfl, rfl, rfl, rfl, rfl⟩

theorem loadStep_workFrame (s : State) : WorkFrame s (loadStep s) := by
  unfold loadStep
  split
  · exact .refl s
  · have counted (l : Loader) : WorkFrame s { s with loader := l } :=
      ⟨rfl, rfl, rfl, rfl, rfl, rfl, rfl, rfl, rfl, rfl, rfl⟩
    exact (counted _).trans (report_frame _ _).work

/-- No work moves the clock, a channel, the arbiter, a queue, or the record of a room or a peer. -/
theorem workStep_frame (w : Work) (s : State) : WorkFrame s (workStep w s) := by
  cases w with
  | load => exact loadStep_workFrame s
  | pass => exact (passStep_frame s).work
  | trim => exact (trimStep_frame s).work
  | notice => exact (noticeStep_frame s).work
  | dryout => exact (dryStep_frame s).work
  | alerts => exact (placeAlert_frame s).work

theorem workSteps_frame (w : Work) (k : Nat) (s : State) : WorkFrame s (times (workStep w) k s) :=
  times_frame .refl .trans (workStep_frame w) k s

/-! ### Some number of steps ends each work -/

/-- A list that loses its head with every step is empty after as many steps as it is long. -/
theorem times_tail {α : Type} {step : State → State} {waiting : State → List α}
    (h : ∀ s, waiting (step s) = (waiting s).tail) (s : State) : waiting (times step (waiting s).length s) = [] :=
  List.eq_nil_of_length_eq_zero
    (times_ends (left := fun s => (waiting s).length) (fun s => by simp [h]) _ s (le_refl _))

/-- Some number of its steps ends each work. -/
theorem works_end (w : Work) (s : State) : ∃ k, w ∉ works (times (workStep w) k s) := by
  simp only [mem_works]
  cases w with
  | load => exact ⟨_, fun h => h.2 (times_tail loadFaults_loadStep s)⟩
  | pass => exact ⟨_, fun h => h (passSteps_visit _ s (le_refl _))⟩
  | trim => exact ⟨3, fun h => h (finishTrim_update s)⟩
  | notice => exact ⟨_, fun h => h (finishNotice_visiting s)⟩
  | dryout => exact ⟨_, fun h => h (finishDry_operation s)⟩
  | alerts => exact ⟨_, fun h => h (times_tail (waiting := (·.bus.placing)) placing_placeAlert s)⟩

/-! ### The idle step -/

theorem step_of_idle {s : State} (idle : s.pending = []) : step s = .next (tick s) := by simp [step, idle]

/-- Of the events that are due one joins an empty queue. -/
theorem queueDue_of_idle {s : State} (idle : s.pending = []) (due : dueEvents s ≠ []) :
    ∃ i ∈ dueEvents s, ∃ draws, queueDue s = { s with pending := [i], draws := draws } := by
  rcases queueDue_cases s with ⟨none_, -⟩ | ⟨i, mem, draws, joined⟩
  · exact absurd none_ due
  · exact ⟨i, mem, draws, by rw [joined, idle]; rfl⟩

/-- Work that goes on is one of the works in progress, whatever free value has chosen it. -/
theorem goOn_piece {s : State} (busy : works s ≠ []) (k : Nat) :
    ∃ w ∈ works s, ∃ draws, goOn k s = piece (workStep w) k { s with draws := draws } := by
  obtain ⟨w, mem, undrawn | drawn_⟩ := goOn_cases busy k
  · exact ⟨w, mem, s.draws, undrawn⟩
  · exact ⟨w, mem, s.draws + 1, drawn_⟩

/-- While work is in progress and events are due, an event joins the queue or the work goes on. -/
theorem tick_of_both {s : State} (busy : works s ≠ []) (due : dueEvents s ≠ []) :
    tick s = queueDue { s with cuts := s.cuts + 1 } ∨ ∃ k, 0 < k ∧ tick s = goOn k s := by
  unfold tick
  split
  · exact absurd ‹_› busy
  · exact absurd ‹_› busy
  · exact absurd ‹_› due
  · split
    · exact .inl rfl
    · rename_i some_; exact .inr ⟨_, Nat.pos_of_ne_zero some_, rfl⟩

/-- An age rises with the time, up to the step past its limit, where it waits. -/
theorem Age.after_total (a : Age) (limit d : Nat) :
    (a.after limit d).secs * 1000 + (a.after limit d).ms = min (a.secs * 1000 + a.ms + d) ((limit + 1) * 1000) := by
  simp only [Age.after]
  split
  · dsimp only; omega
  · dsimp only; omega

end Sys2Proof.Machine

open Sys2Proof Sys2Proof.Machine

/-- Settles O2, by the three things that an idle step can do. -/
theorem idleStepQueuesADueEventOrLetsTimePass : Obligations.IdleStepQueuesADueEventOrLetsTimePass := by
  unfold Obligations.IdleStepQueuesADueEventOrLetsTimePass
  refine ⟨fun s w => ?_, fun s idle free due => ?_, fun s idle free quiet => ?_, fun s idle busy quiet => ?_,
    fun s idle busy due => ?_, fun s w k => ?_, fun s w => works_end w s, fun a limit d _ => Age.after_total a limit d⟩
  · rw [mem_works]; cases w <;> rfl
  · rw [step_of_idle idle]
    rcases tick_cases s with ⟨-, quiet, -⟩ | ⟨-, joins | ⟨busy, -⟩⟩ | ⟨busy, -⟩
    · exact absurd quiet due
    · rw [joins]
      obtain ⟨i, mem, draws, joined⟩ := queueDue_of_idle idle due
      exact ⟨i, mem, draws, congrArg _ joined⟩
    · exact absurd free busy
    · exact absurd free busy
  · rw [step_of_idle idle]
    rcases tick_cases s with ⟨-, -, passes⟩ | ⟨due, -⟩ | ⟨busy, -⟩
    · rw [passes]
      exact ⟨rfl, elapse_now s 1, elapse_recorder s 1, elapse_arbiter s 1, (elapse_pending s 1).trans idle,
        fun n => ⟨elapse_channel_counter s 1 n, elapse_channel_state s 1 n⟩⟩
    · exact absurd quiet due
    · exact absurd free busy
  · rw [step_of_idle idle]
    rcases tick_cases s with ⟨free, -⟩ | ⟨due, -⟩ | ⟨-, k, more, goes⟩
    · exact absurd free busy
    · exact absurd quiet due
    · rw [goes]
      obtain ⟨w, mem, draws, made⟩ := goOn_piece busy k
      exact ⟨w, mem, k, draws, more, congrArg _ made⟩
  · rw [step_of_idle idle]
    rcases tick_of_both busy due with joins | ⟨k, more, goes⟩
    · rw [joins]
      obtain ⟨i, mem, draws, joined⟩ := queueDue_of_idle (s := { s with cuts := s.cuts + 1 }) idle due
      exact .inl ⟨i, mem, draws, congrArg _ joined⟩
    · rw [goes]
      obtain ⟨w, mem, draws, made⟩ := goOn_piece busy k
      exact .inr ⟨w, mem, k, draws, more, congrArg _ made⟩
  · obtain ⟨now, draws, pending, channels, phases, arbiter, rooms, peers, scanner, config, rx⟩ := workSteps_frame w k s
    exact ⟨rfl, now, draws, pending, channels, phases, arbiter, rooms, peers, scanner, config, rx⟩

end

section
/-! Stages 1 and 2 of a pass: what is read of each loop (R48, R51 to R61). -/

namespace Sys2Proof.Machine

open Sys2Proof

/-! ### One loop -/

theorem channelUsable_iff {c : Channel} : channelUsable c = true ↔ c.calibrated = true ∧ c.state ≠ .disabled := by
  simp [channelUsable]

/-- A loop is in service when its channel and its valve table let it serve (R48). -/
theorem loopInService_iff {s : State} {n : Fin 12} {l : Loop} : loopInService s n l = true ↔ Servable s n l := by
  simp [loopInService, Servable, channelUsable_iff, Option.isSome_iff_ne_none, and_assoc]

theorem readingOf_absent {s : State} {n : Fin 12} (h : s.loops.get n = none) : readingOf s n = [] := by
  simp [readingOf, h]

theorem readingOf_idle {s : State} {n : Fin 12} {l : Loop} (h : s.loops.get n = some l) (out : ¬ Servable s n l) :
    readingOf s n = [] := by
  simp [readingOf, h, loopInService_iff, out]

theorem readingOf_serving {s : State} {n : Fin 12} {l : Loop} (h : s.loops.get n = some l) (serves : Servable s n l) :
    readingOf s n = [⟨n, activeProfile s l.chain, (s.channels.get n).stroke.getD 0⟩] := by
  simp [readingOf, h, loopInService_iff, serves]

theorem stageOne_absent {s : State} {n : Fin 12} (h : s.loops.get n = none) (o : Opening) : stageOne o s n = s := by
  simp [stageOne, h]

theorem stageOne_idle {s : State} {n : Fin 12} {l : Loop} (h : s.loops.get n = some l) (out : ¬ Servable s n l)
    (o : Opening) : stageOne o s n =
      { s with engine := { s.engine with loops := s.engine.loops.set n (outOfServiceLoop (s.engine.loops.get n)) } } := by
  simp [stageOne, h, loopInService_iff, out]

theorem stageOne_serving {s : State} {n : Fin 12} {l : Loop} (h : s.loops.get n = some l) (serves : Servable s n l)
    (o : Opening) : stageOne o s n =
      { s with
        engine := { s.engine with loops := s.engine.loops.set n (servedLoop s o n l (s.engine.loops.get n)).1 }
        loops := s.loops.set n (some { l with stale := (servedLoop s o n l (s.engine.loops.get n)).2 }) } := by
  simp [stageOne, h, loopInService_iff, serves]

/-- A probe value is usable in GOOD and in HELD (R41). -/
theorem usableValue_eq (v : ProbeState × Option Int) :
    usableValue v = if v.1 = .good ∨ v.1 = .held then v.2 else none := by
  obtain ⟨state, value⟩ := v
  cases state <;> rfl

/-- The measured drop is valid with both probes usable, the counter at 3 and a positive drop (R60). -/
theorem validDrop_some {o : Opening} {n : Fin 12} {ts tr : Int} (supply : usableValue (o.probes.get 12) = some ts)
    (back : usableValue (o.probes.get ⟨n.val, by omega⟩) = some tr) (below : tr < ts) :
    validDrop o n 3 = some (ts - tr).toNat := by
  simp [validDrop, supply, back, below]

theorem validDrop_none {o : Opening} {n : Fin 12} {settled : Nat}
    (h : usableValue (o.probes.get 12) = none ∨ usableValue (o.probes.get ⟨n.val, by omega⟩) = none ∨ settled ≠ 3 ∨
      ∃ ts tr, usableValue (o.probes.get 12) = some ts ∧ usableValue (o.probes.get ⟨n.val, by omega⟩) = some tr ∧
        ts ≤ tr) : validDrop o n settled = none := by
  rcases h with supply | back | unsettled | ⟨ts, tr, supply, back, above⟩
  · simp [validDrop, supply]
  · cases supply : usableValue (o.probes.get 12) <;> simp [validDrop, supply, back]
  · unfold validDrop
    split
    · exact if_neg fun h => unsettled h.1
    · rfl
  · simp [validDrop, supply, back, above]

/-- The drop of a loop in service: the measured one when it is valid, and else the design drop (R60). -/
theorem servedLoop_drop {s : State} {o : Opening} {n : Fin 12} {l : Loop} {e : EngineLoop} {measured : Option Nat}
    (h : validDrop o n (servedLoop s o n l e).1.openSettled = measured) :
    (servedLoop s o n l e).1.dropValid = measured.isSome ∧ (servedLoop s o n l e).1.dropEff =
      some (measured.elim ((activeProfile s l.chain).dropOverride.getD l.info.dropDes) (max · 100)) := by
  subst h
  refine ⟨rfl, ?_⟩
  dsimp only [servedLoop]
  split <;> simp [*]

/-- Stages 1 and 2 make of a loop what the law of a reading says. -/
theorem stageOne_loopRead (o : Opening) (s : State) (n : Fin 12) : LoopRead s o n (stageOne o s n) := by
  refine ⟨fun absent => ?_, fun l present out => ?_, fun l present serves => ?_⟩
  · rw [stageOne_absent absent]; exact ⟨absent, rfl⟩
  · rw [stageOne_idle present out]
    exact ⟨present, Tab.get_set_self _ _ _⟩
  · rw [stageOne_serving present serves]
    simp only [Tab.get_set_self, ← usableValue_eq]
    refine ⟨rfl, rfl, rfl, rfl, rfl, rfl, fun ts tr supply back settled below => ?_, fun invalid => ?_, _, rfl, rfl⟩
    · refine servedLoop_drop (measured := some (ts - tr).toNat) ((congrArg _ settled).trans ?_)
      exact validDrop_some supply back below
    · exact servedLoop_drop (validDrop_none invalid)

/-! ### Loops one after the other -/

/-- At most the loops, and what the engine holds of them, differ: what stages 1 and 2 may change. -/
def ReadingFrame (s u : State) : Prop :=
  ∃ loops held, u = { s with loops := loops, engine := { s.engine with loops := held } }

theorem ReadingFrame.refl (s : State) : ReadingFrame s s := ⟨_, _, rfl⟩

theorem ReadingFrame.trans {s t u : State} (h : ReadingFrame s t) (k : ReadingFrame t u) : ReadingFrame s u := by
  obtain ⟨_, _, rfl⟩ := h
  obtain ⟨_, _, rfl⟩ := k
  exact ⟨_, _, rfl⟩

theorem ReadingFrame.eq {s u : State} (h : ReadingFrame s u) :
    u = { s with loops := u.loops, engine := { s.engine with loops := u.engine.loops } } := by
  obtain ⟨_, _, rfl⟩ := h
  rfl

/-- Loop `n`, and what the engine holds of it, are the same in both states. -/
def SameLoop (n : Fin 12) (s u : State) : Prop :=
  u.loops.get n = s.loops.get n ∧ u.engine.loops.get n = s.engine.loops.get n

theorem SameLoop.trans {n : Fin 12} {s t u : State} (h : SameLoop n s t) (k : SameLoop n t u) : SameLoop n s u :=
  ⟨k.1.trans h.1, k.2.trans h.2⟩

theorem stageOne_readingFrame (o : Opening) (s : State) (n : Fin 12) : ReadingFrame s (stageOne o s n) := by
  unfold stageOne
  split
  · exact .refl s
  · dsimp only
    split <;> exact ⟨_, _, rfl⟩

/-- The reading of a loop leaves the others as they are. -/
theorem stageOne_other (o : Opening) (s : State) {n m : Fin 12} (h : m ≠ n) : SameLoop m s (stageOne o s n) := by
  unfold stageOne
  split
  · exact ⟨rfl, rfl⟩
  · dsimp only
    split
    · exact ⟨Tab.get_set_ne _ _ h.symm, Tab.get_set_ne _ _ h.symm⟩
    · exact ⟨rfl, Tab.get_set_ne _ _ h.symm⟩

/-- A loop is read by what it is and by what the readings of others leave alone. -/
theorem LoopRead.of_before {s s' t : State} {o : Opening} {n : Fin 12} (h : LoopRead s' o n t) (frame : ReadingFrame s s')
    (same : SameLoop n s s') : LoopRead s o n t := by
  obtain ⟨loops, held, rfl⟩ := frame
  obtain ⟨loop, engine⟩ := same
  dsimp only [LoopRead] at h loop engine ⊢
  rw [loop, engine] at h
  exact h

theorem LoopRead.of_after {s t u : State} {o : Opening} {n : Fin 12} (h : LoopRead s o n t) (same : SameLoop n t u) :
    LoopRead s o n u := by
  obtain ⟨loop, engine⟩ := same
  dsimp only [LoopRead] at h ⊢
  rw [loop, engine]
  exact h

theorem readingOf_congr {s s' : State} {n : Fin 12} (frame : ReadingFrame s s') (same : SameLoop n s s') :
    readingOf s' n = readingOf s n := by
  obtain ⟨loops, held, rfl⟩ := frame
  have loop : loops.get n = s.loops.get n := same.1
  simp only [readingOf, loop]
  rfl

/-- The loops of a list read one after the other: each is read as it stands before them all, and no other changes. -/
theorem foldl_stageOne (o : Opening) : ∀ (l : List (Fin 12)) (s : State), l.Nodup →
    ReadingFrame s (l.foldl (stageOne o) s) ∧ (∀ n ∈ l, LoopRead s o n (l.foldl (stageOne o) s)) ∧
    ∀ n, n ∉ l → SameLoop n s (l.foldl (stageOne o) s)
  | [], s, _ => ⟨.refl s, fun _ h => absurd h List.not_mem_nil, fun _ _ => ⟨rfl, rfl⟩⟩
  | n :: l, s, distinct => by
    obtain ⟨out, distinct⟩ := List.nodup_cons.1 distinct
    obtain ⟨frame, read, others⟩ := foldl_stageOne o l (stageOne o s n) distinct
    have first := stageOne_readingFrame o s n
    refine ⟨first.trans frame, fun m mem => ?_, fun m notMem => ?_⟩
    · rcases List.mem_cons.1 mem with rfl | mem
      · exact (stageOne_loopRead o s m).of_after (others m out)
      · have other : m ≠ n := fun e => out (e ▸ mem)
        exact (read m mem).of_before first (stageOne_other o s other)
    · obtain ⟨other, notMem⟩ := not_or.1 (mt List.mem_cons.2 notMem)
      exact (stageOne_other o s other).trans (others m notMem)

/-! ### The steps that read -/

@[simp] theorem setStage_setStage (s : State) (o o' : Opening) (st st' : PassStage) :
    setStage (setStage s o st) o' st' = setStage s o' st' := rfl

theorem setStage_self {s : State} {o : Opening} {st : PassStage} (h : s.engine.visit = some ⟨o, st⟩) :
    setStage s o st = s := by
  simp only [setStage, ← h]

/-- Reading a loop neither looks at the stage of the pass nor changes it. -/
theorem stageOne_setStage (o : Opening) (s : State) (st : PassStage) (n : Fin 12) :
    stageOne o (setStage s o st) n = setStage (stageOne o s n) o st := by
  cases present : s.loops.get n with
  | none => rw [stageOne_absent present, stageOne_absent (s := setStage s o st) present]
  | some l =>
    by_cases serves : Servable s n l
    · rw [stageOne_serving present serves, stageOne_serving (s := setStage s o st) present serves]; rfl
    · rw [stageOne_idle present serves, stageOne_idle (s := setStage s o st) present serves]; rfl

theorem foldl_stageOne_setStage (o : Opening) (st : PassStage) (l : List (Fin 12)) (s : State) :
    l.foldl (stageOne o) (setStage s o st) = setStage (l.foldl (stageOne o) s) o st := by
  induction l generalizing s with
  | nil => rfl
  | cons n l ih => rw [List.foldl_cons, stageOne_setStage, ih, List.foldl_cons]

/-- The steps of a pass that reads its loops read them one after the other, and keep what later stages use of them. -/
theorem passSteps_read {o : Opening} {rest : List (Fin 12)} : ∀ (l : List (Fin 12)) (s : State) (readings : List LoopReading),
    l.Nodup → s.engine.visit = some ⟨o, .read (l ++ rest) readings⟩ →
    passSteps l.length s =
      setStage (l.foldl (stageOne o) s) o (.read rest (readings ++ l.flatMap (readingOf s)))
  | [], s, readings, _, visit => by
    rw [List.flatMap_nil, List.append_nil]
    exact (setStage_self visit).symm
  | n :: l, s, readings, distinct, visit => by
    obtain ⟨out, distinct⟩ := List.nodup_cons.1 distinct
    have kept : l.flatMap (readingOf (stageOne o s n)) = l.flatMap (readingOf s) := List.flatMap_congr fun m mem =>
      readingOf_congr (stageOne_readingFrame o s n) (stageOne_other o s fun e => out (e ▸ mem))
    have first : passStep s = setStage (stageOne o s n) o (.read (l ++ rest) (readings ++ readingOf s n)) :=
      passStep_of.1 n (l ++ rest) readings visit
    have later := passSteps_read l (passStep s) (readings ++ readingOf s n) distinct (by rw [first]; rfl)
    have same : readingOf (passStep s) = readingOf (stageOne o s n) := by rw [first]; rfl
    rw [same, kept, first, foldl_stageOne_setStage, setStage_setStage, List.append_assoc] at later
    rw [List.length_cons, passSteps, times, first, List.flatMap_cons, List.foldl_cons]
    exact later

end Sys2Proof.Machine
end

section
/-! Stages 3 to 6 of a pass: the grant, the allocations, the targets and the buffer (R62 to R70). -/

namespace Sys2Proof.Machine

open Sys2Proof

/-! ### Stage 3 -/

/-- The same station with another engine. -/
def State.withEngine (s : State) (e : Engine) : State := { s with engine := e }

theorem placeAlert_withEngine (s : State) (e : Engine) : placeAlert (s.withEngine e) = (placeAlert s).withEngine e := by
  unfold placeAlert
  rw [show (s.withEngine e).bus = s.bus from rfl]
  cases s.bus.placing <;> rfl

theorem raiseAlerts_withEngine (s : State) (l : List Frame) (e : Engine) :
    raiseAlerts (s.withEngine e) l = (raiseAlerts s l).withEngine e := by
  unfold raiseAlerts
  rw [show (s.withEngine e).bus = s.bus from rfl]
  dsimp only
  split
  · exact placeAlert_withEngine { s with bus := { s.bus with placing := s.bus.placing ++ l } } e
  · rfl

/-- A report neither reads nor changes the engine. -/
theorem report_withEngine (s : State) (f : FaultEvent) (e : Engine) :
    report (s.withEngine e) f = (report s f).withEngine e := by
  unfold report
  rw [show (s.withEngine e).recorder = s.recorder from rfl]
  dsimp only
  split
  · rfl
  · let recorded := { s with recorder := recordFault s.recorder f }
    exact raiseAlerts_withEngine
      { recorded with recorder := { recorded.recorder with
        slots := recorded.recorder.slots.map (pendAlert recorded.recorder f) } }
      ((List.finRange 4).filterMap (alertFor recorded f)) e

/-- The deficit spread gives each candidate at most one addition, in their order (R88). -/
theorem spread_loops : ∀ (remainder : Nat) (l : List Candidate), (spread remainder l).map (·.loop) = l.map (·.loop)
  | _, [] => rfl
  | _, c :: l => congrArg (c.loop :: ·) (spread_loops _ l)

theorem share_additions {station r fSrc fMin : Nat} {peers : List PeerView} {cands : List Candidate}
    (distinct : (cands.map (·.loop)).Nodup) :
    ((share station r fSrc fMin peers cands).additions.map (·.loop)).Nodup := by
  unfold share
  dsimp only
  split_ifs
  · exact List.nodup_nil
  · rw [spread_loops]; exact distinct
  · exact List.nodup_nil
  · exact List.nodup_nil

/-- The candidates stand in the order of the readings, each once. -/
theorem candidates_sublist (s : State) : ∀ readings : List LoopReading,
    ((candidates s readings).map (·.loop)).Sublist (readings.map (·.loop))
  | [] => .slnil
  | r :: readings => by
    have ih := candidates_sublist s readings
    unfold candidates at ih ⊢
    rw [List.filterMap_cons, List.map_cons]
    split
    · exact ih.cons _
    · rename_i c made
      have own : c.loop = r.loop := by
        split at made
        · split at made
          · obtain rfl := Option.some.inj made; rfl
          · cases made
        · cases made
      rw [List.map_cons, own]
      exact ih.cons_cons _

/-- What stage 3 makes of the requests. -/
theorem grantOf_made (s : State) (o : Opening) (readings : List LoopReading) :
    GrantMade s o readings (grantOf s readings (shareOf s o readings)) := by
  have cands : candidates s readings = readings.filterMap fun r => (s.loops.get r.loop).bind fun l =>
      if l.info.bypass ∧ r.profile.kind ≠ .off then some ⟨r.loop, (s.engine.loops.get r.loop).qReq, l.info.qMax⟩
      else none := by
    unfold candidates
    refine List.filterMap_congr fun r _ => ?_
    cases s.loops.get r.loop <;> rfl
  unfold GrantMade
  rw [← cands]
  exact ⟨rfl, rfl, rfl⟩

/-- What stage 3 reports (R88). -/
theorem bypassShort_reported (s : State) (sh : Share) (g : PassGrant) (deficit : g.work.deficit = sh.deficit)
    (duty : g.work.duty = sh.duty) (b : g.work.b = sh.b) : ShortReported s g (bypassShort s sh) := by
  unfold ShortReported bypassShort
  rw [deficit, duty, b]
  cases sh.deficit with
  | none => exact ⟨fun _ => ⟨rfl, rfl⟩, fun d h => by cases h⟩
  | some d =>
    refine ⟨fun carried => ?_, fun d' same holder short => ?_⟩
    · dsimp only
      rw [if_neg fun h => carried ⟨d, rfl, h⟩]
      exact ⟨rfl, rfl⟩
    · obtain rfl := Option.some.inj same
      dsimp only
      rw [if_pos ⟨holder, short⟩]
      exact ⟨rfl, rfl⟩

/-- Stage 3 in the engine of another stage. -/
theorem bypassShort_withEngine (s : State) (sh : Share) (e : Engine) :
    bypassShort (s.withEngine e) sh = (bypassShort s sh).withEngine e := by
  unfold bypassShort
  split
  · split
    · exact report_withEngine s _ e
    · rfl
  · rfl

theorem bypassShort_fault (s : State) (sh : Share) : FaultFrame s (bypassShort s sh) := by
  unfold bypassShort
  split
  · split
    · exact report_frame _ _
    · exact .refl s
  · exact .refl s

/-- The step of stage 3 changes the stage, and what its report touches. -/
theorem stageThree_eq (s : State) (o : Opening) (readings : List LoopReading) :
    let t := stageThree s o readings
    t = { s with
      engine := { s.engine with visit := some ⟨o, .allocate (grantOf s readings (shareOf s o readings)) readings⟩ }
      recorder := t.recorder
      bus := t.bus } := by
  obtain ⟨_, _, _, _, short⟩ := bypassShort_fault s (shareOf s o readings)
  simp only [stageThree, short]
  rfl

theorem stageThree_reported (s : State) (o : Opening) (readings : List LoopReading) :
    ShortReported s (grantOf s readings (shareOf s o readings)) (stageThree s o readings) :=
  bypassShort_reported s (shareOf s o readings) _ rfl rfl rfl

end Sys2Proof.Machine
end

section
/-! Stages 4 to 6 of a pass, loop by loop: allocation, target and buffer (R64 to R70). -/

namespace Sys2Proof.Machine

open Sys2Proof

/-! ### One loop -/

/-- What the engine holds of a loop once stage 4 has allocated (R64, R65). -/
def allocatedAs (g : PassGrant) (n : Fin 12) (e : EngineLoop) : EngineLoop :=
  let q := allocate e.qReq g.sum g.work.g g.work.b (additionOf g.additions n)
  { e with qAlloc := q, scaled := decide (q < e.qReq) }

theorem allocateLoop_eq (g : PassGrant) (s : State) (r : LoopReading) : allocateLoop g s r =
    { s with engine := { s.engine with
      loops := s.engine.loops.set r.loop (allocatedAs g r.loop (s.engine.loops.get r.loop)) } } := rfl

/-- A loop without two additions receives the one that it has, or none (R88). -/
theorem additionOf_eq_sum {n : Fin 12} : ∀ {additions : List Addition}, (additions.map (·.loop)).Nodup →
    additionOf additions n = ((additions.filter fun a => a.loop == n).map (·.flow)).sum
  | [], _ => rfl
  | a :: additions, distinct => by
    obtain ⟨out, distinct⟩ := List.nodup_cons.1 distinct
    by_cases own : a.loop = n
    · have rest : additions.filter (fun a => a.loop == n) = [] := List.filter_eq_nil_iff.2 fun b mem same =>
        out (List.mem_map.2 ⟨b, mem, (by simpa using same : b.loop = n).trans own.symm⟩)
      simp [additionOf, own, rest]
    · have ih := additionOf_eq_sum (n := n) distinct
      simpa [additionOf, own] using ih

theorem allocatedAs_allocated {g : PassGrant} (distinct : (g.additions.map (·.loop)).Nodup) (n : Fin 12) (e : EngineLoop) :
    LoopAllocated g n e (allocatedAs g n e) := by
  unfold LoopAllocated
  rw [← additionOf_eq_sum distinct]
  exact ⟨rfl, rfl⟩

/-- The target of stages 5 and 6, none where no valid table gives one (R66 to R69). -/
def targetOf (o : Opening) (s : State) (r : LoopReading) (l : Loop) (qAlloc : Nat) : Option Nat :=
  (validTable s l.info.valveType).bind fun v => slotTarget r.profile l.info v o.trim qAlloc r.stroke

theorem targetLoop_present {s : State} {r : LoopReading} {l : Loop} (present : s.loops.get r.loop = some l) (o : Opening) :
    let e := s.engine.loops.get r.loop
    let target := targetOf o s r l e.qAlloc
    targetLoop o s r = { s with engine := { s.engine with
      loops := s.engine.loops.set r.loop { e with lastTarget := target }
      buffer := s.engine.buffer.set r.loop target } } := by
  simp only [targetLoop, present, targetOf]
  cases validTable s l.info.valveType <;> rfl

theorem targetLoop_absent {s : State} {r : LoopReading} (absent : s.loops.get r.loop = none) (o : Opening) :
    targetLoop o s r = s := by
  simp [targetLoop, absent]

theorem targetOf_targeted {o : Opening} {s : State} {l : Loop} {v : ValveTable} (table : validTable s l.info.valveType = some v)
    (r : LoopReading) (qAlloc : Nat) : LoopTargeted o l v r qAlloc (targetOf o s r l qAlloc) := by
  unfold LoopTargeted
  rw [targetOf, table, Option.bind_some]
  refine ⟨fun off hold => ?_, fun off close => ?_, fun off park => ?_, fun on_ => ?_⟩
  · simp [slotTarget, off, hold]
  · simp [slotTarget, off, close]
  · simp [slotTarget, off, park]
  · simp [slotTarget, on_, trimmedFlow]

/-! ### Loop by loop -/

/-- Stages 4 to 6 of one loop. -/
def serveLoop (o : Opening) (g : PassGrant) (s : State) (r : LoopReading) : State := targetLoop o (allocateLoop g s r) r

/-- At most what the engine holds of the loops, and the buffer, differ: what stages 4 to 6 may change. -/
def ServingFrame (s u : State) : Prop :=
  ∃ held buffer, u = { s with engine := { s.engine with loops := held, buffer := buffer } }

theorem ServingFrame.refl (s : State) : ServingFrame s s := ⟨_, _, rfl⟩

theorem ServingFrame.trans {s t u : State} (h : ServingFrame s t) (k : ServingFrame t u) : ServingFrame s u := by
  obtain ⟨_, _, rfl⟩ := h
  obtain ⟨_, _, rfl⟩ := k
  exact ⟨_, _, rfl⟩

theorem ServingFrame.eq {s u : State} (h : ServingFrame s u) :
    u = { s with engine := { s.engine with loops := u.engine.loops, buffer := u.engine.buffer } } := by
  obtain ⟨_, _, rfl⟩ := h
  rfl

theorem targetLoop_servingFrame (o : Opening) (s : State) (r : LoopReading) : ServingFrame s (targetLoop o s r) := by
  cases present : s.loops.get r.loop with
  | none => rw [targetLoop_absent present]; exact .refl s
  | some l => rw [targetLoop_present present]; exact ⟨_, _, rfl⟩

theorem serveLoop_servingFrame (o : Opening) (g : PassGrant) (s : State) (r : LoopReading) :
    ServingFrame s (serveLoop o g s r) :=
  ServingFrame.trans ⟨_, _, allocateLoop_eq g s r⟩ (targetLoop_servingFrame o _ r)

/-- What the engine holds of loop `n`, and its slot of the buffer, are the same in both states. -/
def SameSlot (n : Fin 12) (s u : State) : Prop :=
  u.engine.loops.get n = s.engine.loops.get n ∧ u.engine.buffer.get n = s.engine.buffer.get n

theorem SameSlot.trans {n : Fin 12} {s t u : State} (h : SameSlot n s t) (k : SameSlot n t u) : SameSlot n s u :=
  ⟨k.1.trans h.1, k.2.trans h.2⟩

theorem allocateLoop_other (g : PassGrant) (s : State) {r : LoopReading} {n : Fin 12} (h : n ≠ r.loop) :
    SameSlot n s (allocateLoop g s r) := ⟨Tab.get_set_ne _ _ h.symm, rfl⟩

theorem targetLoop_other (o : Opening) (s : State) {r : LoopReading} {n : Fin 12} (h : n ≠ r.loop) :
    SameSlot n s (targetLoop o s r) := by
  cases present : s.loops.get r.loop with
  | none => rw [targetLoop_absent present]; exact ⟨rfl, rfl⟩
  | some l => rw [targetLoop_present present]; exact ⟨Tab.get_set_ne _ _ h.symm, Tab.get_set_ne _ _ h.symm⟩

theorem serveLoop_other (o : Opening) (g : PassGrant) (s : State) {r : LoopReading} {n : Fin 12} (h : n ≠ r.loop) :
    SameSlot n s (serveLoop o g s r) := (allocateLoop_other g s h).trans (targetLoop_other o _ h)

/-- What stages 4 to 6 leave of the loop of a reading that is present: its allocation, and its target in the buffer too. -/
def ServedAs (o : Opening) (g : PassGrant) (r : LoopReading) (s u : State) : Prop :=
  ∀ l, s.loops.get r.loop = some l →
    let given := allocatedAs g r.loop (s.engine.loops.get r.loop)
    let target := targetOf o s r l given.qAlloc
    u.engine.loops.get r.loop = { given with lastTarget := target } ∧ u.engine.buffer.get r.loop = target

theorem serveLoop_served (o : Opening) (g : PassGrant) (s : State) (r : LoopReading) :
    ServedAs o g r s (serveLoop o g s r) := by
  intro l present
  rw [serveLoop, targetLoop_present (s := allocateLoop g s r) present, allocateLoop_eq]
  simp only [Tab.get_set_self]
  exact ⟨rfl, rfl⟩

theorem ServedAs.of_before {o : Opening} {g : PassGrant} {r : LoopReading} {s s' u : State} (h : ServedAs o g r s' u)
    (frame : ServingFrame s s') (same : SameSlot r.loop s s') : ServedAs o g r s u := by
  obtain ⟨held, buffer, rfl⟩ := frame
  have engine : held.get r.loop = s.engine.loops.get r.loop := same.1
  dsimp only [ServedAs] at h ⊢
  rw [engine] at h
  exact h

theorem ServedAs.of_after {o : Opening} {g : PassGrant} {r : LoopReading} {s t u : State} (h : ServedAs o g r s t)
    (same : SameSlot r.loop t u) : ServedAs o g r s u := by
  obtain ⟨engine, slot⟩ := same
  dsimp only [ServedAs] at h ⊢
  rw [engine, slot]
  exact h

/-- The loops of a list served one after the other: each by what the engine holds of it before them all, and no other
changes. -/
theorem foldl_serveLoop (o : Opening) (g : PassGrant) : ∀ (l : List LoopReading) (s : State), (l.map (·.loop)).Nodup →
    ServingFrame s (l.foldl (serveLoop o g) s) ∧ (∀ r ∈ l, ServedAs o g r s (l.foldl (serveLoop o g) s)) ∧
    ∀ n, n ∉ l.map (·.loop) → SameSlot n s (l.foldl (serveLoop o g) s)
  | [], s, _ => ⟨.refl s, fun _ h => absurd h List.not_mem_nil, fun _ _ => ⟨rfl, rfl⟩⟩
  | r :: l, s, distinct => by
    obtain ⟨out, distinct⟩ := List.nodup_cons.1 distinct
    obtain ⟨frame, served, others⟩ := foldl_serveLoop o g l (serveLoop o g s r) distinct
    have first := serveLoop_servingFrame o g s r
    refine ⟨first.trans frame, fun r' mem => ?_, fun n notMem => ?_⟩
    · rcases List.mem_cons.1 mem with rfl | mem
      · exact (serveLoop_served o g s r').of_after (others r'.loop out)
      · have other : r'.loop ≠ r.loop := fun e => out (List.mem_map.2 ⟨r', mem, e⟩)
        exact (served r' mem).of_before first (serveLoop_other o g s other)
    · obtain ⟨other, notMem⟩ := not_or.1 (mt List.mem_cons.2 notMem)
      exact (serveLoop_other o g s other).trans (others n notMem)

/-! ### The steps that serve -/

theorem targetLoop_setStage (o : Opening) (s : State) (st : PassStage) (r : LoopReading) :
    targetLoop o (setStage s o st) r = setStage (targetLoop o s r) o st := by
  cases present : s.loops.get r.loop with
  | none => rw [targetLoop_absent present, targetLoop_absent (s := setStage s o st) present]
  | some l => rw [targetLoop_present present, targetLoop_present (s := setStage s o st) present]; rfl

/-- Two steps serve one loop. -/
theorem passSteps_serve (o : Opening) (g : PassGrant) (s : State) (r : LoopReading) (todo : List LoopReading) :
    passStep (passStep (setStage s o (.allocate g (r :: todo)))) = setStage (serveLoop o g s r) o (.allocate g todo) := by
  have four : passStep (setStage s o (.allocate g (r :: todo))) = setStage (allocateLoop g s r) o (.target g r todo) :=
    passStep_of.2.2.1 g r todo rfl
  have six : passStep (setStage (allocateLoop g s r) o (.target g r todo)) =
      setStage (targetLoop o (setStage (allocateLoop g s r) o (.target g r todo)) r) o (.allocate g todo) :=
    passStep_of.2.2.2.1 g r todo rfl
  rw [four, six, targetLoop_setStage, setStage_setStage, serveLoop]

/-- The steps from stage 4 to the end of the stages serve the loops one after the other. -/
theorem passSteps_allocate (o : Opening) (g : PassGrant) : ∀ (l : List LoopReading) (s : State),
    passSteps (2 * l.length + 1) (setStage s o (.allocate g l)) = endStages (l.foldl (serveLoop o g) s) g.work
  | [], s => (@passStep_of (setStage s o (.allocate g [])) o).2.2.2.2 g rfl
  | r :: l, s => by
    have later := passSteps_allocate o g l (serveLoop o g s r)
    rw [← passSteps_serve] at later
    exact later

/-- The end of stage 6 ends the pass's stages, and in FALLBACK fills the buffer. -/
theorem endStages_eq (s : State) (w : PassResult) : ∃ buffer,
    endStages s w = { s with engine := { s.engine with visit := none, work := some w, buffer := buffer } } ∧
    (s.loader.state ≠ .fallback → buffer = s.engine.buffer) ∧
    (s.loader.state = .fallback → FallbackBuffer s buffer) := by
  by_cases fallback : s.loader.state = .fallback
  · refine ⟨fallbackBuffer s, if_pos fallback, fun h => absurd fallback h, fun _ n => ?_⟩
    simp only [fallbackBuffer, Tab.get_map, channelUsable_iff]
  · exact ⟨s.engine.buffer, if_neg fallback, fun _ => rfl, fun h => absurd h fallback⟩

end Sys2Proof.Machine
end

section
/-! A pass from any of its readings to the end of its stages (R47 to R70). -/

namespace Sys2Proof.Machine

open Sys2Proof

/-! ### Stages 3 to 6 as a whole -/

/-- Once every loop has been read, as many steps as there are to make bring the pass through stages 3 to 6. -/
theorem passSteps_stages (o : Opening) (u : State) {readings : List LoopReading} {k : Nat}
    (many : 2 * readings.length + 2 ≤ k) :
    let sh := shareOf u o readings
    let g := grantOf u readings sh
    passSteps k (setStage u o (.read [] readings)) =
      endStages (readings.foldl (serveLoop o g) (bypassShort u sh)) g.work := by
  intro sh g
  obtain ⟨more, rfl⟩ := Nat.exists_eq_add_of_le many
  have three : passStep (setStage u o (.read [] readings)) = setStage (bypassShort u sh) o (.allocate g readings) := by
    refine (passStep_of.2.1 readings rfl).trans ?_
    have reported : bypassShort (setStage u o (.read [] readings)) sh =
        (bypassShort u sh).withEngine (setStage u o (.read [] readings)).engine := bypassShort_withEngine u sh _
    obtain ⟨_, _, _, _, short⟩ := bypassShort_fault u sh
    change setStage (bypassShort (setStage u o (.read [] readings)) sh) o (.allocate g readings) = _
    rw [reported, short]
    rfl
  have ended := passSteps_allocate o g readings (bypassShort u sh)
  have all : 2 * readings.length + 2 + more = 1 + (2 * readings.length + 1) + more := by omega
  rw [all, passSteps, times_add, times_add]
  change passSteps more (passSteps (2 * readings.length + 1) (passStep (setStage u o (.read [] readings)))) = _
  rw [three, ended]
  exact passSteps_of_none (endStages_visit _ _).1 more

theorem passSteps_passStages (o : Opening) (u : State) {readings : List LoopReading} {k : Nat}
    (many : 2 * readings.length + 2 ≤ k) (distinct : (readings.map (·.loop)).Nodup)
    (present : ∀ r ∈ readings, u.loops.get r.loop ≠ none) :
    PassStages u o readings (passSteps k (setStage u o (.read [] readings))) := by
  rw [passSteps_stages o u many]
  have made := grantOf_made u o readings
  have reported := bypassShort_reported u (shareOf u o readings) (grantOf u readings (shareOf u o readings)) rfl rfl rfl
  obtain ⟨recorder, bus, short⟩ : ∃ recorder bus,
      bypassShort u (shareOf u o readings) = { u with recorder := recorder, bus := bus } := by
    obtain ⟨recorder, _, _, _, e⟩ := bypassShort_fault u (shareOf u o readings)
    exact ⟨recorder, _, e⟩
  have additions : ((grantOf u readings (shareOf u o readings)).additions.map (·.loop)).Nodup :=
    share_additions ((candidates_sublist u readings).nodup distinct)
  rw [short] at reported ⊢
  generalize grantOf u readings (shareOf u o readings) = g at *
  obtain ⟨⟨held, buffer, frame⟩, served, others⟩ :=
    foldl_serveLoop o g readings { u with recorder := recorder, bus := bus } distinct
  rw [frame] at served others ⊢
  obtain ⟨full, ends, filled, fallback⟩ := endStages_eq { u with
    engine := { u.engine with loops := held, buffer := buffer }, recorder := recorder, bus := bus } g.work
  rw [ends]
  refine ⟨rfl, ⟨g, made, reported, rfl, fun r mem l v loop table => ?_⟩, fun n out => (others n out).1,
    fun normal n => ?_, fallback⟩
  · obtain ⟨engine, -⟩ := served r mem l loop
    dsimp only at engine ⊢
    rw [engine]
    exact ⟨rfl, allocatedAs_allocated additions r.loop _, targetOf_targeted table r _⟩
  · obtain rfl := filled normal
    split
    · obtain ⟨r, mem, rfl⟩ := List.mem_map.1 ‹n ∈ _›
      obtain ⟨l, loop⟩ := Option.ne_none_iff_exists'.1 (present r mem)
      obtain ⟨engine, slot⟩ := served r mem l loop
      dsimp only at engine slot ⊢
      rw [engine, slot]
    · exact (others n ‹_›).2

/-! ### The readings of a lawful pass -/

theorem mem_readingOf {s : State} {n : Fin 12} {r : LoopReading} (h : r ∈ readingOf s n) :
    r.loop = n ∧ s.loops.get n ≠ none := by
  cases present : s.loops.get n with
  | none => rw [readingOf_absent present] at h; cases h
  | some l =>
    by_cases serves : Servable s n l
    · rw [readingOf_serving present serves, List.mem_singleton] at h
      rw [h]
      exact ⟨rfl, Option.some_ne_none l⟩
    · rw [readingOf_idle present serves] at h; cases h

theorem readingOf_sublist (s : State) (n : Fin 12) : ((readingOf s n).map (·.loop)).Sublist [n] := by
  cases made : readingOf s n with
  | nil => exact List.nil_sublist _
  | cons r more =>
    have single := readingOf_length s n
    rw [made, List.length_cons] at single
    obtain rfl : more = [] := List.eq_nil_of_length_eq_zero (by omega)
    rw [List.map_singleton, (mem_readingOf (made ▸ List.mem_cons_self)).1]

/-- The readings of a list of loops stand in its order, each loop at most once. -/
theorem readings_sublist (s : State) : ∀ l : List (Fin 12), ((l.flatMap (readingOf s)).map (·.loop)).Sublist l
  | [] => .slnil
  | n :: l => by
    rw [List.flatMap_cons, List.map_append]
    exact (readingOf_sublist s n).append (readings_sublist s l)

/-- What a lawful pass has read, with what it has still to read: no loop twice, none but present loops, and few enough steps
to the end of the stages. -/
theorem PassLaw.readings {s : State} (law : PassLaw s) {o : Opening} {todo : List (Fin 12)} {readings : List LoopReading}
    (visit : s.engine.visit = some ⟨o, .read todo readings⟩) :
    let all := readings ++ todo.flatMap (readingOf s)
    todo.Nodup ∧ (all.map (·.loop)).Nodup ∧ todo.length + (2 * all.length + 2) ≤ 38 ∧
      ∀ r ∈ all, s.loops.get r.loop ≠ none := by
  obtain ⟨-, m, rfl, read, -⟩ := law.1 _ visit
  intro all
  have whole : (all.map (·.loop)).Sublist (List.finRange 12) := by
    have before : (readings.map (·.loop)).Sublist ((List.finRange 12).take m) := by rw [read]; exact List.filter_sublist
    have parts := before.append (readings_sublist s ((List.finRange 12).drop m))
    rw [List.take_append_drop, ← List.map_append] at parts
    exact parts
  have few := whole.length_le
  rw [List.length_map, List.length_finRange] at few
  refine ⟨(List.nodup_finRange 12).sublist (List.drop_sublist _ _), whole.nodup (List.nodup_finRange 12), ?_,
    fun r mem => ?_⟩
  · rw [List.length_drop, List.length_finRange]; omega
  · rcases List.mem_append.1 mem with mem | mem
    · have kept : r.loop ∈ readings.map (·.loop) := List.mem_map_of_mem mem
      rw [read, List.mem_filter, Bool.and_eq_true] at kept
      exact Option.isSome_iff_ne_none.1 kept.2.1
    · obtain ⟨n, -, mem⟩ := List.mem_flatMap.1 mem
      obtain ⟨rfl, present⟩ := mem_readingOf mem
      exact present

/-- A loop that has been read is as present as it was. -/
theorem LoopRead.present {s t : State} {o : Opening} {n : Fin 12} (h : LoopRead s o n t) (present : s.loops.get n ≠ none) :
    t.loops.get n ≠ none := by
  obtain ⟨-, idle, serving⟩ := h
  obtain ⟨l, loop⟩ := Option.ne_none_iff_exists'.1 present
  by_cases serves : Servable s n l
  · rw [(serving l loop serves).1]; exact Option.some_ne_none _
  · rw [(idle l loop serves).1]; exact Option.some_ne_none _

/-- From a lawful pass that reads its loops, 38 steps or more bring it through the stages. -/
theorem passSteps_all {s : State} (law : PassLaw s) {o : Opening} {todo : List (Fin 12)} {readings : List LoopReading}
    (visit : s.engine.visit = some ⟨o, .read todo readings⟩) {k : Nat} (many : 38 ≤ k) :
    PassStages (todo.foldl (stageOne o) s) o (readings ++ todo.flatMap (readingOf s)) (passSteps k s) := by
  obtain ⟨once, distinct, few, present⟩ := law.readings visit
  obtain ⟨-, read, others⟩ := foldl_stageOne o todo s once
  have reads := passSteps_read (rest := []) todo s readings once (by rw [List.append_nil]; exact visit)
  obtain ⟨more, rfl⟩ := Nat.exists_eq_add_of_le (show todo.length ≤ k by omega)
  rw [passSteps, times_add]
  change PassStages _ o _ (passSteps more (passSteps todo.length s))
  rw [reads]
  refine passSteps_passStages o _ (by omega) distinct fun r mem => ?_
  by_cases still : r.loop ∈ todo
  · exact (read _ still).present (present r mem)
  · rw [(others _ still).1]; exact present r mem

/-! ### The opening -/

/-- The pass reading changes the scanner, and what its report touches. -/
theorem takeReading_frame (s : State) : ∃ scanner, FaultFrame { s with scanner := scanner } (takeReading s) := by
  unfold takeReading
  dsimp only
  split
  · exact ⟨_, report_frame _ _⟩
  · exact ⟨_, .refl _⟩

/-- The opening restarts the timer and empties the buffer, and every loop is still to be read. -/
theorem openVisit_eq (s : State) : ∃ scanner recorder bus, openVisit s = { s with
    scanner := scanner
    engine := { s.engine with
      timer := some 30000, buffer := Tab.fill 12 none, visit := some ⟨openPass s, .read (List.finRange 12) []⟩ }
    recorder := recorder
    bus := bus } := by
  obtain ⟨scanner, recorder, _, _, _, e⟩ := takeReading_frame { s with engine := { s.engine with
    timer := some 30000, buffer := Tab.fill 12 none, visit := some ⟨openPass s, .read (List.finRange 12) []⟩ } }
  exact ⟨scanner, recorder, _, e⟩

/-- A pass that opens with no trim update and no results in progress keeps the law. -/
theorem openVisit_law {s : State} (work : s.engine.work = none) (update : s.valves.update = none) :
    PassLaw (openVisit s) := by
  obtain ⟨scanner, recorder, bus, e⟩ := openVisit_eq s
  rw [e]
  refine ⟨fun v visit => ?_, fun w some_ => ?_, fun busy => absurd update busy⟩
  · obtain rfl := Option.some.inj visit
    exact ⟨work, 0, rfl, rfl, fun n mem => absurd mem List.not_mem_nil⟩
  · cases work.symm.trans some_

/-- The expiry opens a pass, after the rest of a trim update, and makes a number of its steps that is free. -/
theorem exec_passTimerExpiry {s : State} {left : Nat} (timer : s.engine.timer = some left) (visit : s.engine.visit = none)
    (work : s.engine.work = none) : ∃ k, exec .passTimerExpiry s =
      .next { passSteps k (openVisit (elapse left (finishTrim s))) with cuts := s.cuts + 1 } := by
  have may : passMayBegin s = true := by simp [passMayBegin, timer, visit, work]
  have left_eq : passLeft s = left := by simp [passLeft, timer]
  have cuts : (openVisit (elapse left (finishTrim s))).cuts = s.cuts := by
    obtain ⟨_, _, _, opened⟩ := openVisit_eq (elapse left (finishTrim s))
    obtain ⟨_, _, _, _, _, _, trimmed⟩ := finishTrim_frame s
    rw [opened]
    refine (elapse_cuts (finishTrim s) left).trans ?_
    rw [trimmed]
  refine ⟨Config.freeCut s.cuts, ?_⟩
  simp only [exec, execPassTimerExpiry, may, if_true, beginPass, freePiece, piece, left_eq, cuts]

end Sys2Proof.Machine

open Sys2Proof Sys2Proof.Machine

/-- Settles O19: a pass reads its loops one after the other, then serves those in service one after the other; each step by
the stage that it finds. -/
theorem passVisitsEachPresentLoop : Obligations.PassVisitsEachPresentLoop := by
  unfold Obligations.PassVisitsEachPresentLoop
  refine ⟨fun s left timer visit work => ?_, fun s idle busy quiet => ?_, fun s n => ⟨readingOf_absent,
    fun l present out => readingOf_idle present out, fun l stroke present serves known => ?_⟩,
    fun s o todo readings k law visit => ?_, fun s o readings visit => ?_, fun s o g r todo law visit => ?_,
    fun s o g r todo visit => ?_, fun s o g visit => ?_⟩
  · obtain ⟨_, _, _, _, _, _, trimmed⟩ := finishTrim_frame s
    have idle : (elapse left (finishTrim s)).engine.work = none := by
      rw [elapse_engine_work, trimmed]; exact work
    have ended : (elapse left (finishTrim s)).valves.update = none := by
      rw [elapse_valves]; exact finishTrim_update s
    obtain ⟨_, _, _, opened⟩ := openVisit_eq (elapse left (finishTrim s))
    exact ⟨openVisit_law idle ended, by rw [opened], exec_passTimerExpiry timer visit work⟩
  · rw [step_of_idle idle]
    rcases tick_cases s with ⟨free, -⟩ | ⟨due, -⟩ | ⟨-, k, more, goes⟩
    · rw [busy] at free; cases free
    · exact absurd quiet due
    · rw [goes]
      exact ⟨k, more, by simp only [goOn, busy]; rfl⟩
  · rw [readingOf_serving present serves, known, Option.getD_some]
  · obtain ⟨once, -, few, -⟩ := law.readings visit
    obtain ⟨frame, read, others⟩ := foldl_stageOne o (todo.take k) s (once.sublist (List.take_sublist k todo))
    refine ⟨_, frame.eq, read, others, fun within => ?_, fun many => ?_⟩
    · have steps := passSteps_read (rest := todo.drop k) (todo.take k) s readings
        (once.sublist (List.take_sublist k todo)) (by rw [List.take_append_drop]; exact visit)
      rw [List.length_take, Nat.min_eq_left within] at steps
      exact steps
    · rw [List.take_of_length_le (by omega)]
      exact passSteps_all law visit many
  · rw [passStep_of.2.1 readings visit]
    exact ⟨_, stageThree_eq s o readings, grantOf_made s o readings, stageThree_reported s o readings⟩
  · obtain ⟨-, additions, -⟩ := law.1 _ visit
    rw [passStep_of.2.2.1 g r todo visit, allocateLoop_eq]
    simp only [setStage, Tab.get_set_self, true_and]
    exact ⟨rfl, allocatedAs_allocated additions r.loop _, fun n other => Tab.get_set_ne _ _ other.symm⟩
  · rw [passStep_of.2.2.2.1 g r todo visit]
    obtain ⟨_, _, frame⟩ := targetLoop_servingFrame o s r
    refine ⟨by rw [frame]; rfl, fun l v present table => ?_, fun n other => targetLoop_other o s other⟩
    rw [targetLoop_present present]
    simp only [setStage, Tab.get_set_self, true_and, and_true]
    exact targetOf_targeted table r _
  · rw [passStep_of.2.2.2.2 g visit]
    obtain ⟨buffer, ends, normal, fallback⟩ := endStages_eq s g.work
    rw [ends]
    exact ⟨rfl, normal, fallback⟩

end

section
/-! The values after power-on reset (R35, R50, R76, R97, R107, R127, R129, R139, R152, R159, R165, R167). -/

open Sys2Proof Sys2Proof.Machine

/-- Settles O3, block by block: the tables of equal entries by what they are filled with, the rest by its value. -/
theorem powerOnValuesOfTheTables : Obligations.PowerOnValuesOfTheTables := by
  unfold Obligations.PowerOnValuesOfTheTables
  have kinds : ∀ k : Fin 16, State.reset.recorder.kinds.get k =
      { status := false
        masked := decide (k = 10)
        severity :=
          if k = 9 ∨ k = 13 then .serious
          else if k = 0 ∨ k = 2 ∨ k = 3 ∨ k = 5 then .degraded
          else .advisory } := by decide
  have programs (p : Prog) : instanceOf State.reset p = ⟨.idle, none, 0, ⟨0, 0⟩, []⟩ := by cases p <;> rfl
  exact ⟨rfl, rfl, rfl, rfl, Tab.get_fill none, rfl, Tab.get_fill Channel.reset, rfl, Tab.get_fill none, rfl, rfl, rfl,
    rfl, Tab.get_fill none, rfl, rfl, Tab.get_fill EngineLoop.reset, rfl, Tab.get_fill 0, rfl, rfl, rfl,
    Tab.get_fill Probe.reset, rfl, rfl, programs, rfl, rfl, kinds, rfl, rfl, rfl,
    Tab.get_fill (⟨0, 0, false, false, none⟩ : AlertSlot), rfl⟩

end

section
/-! The linearisation of a conversion's code (R37). -/

namespace Sys2Proof.Machine

open Sys2Proof

/-- How far the temperature falls from point `k` to the next. -/
def probeFall (k : Nat) : Nat := (probeTable.getD k 0 - probeTable.getD (k + 1) 0).toNat

/-- The table falls from each point to the next. -/
theorem probeTable_next : ∀ k < 32, probeTable.getD (k + 1) 0 = probeTable.getD k 0 - probeFall k ∧ 0 < probeFall k := by
  decide

theorem probeTable_antitone {j k : Nat} (le : j ≤ k) (inside : k ≤ 32) : probeTable.getD k 0 ≤ probeTable.getD j 0 := by
  induction k, le using Nat.le_induction with
  | base => exact le_refl _
  | succ k _ ih =>
    obtain ⟨next, -⟩ := probeTable_next k (by omega)
    have := ih (by omega)
    omega

/-- Within an interval the temperature falls by the share of the interval that the code has passed, truncated. -/
theorem linearise_eq {k d : Nat} (interval : k < 32) (inside : d < 122) :
    linearise (96 + 122 * k + d) = probeTable.getD k 0 - (probeFall k * d / 122 : Nat) := by
  have index : (96 + 122 * k + d - 96) / 122 = k := by omega
  have offset : 96 + 122 * k + d - (96 + 122 * k) = d := by omega
  obtain ⟨next, -⟩ := probeTable_next k interval
  have fall : (probeTable.getD k 0 - probeFall k - probeTable.getD k 0) * (d : Int) =
      -((probeFall k * d : Nat) : Int) := by push_cast; ring
  simp only [linearise, index, offset, next, fall, Int.neg_tdiv]
  rw [← Int.sub_eq_add_neg, Int.ofNat_tdiv]
  rfl

/-- A code lies in one interval of the table. -/
theorem code_interval {x : Nat} (low : 96 ≤ x) (high : x ≤ 3999) :
    ∃ k d, k < 32 ∧ d < 122 ∧ x = 96 + 122 * k + d ∧ (x - 96) / 122 = k :=
  ⟨(x - 96) / 122, (x - 96) % 122, by omega, by omega, by omega, rfl⟩

/-- The temperature of a code in interval `k` lies above that of the next point and at or below that of point `k`. -/
theorem linearise_bounds {k d : Nat} (interval : k < 32) (inside : d < 122) :
    probeTable.getD (k + 1) 0 < linearise (96 + 122 * k + d) ∧ linearise (96 + 122 * k + d) ≤ probeTable.getD k 0 := by
  obtain ⟨next, falls⟩ := probeTable_next k interval
  have part : probeFall k * d / 122 < probeFall k :=
    Nat.div_lt_of_lt_mul (by rw [Nat.mul_comm 122]; exact Nat.mul_lt_mul_of_pos_left inside falls)
  rw [linearise_eq interval inside, next]
  omega

end Sys2Proof.Machine

open Sys2Proof Sys2Proof.Machine

/-- Settles O15: the bounds of each interval order the codes of different intervals, and the share passed those of one. -/
theorem linearisationFallsThroughTheTable : Obligations.LinearisationFallsThroughTheTable := by
  unfold Obligations.LinearisationFallsThroughTheTable
  refine ⟨fun x low high => ?_, fun k inside => ?_, fun x y low le high => ?_⟩
  · obtain ⟨k, d, interval, inside, rfl, index⟩ := code_interval low high
    simp only [index]
    exact ⟨by omega, linearise_bounds interval inside⟩
  · have point := linearise_eq (show k < 32 by omega) (show 0 < 122 by omega)
    simpa using point
  · obtain ⟨j, d, intervalX, insideX, rfl, -⟩ := code_interval low (le.trans high)
    obtain ⟨k, e, intervalY, insideY, rfl, -⟩ := code_interval (low.trans le) high
    rcases Nat.lt_or_ge j k with before | after
    · have above := (linearise_bounds intervalX insideX).1
      have below := (linearise_bounds intervalY insideY).2
      have points := probeTable_antitone (show j + 1 ≤ k from before) (by omega)
      omega
    · obtain rfl : j = k := by omega
      rw [linearise_eq intervalX insideX, linearise_eq intervalY insideY]
      have share : probeFall j * d / 122 ≤ probeFall j * e / 122 :=
        Nat.div_le_div_right (Nat.mul_le_mul_left _ (by omega))
      omega

end

section
/-! SAMPLE_EVENT: what a conversion makes of its probe channel (R36 to R40). -/

namespace Sys2Proof.Machine

open Sys2Proof

/-! ### The class of a code (R36) -/

/-- The codes of R36 that are out of range. -/
def OutOfRange (code : Nat) : Prop := code < 96 ∨ 4000 ≤ code

/-- The cause of an out-of-range code (R36). -/
def causeOf (code : Nat) : ProbeCause := if 4000 ≤ code then .open else .shorted

theorem classify_inRange {code : Nat} (low : 96 ≤ code) (high : code ≤ 3999) :
    classify code = .inRange (linearise code) := by
  rw [classify, if_neg (by omega), if_neg (by omega)]

theorem classify_out {code : Nat} (out : OutOfRange code) : classify code = .out (causeOf code) := by
  unfold classify causeOf
  rcases out with low | high
  · rw [if_neg (by omega), if_pos (by omega), if_neg (by omega)]
  · rw [if_pos high, if_pos high]

theorem probeFault_out {code : Nat} (out : OutOfRange code) (n : Fin 14) :
    probeFault n code = ⟨.probeFault, n.val + 1, if 4000 ≤ code then 1 else 2, code, none⟩ := by
  simp only [probeFault, classify_out out, causeOf]
  split <;> rfl

/-! ### A GOOD channel (R38, R39) -/

section
variable {p : Probe} {code : Nat}

/-- The list and the filter follow an in-range sample (R38). -/
theorem sampled_good (good : p.state = .good) (low : 96 ≤ code) (high : code ≤ 3999) :
    let joined := joinFour p.samples (linearise code)
    sampled p code =
      ({ p with lastCode := some code, samples := joined, outRun := 0, filtered := some (mean joined) }, false) := by
  simp [sampled, classify_inRange low high, good]

/-- The first and the second out-of-range sample of a run (R39). -/
theorem sampled_good_run (good : p.state = .good) (out : OutOfRange code) (run : p.outRun < 2) :
    sampled p code =
      ({ p with lastCode := some code, lastCause := some (causeOf code), outRun := p.outRun + 1 }, false) := by
  simp [sampled, classify_out out, good, show ¬ 3 ≤ p.outRun + 1 by omega]

/-- The third out-of-range sample of a run (R39). -/
theorem sampled_good_held (good : p.state = .good) (out : OutOfRange code) (run : 2 ≤ p.outRun) :
    sampled p code =
      ({ p with
        state := .held, lastCode := some code, lastCause := some (causeOf code), samples := [], held := p.filtered,
        filtered := none, outRun := 0, holdCount := 0 }, true) := by
  simp [sampled, classify_out out, good, show 3 ≤ p.outRun + 1 by omega]

/-! ### A channel in recovery or at its start (R40) -/

/-- The states in which a channel counts a recovery run. -/
def Recovering (p : Probe) : Prop := p.state = .starting ∨ p.state = .held ∨ p.state = .failed

theorem sampled_recovered (recovering : Recovering p) (low : 96 ≤ code) (high : code ≤ 3999) (run : 2 ≤ p.samples.length) :
    let joined := p.samples ++ [linearise code]
    sampled p code =
      ({ p with
        state := .good, lastCode := some code, samples := joined, held := none, outRun := 0, holdCount := 0,
        filtered := some (mean joined) }, false) := by
  rcases recovering with state | state | state <;> simp [sampled, classify_inRange low high, state, run]

theorem sampled_recovering (recovering : Recovering p) (low : 96 ≤ code) (high : code ≤ 3999) (run : p.samples.length < 2) :
    sampled p code =
      ({ p with lastCode := some code, samples := p.samples ++ [linearise code], outRun := 0 }, false) := by
  have short : ¬ 2 ≤ p.samples.length := by omega
  rcases recovering with state | state | state <;> simp [sampled, classify_inRange low high, state, short]

/-- An out-of-range sample breaks the recovery run of a HELD or FAILED channel. -/
theorem sampled_broken (recovering : Recovering p) (started : p.state ≠ .starting) (out : OutOfRange code) :
    sampled p code =
      ({ p with lastCode := some code, lastCause := some (causeOf code), samples := [] }, false) := by
  rcases recovering with state | state | state
  · exact absurd state started
  · simp [sampled, classify_out out, state]
  · simp [sampled, classify_out out, state]

theorem sampled_starting_run (starting : p.state = .starting) (out : OutOfRange code) (run : p.outRun < 2) :
    sampled p code =
      ({ p with
        lastCode := some code, lastCause := some (causeOf code), samples := [], outRun := p.outRun + 1 }, false) := by
  simp [sampled, classify_out out, starting, show ¬ 3 ≤ p.outRun + 1 by omega]

/-- The third out-of-range sample of a start (R40, assumption 27). -/
theorem sampled_starting_failed (starting : p.state = .starting) (out : OutOfRange code) (run : 2 ≤ p.outRun) :
    sampled p code =
      ({ p with
        state := .failed, lastCode := some code, lastCause := some (causeOf code), samples := [],
        outRun := p.outRun + 1 }, true) := by
  simp [sampled, classify_out out, starting, show 3 ≤ p.outRun + 1 by omega]

end

/-! ### The command -/

/-- The scanner's round once the channel that it has reached has been converted. -/
def converted (s : State) (later : List (Fin 14)) : State := { s with scanner := { s.scanner with round := later } }

section
variable {s : State} {n : Fin 14} {code : BitVec 12} {later : List (Fin 14)} {p : Probe}

theorem exec_sampleEvent (reached : s.scanner.round = n :: later) :
    exec (.sampleEvent n code) s = .next (takeSample (converted s later) n code.toNat) := by
  simp only [exec, execSampleEvent, reached, if_true, converted]

/-- A sample without a fault changes its channel alone. -/
theorem exec_sampleEvent_quiet (reached : s.scanner.round = n :: later)
    (quiet : sampled (s.scanner.probes.get n) code.toNat = (p, false)) :
    exec (.sampleEvent n code) s = .next (setProbe (converted s later) n p) := by
  rw [exec_sampleEvent reached]
  simp only [takeSample, show (converted s later).scanner.probes = s.scanner.probes from rfl, quiet, Bool.false_eq_true,
    if_false]

/-- A sample with a fault changes its channel, and then reports. -/
theorem exec_sampleEvent_fault (reached : s.scanner.round = n :: later) (out : OutOfRange code.toNat)
    (fault : sampled (s.scanner.probes.get n) code.toNat = (p, true)) :
    exec (.sampleEvent n code) s = .next (report (setProbe (converted s later) n p)
      ⟨.probeFault, n.val + 1, if 4000 ≤ code.toNat then 1 else 2, code.toNat, none⟩) := by
  rw [exec_sampleEvent reached, ← probeFault_out out]
  simp only [takeSample, show (converted s later).scanner.probes = s.scanner.probes from rfl, fault, if_true]

end

end Sys2Proof.Machine

open Sys2Proof Sys2Proof.Machine

/-- Settles O16, by the channel's state and the class of the code: what the sample makes of the channel, and whether it
reports. -/
theorem samplesMoveTheProbe : Obligations.SamplesMoveTheProbe := by
  unfold Obligations.SamplesMoveTheProbe
  refine ⟨fun s n code later reached good => ⟨fun low high => ?_, fun out run => ?_, fun out run => ?_⟩,
    fun s n code later reached recovering => ⟨fun low high run => ?_, fun low high run => ?_, fun out started => ?_,
      fun out starting run => ?_, fun out starting run => ?_⟩⟩
  · rw [exec_sampleEvent_quiet reached (sampled_good good low high), joinFour, List.drop_one]
    rfl
  · exact exec_sampleEvent_quiet reached (sampled_good_run good out run)
  · exact exec_sampleEvent_fault reached out (sampled_good_held good out run)
  · exact exec_sampleEvent_quiet reached (sampled_recovered recovering low high run)
  · exact exec_sampleEvent_quiet reached (sampled_recovering recovering low high run)
  · exact exec_sampleEvent_quiet reached (sampled_broken recovering started out)
  · exact exec_sampleEvent_quiet reached (sampled_starting_run starting out run)
  · exact exec_sampleEvent_fault reached out (sampled_starting_failed starting out run)

end

section
/-! The opening of a pass: what it reads of the probes, and what the reading reports (R41, R44, R47). -/

namespace Sys2Proof.Machine

open Sys2Proof

/-! ### What a report reads -/

theorem placeAlert_bus {s t : State} (bus : s.bus = t.bus) : (placeAlert s).bus = (placeAlert t).bus := by
  unfold placeAlert
  rw [bus]
  split
  · exact bus
  · simp only [placeFrame]

theorem raiseAlerts_bus {s t : State} (bus : s.bus = t.bus) (l : List Frame) :
    (raiseAlerts s l).bus = (raiseAlerts t l).bus := by
  unfold raiseAlerts
  rw [bus]
  dsimp only
  split
  · exact placeAlert_bus rfl
  · rfl

theorem offerAlerts_bus {s t : State} (recorder : s.recorder = t.recorder) (bus : s.bus = t.bus)
    (loader : s.loader = t.loader) (e : FaultEvent) : (offerAlerts s e).bus = (offerAlerts t e).bus := by
  have alerts : alertFor s e = alertFor t e := by
    funext slot
    simp only [alertFor, alertFrame, ownAddress, stationNumber, loader, recorder]
  unfold offerAlerts
  rw [alerts]
  exact raiseAlerts_bus (by exact bus) _

/-- What a report makes of the bus is read off recorder, bus and loader. -/
theorem report_bus_congr {s t : State} (recorder : s.recorder = t.recorder) (bus : s.bus = t.bus)
    (loader : s.loader = t.loader) (e : FaultEvent) : (report s e).bus = (report t e).bus := by
  unfold report
  rw [recorder]
  dsimp only
  split
  · exact bus
  · exact offerAlerts_bus (by rfl) (by exact bus) (by exact loader) e

theorem report_eq (s : State) (e : FaultEvent) :
    report s e = { s with recorder := (report s e).recorder, bus := (report s e).bus } := by
  obtain ⟨_, _, _, _, h⟩ := report_frame s e
  rw [h]

/-- A report neither reads nor changes scanner and engine. -/
theorem report_reading (s : State) (e : FaultEvent) (sc : Scanner) (en : Engine) :
    report { s with scanner := sc, engine := en } e = { report s e with scanner := sc, engine := en } := by
  have recorder := report_recorder_congr (s := { s with scanner := sc, engine := en }) (t := s) rfl e
  have bus := report_bus_congr (s := { s with scanner := sc, engine := en }) (t := s) rfl rfl rfl e
  refine (report_eq _ e).trans ?_
  rw [recorder, bus]
  exact congrArg (fun t : State => { t with scanner := sc, engine := en }) (report_eq s e).symm

/-! ### The check of probe M (R44) -/

/-- Without a value of M, or without a GOOD return, the flag stands. -/
theorem plausibility_unjudged {s : State}
    (h : (s.scanner.probes.get 13).state ≠ .good ∨ (s.scanner.probes.get 13).filtered = none ∨ goodReturns s = []) :
    (plausibility s).1 = s.scanner.implausible := by
  unfold plausibility
  dsimp only
  split
  · rename_i good value
    rcases h with h | h | h
    · exact absurd good h
    · rw [value] at h; cases h
    · simp [h]
  · rfl

theorem plausibility_judged {s : State} {m : Int} (good : (s.scanner.probes.get 13).state = .good)
    (value : (s.scanner.probes.get 13).filtered = some m) (returns : goodReturns s ≠ []) :
    plausibility s = ((goodReturns s).all fun r => decide (1000 < (m - r).natAbs), m) := by
  simp [plausibility, good, value, returns]

/-- The reading sets the flag, which was clear. -/
def FlagSet (s : State) : Prop := (plausibility s).1 = true ∧ s.scanner.implausible = false

/-- A flag that is set has been judged by the value of M. -/
theorem FlagSet.value {s : State} (h : FlagSet s) : (plausibility s).2 = (s.scanner.probes.get 13).filtered.getD 0 := by
  obtain ⟨set, clear⟩ := h
  have judged : ¬ ((s.scanner.probes.get 13).state ≠ .good ∨ (s.scanner.probes.get 13).filtered = none ∨
      goodReturns s = []) := fun h => by
    rw [plausibility_unjudged h, clear] at set; cases set
  rw [not_or, not_or, not_not] at judged
  obtain ⟨good, some_, returns⟩ := judged
  obtain ⟨m, value⟩ := Option.ne_none_iff_exists'.1 some_
  rw [plausibility_judged good value returns, value, Option.getD_some]

/-- Probe M is judged by the GOOD returns of the present loops. -/
theorem goodReturns_congr {s t : State} (present : ∀ n, loopPresent t n = loopPresent s n)
    (probes : t.scanner.probes = s.scanner.probes) : goodReturns t = goodReturns s := by
  simp only [goodReturns, presentLoops, probes, funext present]

theorem loopPresent_elapse (d : Nat) (s : State) (n : Fin 12) : loopPresent (elapse d s) n = loopPresent s n := by
  have same := congrArg Option.isSome (elapse_loop s d n)
  simpa [loopPresent] using same

/-- The state in which a pass opens: the rest of a trim update made, and the time passed to the expiry. -/
def atExpiry (left : Nat) (s : State) : State := elapse left (finishTrim s)

theorem atExpiry_scanner (left : Nat) (s : State) : (atExpiry left s).scanner.probes = s.scanner.probes ∧
    (atExpiry left s).scanner.implausible = s.scanner.implausible ∧
    (atExpiry left s).scanner.round = s.scanner.round := by
  obtain ⟨_, _, _, _, _, _, trimmed⟩ := finishTrim_frame s
  unfold atExpiry
  rw [elapse_scanner_probes, elapse_scanner_implausible, elapse_scanner_round, trimmed]
  exact ⟨rfl, rfl, rfl⟩

theorem loopPresent_atExpiry (left : Nat) (s : State) (n : Fin 12) :
    loopPresent (atExpiry left s) n = loopPresent s n := by
  obtain ⟨_, _, _, _, _, _, trimmed⟩ := finishTrim_frame s
  rw [atExpiry, loopPresent_elapse, trimmed]
  rfl

theorem goodReturns_atExpiry (left : Nat) (s : State) : goodReturns (atExpiry left s) = goodReturns s :=
  goodReturns_congr (loopPresent_atExpiry left s) (atExpiry_scanner left s).1

/-! ### The hold counts (R41) -/

theorem countHold_other {p : Probe} (h : p.state ≠ .held) : countHold p = p := by
  unfold countHold
  split
  · exact absurd ‹_› h
  · rfl

theorem countHold_early {p : Probe} (held : p.state = .held) (early : p.holdCount < 9) :
    countHold p = { p with holdCount := p.holdCount + 1 } := by
  simp [countHold, held, show ¬ 10 ≤ p.holdCount + 1 by omega]

theorem countHold_tenth {p : Probe} (held : p.state = .held) (tenth : 9 ≤ p.holdCount) :
    countHold p = { p with state := .failed, held := none, holdCount := 10 } := by
  simp [countHold, held, show 10 ≤ p.holdCount + 1 by omega]

/-! ### The opening as a whole -/

/-- PROBE_FAULT of an implausible probe M (R44). -/
def implausibleFault (m : Int) : FaultEvent := ⟨.probeFault, 14, 3, m, none⟩

/-- The scanner after a pass reading. -/
def readScanner (s : State) : Scanner :=
  { s.scanner with probes := s.scanner.probes.map countHold, implausible := (plausibility s).1 }

/-- The engine as the opening leaves it. -/
def openedEngine (s : State) : Engine :=
  { s.engine with
    timer := some 30000, buffer := Tab.fill 12 none, visit := some ⟨openPass s, .read (List.finRange 12) []⟩ }

theorem openVisit_of_flagSet {s : State} (h : FlagSet s) : openVisit s =
    { report s (implausibleFault ((s.scanner.probes.get 13).filtered.getD 0)) with
      scanner := readScanner s, engine := openedEngine s } := by
  rw [← h.value, ← report_reading]
  obtain ⟨set, clear⟩ := h
  have opened : plausibility { s with engine := openedEngine s } = plausibility s := rfl
  have fault : ((plausibility { s with engine := openedEngine s }).1 && !s.scanner.implausible) = true := by
    rw [opened, set, clear]; rfl
  exact if_pos fault

theorem openVisit_of_flagStands {s : State} (h : ¬ FlagSet s) : openVisit s =
    { s with scanner := readScanner s, engine := openedEngine s } := by
  refine if_neg fun fault => h ?_
  obtain ⟨set, clear⟩ := (Bool.and_eq_true _ _).mp fault
  exact ⟨set, by simpa using clear⟩

/-- What the opening makes of the scanner, whether it reports or not. -/
theorem openVisit_scanner (s : State) : (openVisit s).scanner = readScanner s := by
  by_cases h : FlagSet s
  · rw [openVisit_of_flagSet h]
  · rw [openVisit_of_flagStands h]

end Sys2Proof.Machine
end

section
/-! What a pass keeps from its opening to its close (R49), and what the recorder keeps of a trim update. -/

namespace Sys2Proof.Machine

open Sys2Proof

/-- What every step of a pass keeps: the timer and what the last close handed on; of the loops all but their history-stale
flags, which may fall; of the recorder what faults leave. -/
structure PassKeeps (s t : State) : Prop where
  timer : t.engine.timer = s.engine.timer
  result : t.engine.result = s.engine.result
  demands : t.engine.demands = s.engine.demands
  sourceSeen : t.engine.sourceSeen = s.engine.sourceSeen
  absent : ∀ n, s.loops.get n = none → t.loops.get n = none
  present : ∀ n l, s.loops.get n = some l →
    ∃ stale, t.loops.get n = some { l with stale := stale } ∧ (stale = true → l.stale = true)
  recorder : RecorderGrows s.recorder t.recorder

theorem PassKeeps.trans {s t u : State} (h : PassKeeps s t) (k : PassKeeps t u) : PassKeeps s u where
  timer := k.timer.trans h.timer
  result := k.result.trans h.result
  demands := k.demands.trans h.demands
  sourceSeen := k.sourceSeen.trans h.sourceSeen
  absent n none_ := k.absent n (h.absent n none_)
  present n l some_ := by
    obtain ⟨_, there, falls⟩ := h.present n l some_
    obtain ⟨stale, later, falls'⟩ := k.present n _ there
    exact ⟨stale, later, fun set => falls (falls' set)⟩
  recorder := h.recorder.trans k.recorder

/-- Where the loops stand, and of engine and recorder no more changes than this, a step keeps what a pass keeps. -/
theorem PassKeeps.of_loops {s t : State} (timer : t.engine.timer = s.engine.timer)
    (result : t.engine.result = s.engine.result) (demands : t.engine.demands = s.engine.demands)
    (sourceSeen : t.engine.sourceSeen = s.engine.sourceSeen) (loops : t.loops = s.loops)
    (recorder : RecorderGrows s.recorder t.recorder) : PassKeeps s t where
  timer := timer
  result := result
  demands := demands
  sourceSeen := sourceSeen
  absent n none_ := by rw [loops]; exact none_
  present n l some_ := ⟨l.stale, by rw [loops]; exact some_, id⟩
  recorder := recorder

theorem PassKeeps.refl (s : State) : PassKeeps s s := .of_loops rfl rfl rfl rfl rfl (.refl _)

theorem ServingFrame.passKeeps {s t : State} (h : ServingFrame s t) : PassKeeps s t := by
  obtain ⟨_, _, rfl⟩ := h
  exact .of_loops rfl rfl rfl rfl rfl (.refl _)

theorem setStage_passKeeps (s : State) (o : Opening) (st : PassStage) : PassKeeps s (setStage s o st) :=
  .of_loops rfl rfl rfl rfl rfl (.refl _)

/-- Stages 1 and 2 let the history-stale flag of their loop fall, and change no other loop. -/
theorem stageOne_passKeeps (o : Opening) (s : State) (n : Fin 12) : PassKeeps s (stageOne o s n) := by
  cases present : s.loops.get n with
  | none => rw [stageOne_absent present]; exact .refl s
  | some l =>
    by_cases serves : Servable s n l
    · rw [stageOne_serving present serves]
      refine ⟨rfl, rfl, rfl, rfl, fun m none_ => ?_, fun m k some_ => ?_, .refl _⟩
      · have other : n ≠ m := fun e => by rw [← e, present] at none_; cases none_
        exact (Tab.get_set_ne _ _ other).trans none_
      · by_cases own : n = m
        · subst own
          obtain rfl := Option.some.inj (present.symm.trans some_)
          exact ⟨_, Tab.get_set_self _ _ _, fun set => ((Bool.and_eq_true _ _).mp set).1⟩
        · exact ⟨k.stale, (Tab.get_set_ne _ _ own).trans some_, id⟩
    · rw [stageOne_idle present serves]
      exact .of_loops rfl rfl rfl rfl rfl (.refl _)

theorem bypassShort_passKeeps (s : State) (sh : Share) : PassKeeps s (bypassShort s sh) := by
  have grows : RecorderGrows s.recorder (bypassShort s sh).recorder := by
    unfold bypassShort
    split
    · split
      · exact report_grows s _
      · exact .refl _
    · exact .refl _
  obtain ⟨_, _, _, _, e⟩ := bypassShort_fault s sh
  rw [e] at grows ⊢
  exact .of_loops rfl rfl rfl rfl rfl grows

theorem endStages_passKeeps (s : State) (w : PassResult) : PassKeeps s (endStages s w) := by
  obtain ⟨_, e, -⟩ := endStages_eq s w
  rw [e]
  exact .of_loops rfl rfl rfl rfl rfl (.refl _)

/-- Every step keeps it, by the stage. -/
theorem passStep_keeps (s : State) : PassKeeps s (passStep s) := by
  unfold passStep
  split
  · exact .refl s
  · exact (stageOne_passKeeps _ s _).trans (setStage_passKeeps _ _ _)
  · exact (bypassShort_passKeeps s _).trans (setStage_passKeeps _ _ _)
  · exact (ServingFrame.passKeeps ⟨_, _, allocateLoop_eq _ s _⟩).trans (setStage_passKeeps _ _ _)
  · exact (targetLoop_servingFrame _ s _).passKeeps.trans (setStage_passKeeps _ _ _)
  · exact endStages_passKeeps s _

theorem passSteps_keep (k : Nat) (s : State) : PassKeeps s (passSteps k s) := times_frame .refl .trans passStep_keeps k s

/-- The scanner is the opening's. -/
theorem passSteps_scanner (k : Nat) (s : State) : (passSteps k s).scanner = s.scanner := (passSteps_frame k s).work.scanner

theorem trimStep_grows (s : State) : RecorderGrows s.recorder (trimStep s).recorder := by
  unfold trimStep
  split
  · exact .refl _
  · exact .refl _
  · have reported (v m) (e : FaultEvent) : RecorderGrows s.recorder (report { s with meter := m, valves := v } e).recorder :=
      report_grows { s with meter := m, valves := v } e
    unfold measureTrim
    dsimp only
    split
    · exact reported _ _ _
    · exact .refl _
  · exact .refl _

theorem finishTrim_grows (s : State) : RecorderGrows s.recorder (finishTrim s).recorder :=
  times_frame (R := fun s t => RecorderGrows s.recorder t.recorder) (fun _ => .refl _) .trans trimStep_grows 3 s

end Sys2Proof.Machine
end

section
/-! SCAN_ROUND, and the pass whose reading counts a hold (R34, R41, R44). -/

namespace Sys2Proof.Machine

open Sys2Proof

/-! ### The scan round (R34) -/

/-- A round names channels 13 and 14, and those of the present loops. -/
theorem mem_scanList {loops : Tab 12 (Option Loop)} {n : Fin 14} :
    n ∈ scanList loops ↔ 12 ≤ n.val ∨ ∃ h : n.val < 12, (loops.get ⟨n.val, h⟩).isSome = true := by
  rw [scanList, List.mem_filter, and_iff_right (List.mem_finRange n), probeUsed]
  split
  · rename_i loop
    exact ⟨fun used => .inr ⟨loop, used⟩, fun h => h.elim (by omega) fun ⟨_, used⟩ => used⟩
  · rename_i above
    exact ⟨fun _ => .inl (by omega), fun _ => rfl⟩

/-- A round goes through its channels in channel order. -/
theorem scanList_ordered (loops : Tab 12 (Option Loop)) : (scanList loops).Pairwise (· < ·) :=
  (List.pairwise_lt_finRange 14).filter _

theorem exec_scanRound {s : State} {left : Nat} (timer : s.scanner.timer = some left) :
    exec .scanRound s = .next (beginRound (elapse left s)) := by
  simp [exec, execScanRound, scanLeft, timer]

/-! ### The pass that the reading belongs to -/

theorem passMayBegin_iff {s : State} :
    passMayBegin s = true ↔ s.engine.timer ≠ none ∧ s.engine.visit = none ∧ s.engine.work = none := by
  simp [passMayBegin, Option.isSome_iff_ne_none, and_assoc]

/-- PROBE_HOLD_EXPIRY is the pass whose reading is the channel's tenth (assumption 25). -/
theorem exec_probeHoldExpiry_ready {s : State} {n : Fin 14} (held : (s.scanner.probes.get n).state = .held)
    (tenth : 9 ≤ (s.scanner.probes.get n).holdCount) (may : passMayBegin s = true) :
    exec (.probeHoldExpiry n) s = exec .passTimerExpiry s := by
  simp only [exec, execProbeHoldExpiry, execPassTimerExpiry, held, tenth, may, and_self, if_true]

theorem exec_probeHoldExpiry_unready {s : State} {n : Fin 14} (h : ¬ ((s.scanner.probes.get n).state = .held ∧
    9 ≤ (s.scanner.probes.get n).holdCount ∧ passMayBegin s = true)) : exec (.probeHoldExpiry n) s = .next s := by
  simp only [exec, execProbeHoldExpiry, if_neg h]

theorem plausibility_atExpiry (left : Nat) (s : State) : plausibility (atExpiry left s) = plausibility s := by
  obtain ⟨probes, implausible, -⟩ := atExpiry_scanner left s
  simp only [plausibility, probes, implausible, goodReturns_atExpiry]

theorem flagSet_atExpiry {left : Nat} {s : State} : FlagSet (atExpiry left s) ↔ FlagSet s := by
  obtain ⟨-, implausible, -⟩ := atExpiry_scanner left s
  rw [FlagSet, FlagSet, plausibility_atExpiry, implausible]

/-- What the reading of the pass at the expiry, and the steps of that pass, make of the scanner. -/
theorem passSteps_readScanner (k left : Nat) (s : State) :
    let sc := (passSteps k (openVisit (atExpiry left s))).scanner
    sc.round = s.scanner.round ∧ (∀ n, sc.probes.get n = countHold (s.scanner.probes.get n)) ∧
      sc.implausible = (plausibility s).1 := by
  obtain ⟨probes, -, round⟩ := atExpiry_scanner left s
  rw [passSteps_scanner, openVisit_scanner, readScanner, probes, plausibility_atExpiry]
  exact ⟨round, fun n => Tab.get_map _ _ n, rfl⟩

/-- A flag that the reading sets has the status of PROBE_FAULT set, whatever the steps of the pass report after it. -/
theorem flagSet_status {s : State} (set : FlagSet s) (k left : Nat) :
    ((passSteps k (openVisit (atExpiry left s))).recorder.kinds.get (kindIndex .probeFault)).status = true := by
  refine (passSteps_keep k _).recorder.status _ ?_
  rw [openVisit_of_flagSet (flagSet_atExpiry.2 set)]
  dsimp only
  rw [report_kinds]
  simp [implausibleFault]

/-- An empty pointer takes the fault of a flag that the reading sets, and keeps it along the steps of the pass. -/
theorem flagSet_pointer {s : State} (set : FlagSet s) (k left : Nat) (empty : (finishTrim s).recorder.pointer = none)
    (unmasked : (s.recorder.kinds.get (kindIndex .probeFault)).masked = false) :
    let r := (passSteps k (openVisit (atExpiry left s))).recorder
    r.pointer = some .probeFault ∧ r.record.map (fun e => (e.origin, e.item, e.first, e.second)) =
      some (.internal, 14, 3, (s.scanner.probes.get 13).filtered.getD 0) := by
  have recorder : (atExpiry left s).recorder = (finishTrim s).recorder := elapse_recorder _ _
  have open_ : ((atExpiry left s).recorder.kinds.get (kindIndex .probeFault)).masked = false := by
    rw [recorder, (finishTrim_grows s).masked]; exact unmasked
  obtain ⟨probes, -, -⟩ := atExpiry_scanner left s
  obtain ⟨pointer, record⟩ := report_empty_pointer (atExpiry left s)
    (implausibleFault (((atExpiry left s).scanner.probes.get 13).filtered.getD 0)) (recorder ▸ empty) open_
  have opened := congrArg State.recorder (openVisit_of_flagSet (flagSet_atExpiry (left := left).2 set))
  dsimp only at opened
  obtain ⟨pointerKept, recordKept⟩ :=
    (passSteps_keep k (openVisit (atExpiry left s))).recorder.held (by rw [opened, pointer]; exact nofun)
  intro r
  rw [pointerKept, recordKept, opened, pointer, record, probes]
  exact ⟨rfl, rfl⟩

end Sys2Proof.Machine

open Sys2Proof Sys2Proof.Machine

/-- Settles O17: the round by its list of channels, the reading by what it makes of each channel and of the flag of probe M. -/
theorem scanRoundsAndProbeHolds : Obligations.ScanRoundsAndProbeHolds := by
  unfold Obligations.ScanRoundsAndProbeHolds
  refine ⟨fun s left timer => ?_, fun s n => ⟨fun ready => ?_, fun unready => ?_⟩, fun s left timer visit work => ?_⟩
  · refine ⟨_, exec_scanRound timer, rfl, scanList_ordered _, fun n => ?_⟩
    exact mem_scanList.trans (or_congr_right (exists_congr fun loop =>
      Bool.eq_iff_iff.1 (loopPresent_elapse left s ⟨n.val, loop⟩)))
  · obtain ⟨held, tenth, some_, visit, work⟩ := ready
    obtain ⟨left, timer⟩ := Option.ne_none_iff_exists'.1 some_
    obtain ⟨k, expires⟩ := exec_passTimerExpiry timer visit work
    obtain ⟨-, probes, -⟩ := passSteps_readScanner k left s
    have same := exec_probeHoldExpiry_ready held tenth (passMayBegin_iff.2 ⟨some_, visit, work⟩)
    refine ⟨_, same.trans expires, expires, (probes n).trans (countHold_tenth held tenth), fun other => ?_⟩
    have notM : ¬ n.val = 13 := fun e => other (Fin.ext e)
    simp [openPass, supply, supplied, notM, held]
  · exact exec_probeHoldExpiry_unready fun ⟨held, tenth, may⟩ => unready ⟨held, tenth, passMayBegin_iff.1 may⟩
  · obtain ⟨k, expires⟩ := exec_passTimerExpiry timer visit work
    obtain ⟨round, probes, flag⟩ := passSteps_readScanner k left s
    refine ⟨_, expires, round, fun n state => (probes n).trans (countHold_other state),
      fun n held early => (probes n).trans (countHold_early held early),
      fun n held tenth => (probes n).trans (countHold_tenth held tenth),
      fun unjudged => flag.trans (plausibility_unjudged (unjudged.imp_right .inr)), fun m good value returns => ?_⟩
    have judged := plausibility_judged good value returns
    refine ⟨flag.trans (by rw [judged]), fun clear far => ?_⟩
    have set : FlagSet s := ⟨by rw [judged]; exact List.all_eq_true.2 fun r mem => decide_eq_true (far r mem), clear⟩
    refine ⟨flagSet_status set k left, fun empty unmasked => ?_⟩
    have reported := flagSet_pointer set k left empty unmasked
    rw [value] at reported
    exact reported

end

section
/-! The opening's readings, and what the other blocks see of a pass before its close (R46, R47, R49, R83, R84). -/

namespace Sys2Proof.Machine

open Sys2Proof

/-! ### The readings -/

/-- What a channel supplies, by its state (R41), and channel 14 by its flag (R44). -/
theorem supply_eq (sc : Scanner) (n : Fin 14) : supply sc n =
    if n = 13 ∧ sc.implausible = true then (.failed, none)
    else match (sc.probes.get n).state with
      | .unused => (.unused, none)
      | .starting | .failed => (.failed, none)
      | .good => (.good, (sc.probes.get n).filtered)
      | .held => (.held, (sc.probes.get n).held) := by
  have last : n.val = 13 ↔ n = 13 := ⟨fun e => Fin.ext e, fun e => congrArg Fin.val e⟩
  simp only [supply, supplied, last]
  split
  · rfl
  · split <;> simp only [*]

/-- The FRESH peers, in the order of their records (R84). -/
theorem openPass_peers (s : State) : (openPass s).peers =
    (s.peers.peers.filter (·.fresh)).map fun p => ⟨p.station.val + 1, p.core.r, p.core.capable⟩ := by
  rw [← List.filterMap_eq_map, List.filterMap_filter]
  rfl

theorem openPass_reads (s : State) : OpeningReads s (openPass s) := by
  refine ⟨fun n => (Tab.get_tabulate _ n).trans (supply_eq _ n), fun st src low fresh state fSrc fMin => ?_,
    fun unfresh => ?_, openPass_peers s, rfl⟩
  · simp [openPass, effectiveState, effectiveSrc, effectiveMin, fresh, state, fSrc, fMin]
  · cases validity : s.peers.source.validity with
    | fresh => exact absurd validity unfresh
    | never => simp [openPass, effectiveState, effectiveSrc, effectiveMin, validity]
    | stale => simp [openPass, effectiveState, effectiveSrc, effectiveMin, validity]

/-! ### From the command to the opening -/

/-- The rest of a trim update and the time to the expiry leave all that neither counts time nor belongs to the trim update. -/
theorem atExpiry_kept (left : Nat) (s : State) :
    let u := atExpiry left s
    (u.arbiter = s.arbiter ∧ u.operation = s.operation ∧ u.visiting = s.visiting ∧ u.config = s.config ∧
      u.loader = s.loader ∧ u.phases = s.phases ∧ u.pending = s.pending ∧ u.draws = s.draws) ∧
    (u.bus.report = s.bus.report ∧ u.bus.reply = s.bus.reply ∧ u.bus.rx = s.bus.rx) ∧
    u.engine.work = s.engine.work ∧ u.engine.result = s.engine.result ∧ u.engine.demands = s.engine.demands ∧
    u.engine.sourceSeen = s.engine.sourceSeen := by
  obtain ⟨_, _, _, _, _, _, trimmed⟩ := finishTrim_frame s
  simp [atExpiry, trimmed]

theorem atExpiry_absent {left : Nat} {s : State} {n : Fin 12} (h : s.loops.get n = none) :
    (atExpiry left s).loops.get n = none := by
  have same := loopPresent_atExpiry left s n
  simpa [loopPresent, h] using same

/-- The state of the opening once the check of probe M has reported, if it does. -/
def readingReported (left : Nat) (s : State) : State :=
  if (openVisit (atExpiry left s)).scanner.implausible = true ∧ s.scanner.implausible = false then
    report (atExpiry left s) ⟨.probeFault, 14, 3, (s.scanner.probes.get 13).filtered.getD 0, none⟩
  else atExpiry left s

theorem readingReported_frame (left : Nat) (s : State) : FaultFrame (atExpiry left s) (readingReported left s) := by
  unfold readingReported
  split
  · exact report_frame _ _
  · exact .refl _

theorem openVisit_flag (left : Nat) (s : State) :
    (openVisit (atExpiry left s)).scanner.implausible = (plausibility s).1 := by
  rw [openVisit_scanner]
  exact congrArg Prod.fst (plausibility_atExpiry left s)

theorem readingReported_of_flagSet {s : State} (set : FlagSet s) (left : Nat) : readingReported left s =
    report (atExpiry left s) (implausibleFault ((s.scanner.probes.get 13).filtered.getD 0)) :=
  if_pos (by rw [openVisit_flag]; exact set)

theorem readingReported_of_flagStands {s : State} (stands : ¬ FlagSet s) (left : Nat) :
    readingReported left s = atExpiry left s :=
  if_neg (by rw [openVisit_flag]; exact stands)

/-- Of the state in which the pass opens, the opening changes scanner and engine, and what its report touches. -/
theorem openVisit_atExpiry (left : Nat) (s : State) :
    openVisit (atExpiry left s) = { readingReported left s with
      scanner := (openVisit (atExpiry left s)).scanner, engine := openedEngine (atExpiry left s) } := by
  obtain ⟨probes, -, -⟩ := atExpiry_scanner left s
  rw [openVisit_scanner]
  by_cases set : FlagSet s
  · rw [readingReported_of_flagSet set, openVisit_of_flagSet (flagSet_atExpiry.2 set), probes]
  · rw [readingReported_of_flagStands set, openVisit_of_flagStands (mt flagSet_atExpiry.1 set)]

/-! ### From the opening to the end of the stages -/

/-- However many steps a pass makes, it has changed scanner, loops and engine, and what a fault touches. -/
theorem passSteps_openVisit_frame (k left : Nat) (s : State) :
    let u := atExpiry left s
    ∃ scanner, PassFrame { u with scanner := scanner } (passSteps k (openVisit u)) := by
  intro u
  obtain ⟨_, _, _, _, reported⟩ := readingReported_frame left s
  refine ⟨(openVisit u).scanner, PassFrame.trans ?_ (passSteps_frame k _)⟩
  rw [openVisit_atExpiry, reported]
  exact ⟨_, _, _, _, _, _, rfl⟩

/-- The opening leaves what the readings of the loops use. -/
theorem readingOf_openVisit (s : State) : readingOf (openVisit s) = readingOf s := by
  obtain ⟨_, _, _, e⟩ := openVisit_eq s
  rw [e]
  rfl

/-- The first twelve steps read the loops in loop-number order. -/
theorem passSteps_reading {s : State} {o : Opening} (visit : s.engine.visit = some ⟨o, .read (List.finRange 12) []⟩)
    {k : Nat} (few : k ≤ 12) :
    ReadingFrame (setStage s o (.read ((List.finRange 12).drop k) (((List.finRange 12).take k).flatMap (readingOf s))))
      (passSteps k s) := by
  have once : ((List.finRange 12).take k).Nodup := (List.nodup_finRange 12).sublist (List.take_sublist k _)
  have steps := passSteps_read (rest := (List.finRange 12).drop k) _ s [] once
    (by rw [List.take_append_drop]; exact visit)
  rw [List.length_take, List.length_finRange, Nat.min_eq_left few, List.nil_append] at steps
  obtain ⟨⟨_, _, frame⟩, -⟩ := foldl_stageOne o _ s once
  rw [steps, frame]
  exact ⟨_, _, rfl⟩

end Sys2Proof.Machine

open Sys2Proof Sys2Proof.Machine

/-- Settles O18: the opening by its readings and its report, and any number of steps after it by what every step keeps. -/
theorem passRunsWithoutTouchingTheOtherBlocks : Obligations.PassRunsWithoutTouchingTheOtherBlocks := by
  unfold Obligations.PassRunsWithoutTouchingTheOtherBlocks
  intro s left timer visit work f u o v read
  have opened : v = { read with scanner := v.scanner, engine := openedEngine u } := openVisit_atExpiry left s
  have engine : v.engine = openedEngine u := congrArg State.engine opened
  have reading : v.engine.visit = some ⟨o, .read (List.finRange 12) []⟩ := congrArg Engine.visit engine
  have readings : readingOf v = readingOf u := readingOf_openVisit u
  obtain ⟨⟨arbiter, operation, visiting, config, loader, phases, pending, draws⟩, ⟨report_, reply, rx⟩, idle, result,
    demands, sourceSeen⟩ := atExpiry_kept left s
  have law : PassLaw v := openVisit_law (idle.trans work) ((congrArg _ (elapse_valves f left)).trans (finishTrim_update s))
  refine ⟨⟨finishTrim_frame s, finishTrim_update s, fun none_ => trimSteps_of_none none_ 3⟩,
    exec_passTimerExpiry timer visit work, openPass_reads u, opened, (passSteps_readScanner 0 left s).1, fun k => ?_⟩
  intro t
  have keeps : PassKeeps v t := passSteps_keep k v
  have loops : v.loops = u.loops := by
    obtain ⟨_, _, _, e⟩ := openVisit_eq u
    exact (congrArg State.loops e :)
  obtain ⟨scanner, _, _, _, _, _, _, frame⟩ := passSteps_openVisit_frame k left s
  have field {α : Type} (get : State → α) := congrArg get frame
  refine ⟨keeps.timer.trans (congrArg Engine.timer engine), field State.now,
    (keeps.result.trans (congrArg Engine.result engine)).trans result,
    (keeps.demands.trans (congrArg Engine.demands engine)).trans demands,
    (keeps.sourceSeen.trans (congrArg Engine.sourceSeen engine)).trans sourceSeen,
    field State.channels, (field State.arbiter).trans arbiter, field State.peers, field State.rooms,
    (field State.valves).trans (elapse_valves f left), (field State.meter).trans (elapse_meter f left),
    passSteps_scanner k v, field State.programOne, field State.programTwo, (field State.operation).trans operation,
    (field State.visiting).trans visiting, (field State.config).trans config, (field State.loader).trans loader,
    (field State.phases).trans phases, (field State.pending).trans pending, (field State.draws).trans draws,
    (field (·.bus.report)).trans report_, (field (·.bus.reply)).trans reply, (field (·.bus.rx)).trans rx,
    fun n none_ => keeps.absent n (by rw [loops]; exact atExpiry_absent none_),
    fun n l some_ => keeps.present n l (by rw [loops]; exact some_), fun few => ?_, fun many => ?_⟩
  · obtain ⟨_, _, e⟩ := passSteps_reading reading few
    change t = _ at e
    rw [e, ← readings]
    exact ⟨(congrArg Engine.work engine).trans (idle.trans work), (congrArg State.recorder opened :),
      (congrArg State.bus opened :), rfl⟩
  · obtain ⟨once, -⟩ := law.readings reading
    obtain ⟨frame, -⟩ := foldl_stageOne o (List.finRange 12) v once
    have stages := passSteps_all law reading many
    rw [List.nil_append, readings] at stages
    exact ⟨_, frame.eq, stages⟩

end

section
/-! Characteristic tables: the inverse lookup and the forward interpolation (R66, R67, R94). -/

namespace Sys2Proof.Machine

open Sys2Proof

/-- A table that runs from 0 to 1000 ‰ and rises from each point to the next (R93). -/
structure Characteristic (t : ValveTable) : Prop where
  size : t.fractions.length = 11
  first : t.fractions.getD 0 0 = 0
  last : t.fractions.getD 10 0 = 1000
  rises : ∀ k, k < 10 → t.fractions.getD k 0 < t.fractions.getD (k + 1) 0

/-- Values that rise at each step rise over several. -/
theorem le_of_rises {F : Nat → Nat} {m : Nat} (rises : ∀ k, k < m → F k < F (k + 1)) {i j : Nat} (le : i ≤ j)
    (top : j ≤ m) : F i ≤ F j := by
  induction j, le using Nat.le_induction with
  | base => exact le_refl _
  | succ j _ ih => exact (ih (by omega)).trans (rises j (by omega)).le

/-- A value between the first and the last of a sequence lies between two neighbours. -/
theorem exists_step {F : Nat → Nat} {f : Nat} (low : F 0 ≤ f) : ∀ {m : Nat}, f < F m → ∃ k, k < m ∧ F k ≤ f ∧ f < F (k + 1)
  | 0, high => absurd high (Nat.not_lt.2 low)
  | m + 1, high => by
    by_cases below : f < F m
    · obtain ⟨k, lt, fits⟩ := exists_step low below
      exact ⟨k, by omega, fits⟩
    · exact ⟨m, by omega, Nat.not_lt.1 below, high⟩

/-- The neighbours between which a value lies are the only ones. -/
theorem step_unique {F : Nat → Nat} {m f j k : Nat} (rises : ∀ k, k < m → F k < F (k + 1)) (hj : j < m) (hk : k < m)
    (lowJ : F j ≤ f) (highJ : f < F (j + 1)) (lowK : F k ≤ f) (highK : f < F (k + 1)) : j = k := by
  have notAbove {a b : Nat} (ha : a < m) (lowA : F a ≤ f) (highB : f < F (b + 1)) : a ≤ b := by
    by_contra above
    have := le_of_rises rises (show b + 1 ≤ a by omega) ha.le
    omega
  exact le_antisymm (notAbove hj lowJ highK) (notAbove hk lowK highJ)

/-- The inverse lookup interpolates at the point between whose neighbours the fraction lies (R67). -/
theorem inverseFrom_at {f : Nat} : ∀ {l : List Nat} {k j : Nat},
    (∀ i, i < l.length - 1 → l.getD i 0 < l.getD (i + 1) 0) → j < l.length - 1 →
    l.getD j 0 ≤ f → f < l.getD (j + 1) 0 →
    inverseFrom f k l = 100 * (k + j) + (f - l.getD j 0) * 100 / (l.getD (j + 1) 0 - l.getD j 0)
  | [], _, _, _, inside, _, _ => by simp at inside
  | [_], _, _, _, inside, _, _ => by simp at inside
  | a :: b :: rest, k, 0, _, _, low, high => by
    simp only [List.getD_cons_zero, List.getD_cons_succ, zero_add] at low high
    simp [inverseFrom, low, high]
  | a :: b :: rest, k, j + 1, rises, inside, low, high => by
    have later (i : Nat) (h : i < (b :: rest).length - 1) : (b :: rest).getD i 0 < (b :: rest).getD (i + 1) 0 := by
      have := rises (i + 1) (by simpa using h)
      rwa [List.getD_cons_succ, List.getD_cons_succ] at this
    rw [List.getD_cons_succ] at low high
    have within : j < (b :: rest).length - 1 := by simpa using inside
    have beyond : b ≤ f := by
      have := le_of_rises (F := fun i => (b :: rest).getD i 0) later (Nat.zero_le j) within.le
      exact this.trans low
    have ih := inverseFrom_at (k := k + 1) later within low high
    rw [inverseFrom, if_neg (by omega), ih, List.getD_cons_succ, List.getD_cons_succ]
    congr 2
    omega

variable {t : ValveTable}

theorem positionFor_zero (t : ValveTable) (eff : Nat) : positionFor t 0 eff = 0 := if_pos rfl

theorem positionFor_full (t : ValveTable) {q eff : Nat} (flow : 0 < q) (full : eff ≤ q) : positionFor t q eff = 1000 := by
  rw [positionFor, if_neg (by omega), if_pos full]

/-- A flow below full flow opens the valve as far as the inverse lookup says, and no less than the minimum opening. -/
theorem positionFor_between (h : Characteristic t) {q eff k : Nat} (flow : 0 < q) (part : q < eff) (inside : k < 10)
    (low : t.fractions.getD k 0 ≤ q * 1000 / eff) (high : q * 1000 / eff < t.fractions.getD (k + 1) 0) :
    positionFor t q eff = max t.minOpening (100 * k +
      (q * 1000 / eff - t.fractions.getD k 0) * 100 / (t.fractions.getD (k + 1) 0 - t.fractions.getD k 0)) := by
  have size : t.fractions.length - 1 = 10 := by rw [h.size]
  rw [positionFor, if_neg (by omega), if_neg (by omega),
    inverseFrom_at (by rw [size]; exact h.rises) (by rw [size]; exact inside) low high, zero_add]

/-- The interpolation between two points stays below the second. -/
theorem interpolation_lt {f a b : Nat} (low : a ≤ f) (high : f < b) : (f - a) * 100 / (b - a) < 100 := by
  rw [Nat.div_lt_iff_lt_mul (by omega), Nat.mul_comm 100]
  exact Nat.mul_lt_mul_of_pos_right (by omega) (by omega)

theorem fractionAt_open (t : ValveTable) {p : Nat} (full : 1000 ≤ p) : fractionAt t p = 1000 := if_pos full

/-- Between two points the forward lookup interpolates (R94). -/
theorem fractionAt_between (t : ValveTable) {p k : Nat} (low : 100 * k ≤ p) (high : p < 100 * (k + 1)) (inside : k < 10) :
    fractionAt t p = t.fractions.getD k 0 +
      (t.fractions.getD (k + 1) 0 - t.fractions.getD k 0) * (p - 100 * k) / 100 := by
  have point : p / 100 = k := by omega
  rw [fractionAt, if_neg (by omega), point]

theorem fractionAt_point (h : Characteristic t) {k : Nat} (inside : k ≤ 10) :
    fractionAt t (100 * k) = t.fractions.getD k 0 := by
  rcases inside.lt_or_eq with lt | rfl
  · rw [fractionAt_between t (le_refl _) (by omega) lt, Nat.sub_self, Nat.mul_zero, Nat.zero_div, Nat.add_zero]
  · rw [h.last]; exact fractionAt_open t (le_refl _)

/-- An interpolated value lies between those of its two points. -/
theorem fractionAt_bounds (h : Characteristic t) {p k : Nat} (low : 100 * k ≤ p) (high : p < 100 * (k + 1))
    (inside : k < 10) : t.fractions.getD k 0 ≤ fractionAt t p ∧ fractionAt t p ≤ t.fractions.getD (k + 1) 0 := by
  rw [fractionAt_between t low high inside]
  have rises := h.rises k inside
  have part : (t.fractions.getD (k + 1) 0 - t.fractions.getD k 0) * (p - 100 * k) / 100 ≤
      t.fractions.getD (k + 1) 0 - t.fractions.getD k 0 :=
    Nat.div_le_of_le_mul ((Nat.mul_le_mul_left _ (show p - 100 * k ≤ 100 by omega)).trans_eq (Nat.mul_comm _ _))
  omega

theorem fractionAt_le (h : Characteristic t) (p : Nat) : fractionAt t p ≤ 1000 := by
  by_cases full : 1000 ≤ p
  · rw [fractionAt_open t full]
  · have upper := (fractionAt_bounds h (p := p) (k := p / 100) (by omega) (by omega) (by omega)).2
    have top := le_of_rises h.rises (show p / 100 + 1 ≤ 10 by omega) (le_refl _)
    rw [h.last] at top
    exact upper.trans top

/-- The forward lookup rises: within two points by its formula, and over a point by the value there. -/
theorem fractionAt_mono (h : Characteristic t) {p q : Nat} (le : p ≤ q) : fractionAt t p ≤ fractionAt t q := by
  by_cases full : 1000 ≤ q
  · rw [fractionAt_open t full]; exact fractionAt_le h p
  · by_cases same : p / 100 = q / 100
    · rw [fractionAt_between t (k := q / 100) (by omega) (by omega) (by omega),
        fractionAt_between t (k := q / 100) (by omega) (by omega) (by omega)]
      exact Nat.add_le_add_left (Nat.div_le_div_right (Nat.mul_le_mul_left _ (by omega))) _
    · calc fractionAt t p
        _ ≤ t.fractions.getD (p / 100 + 1) 0 := (fractionAt_bounds h (by omega) (by omega) (by omega)).2
        _ ≤ t.fractions.getD (q / 100) 0 := le_of_rises h.rises (by omega) (by omega)
        _ ≤ fractionAt t q := (fractionAt_bounds h (by omega) (by omega) (by omega)).1

end Sys2Proof.Machine

open Sys2Proof Sys2Proof.Machine

/-- Settles O25: the fraction of full flow lies between two neighbouring points of the table, and the lookups by what they
give there. -/
theorem characteristicLookups : Obligations.CharacteristicLookups := by
  unfold Obligations.CharacteristicLookups
  intro t size first last rises least most
  have h : Characteristic t := ⟨size, first, last, rises⟩
  refine ⟨positionFor_zero t, fun q eff flow full => positionFor_full t flow full, fun q eff flow part => ?_,
    fun k inside => fractionAt_point h inside, fun p k low high inside => fractionAt_between t low high inside,
    fun p q le => fractionAt_mono h le, fractionAt_le h⟩
  have below : q * 1000 / eff < t.fractions.getD 10 0 := by
    rw [last, Nat.div_lt_iff_lt_mul (by omega), Nat.mul_comm]
    exact Nat.mul_lt_mul_of_pos_left part (by omega)
  obtain ⟨k, inside, low, high⟩ := exists_step (F := (t.fractions.getD · 0)) (f := q * 1000 / eff)
    (by rw [first]; exact Nat.zero_le _) below
  have position := positionFor_between h flow part inside low high
  have lt := interpolation_lt low high
  exact ⟨k, inside, low, high, position, by rw [position]; omega, fun j hj lowJ highJ =>
    step_unique rises hj inside lowJ highJ low high⟩

end

section
/-! The swap at one channel, and what a swap leaves of the other blocks (R70, R71, R112, R113, R115). -/

namespace Sys2Proof.Machine

open Sys2Proof

/-! ### A channel takes a target -/

theorem aim_eq_open {c : Channel} {x : Nat} (live : c.live = some x) (ahead : c.counter + 8 < x) : aim c = some .open := by
  simp [aim, live, ahead]

theorem aim_eq_close {c : Channel} {x : Nat} (live : c.live = some x) (behind : (x : Int) + 8 < c.counter) :
    aim c = some .close := by
  have notAhead : ¬ c.counter + 8 < (x : Int) := by omega
  simp [aim, live, behind, notAhead]

theorem aim_eq_none {c : Channel} {x : Nat} (live : c.live = some x) (near : (c.counter - x).natAbs ≤ 8) : aim c = none := by
  have notAhead : ¬ c.counter + 8 < (x : Int) := by omega
  have notBehind : ¬ (x : Int) + 8 < c.counter := by omega
  simp [aim, live, notAhead, notBehind]

/-- Beyond the deadband the aim is the side of the target (R113). -/
theorem aim_beyond {c : Channel} {x : Nat} (live : c.live = some x) (far : 8 < (c.counter - x).natAbs) :
    aim c = some (if c.counter < x then .open else .close) := by
  split
  · exact aim_eq_open live (by omega)
  · exact aim_eq_close live (by omega)

theorem takeTarget_same {s : State} {n : Fin 12} {x : Nat} (h : (s.channels.get n).live = some x) : takeTarget s n x = s :=
  if_pos h

/-- A channel that drives no move only takes the target. -/
theorem takeTarget_still {s : State} {n : Fin 12} {x : Nat} (new : (s.channels.get n).live ≠ some x)
    (still : ∀ d m, (s.channels.get n).state = drivingState d → (s.channels.get n).move ≠ some m) :
    takeTarget s n x = setChannel s n { s.channels.get n with live := some x } := by
  rw [takeTarget, if_neg new]
  dsimp only
  split
  · exact absurd ‹_› (still .open _ ‹_›)
  · exact absurd ‹_› (still .close _ ‹_›)
  · rfl

theorem takeTarget_resting {s : State} {n : Fin 12} {x : Nat} (new : (s.channels.get n).live ≠ some x)
    (rests : (s.channels.get n).state ≠ .drivingOpen ∧ (s.channels.get n).state ≠ .drivingClose) :
    takeTarget s n x = setChannel s n { s.channels.get n with live := some x } := by
  obtain ⟨notOpen, notClose⟩ := rests
  exact takeTarget_still new fun
    | .open, _, drives => absurd drives notOpen
    | .close, _, drives => absurd drives notClose

/-- A driving move goes on toward a target ahead of it, reverses, or arrives (R115). -/
theorem takeTarget_driving {s : State} {n : Fin 12} {x : Nat} {d : Direction} {m : MoveRecord}
    (new : (s.channels.get n).live ≠ some x) (drives : (s.channels.get n).state = drivingState d)
    (move : (s.channels.get n).move = some m) :
    let c := { s.channels.get n with live := some x }
    let s1 := setChannel s n c
    takeTarget s n x = match aim c with
      | some e => if e = d then setChannel s1 n { c with move := some { m with limit := some (moveLimit s c) } }
        else reverse s1 n
      | none => settle s1 n := by
  rw [takeTarget, if_neg new]
  cases d <;> simp only [drives, drivingState, move] <;> split <;> simp [*, moveLimit]

/-- A driving move whose target stays ahead keeps on, with its limit armed again. -/
theorem takeTarget_onward {s : State} {n : Fin 12} {x : Nat} {d : Direction} {m : MoveRecord}
    (new : (s.channels.get n).live ≠ some x) (drives : (s.channels.get n).state = drivingState d)
    (move : (s.channels.get n).move = some m) (ahead : aim { s.channels.get n with live := some x } = some d) :
    (takeTarget s n x).channels.get n = { s.channels.get n with
      live := some x
      move := some { m with
        limit := some (2 * ((s.channels.get n).counter - x).natAbs * s.config.countTime + 2000) } } := by
  rw [takeTarget_driving new drives move]
  simp [ahead, moveLimit]

/-- A driving move whose target comes to lie behind reverses. -/
theorem takeTarget_reverses {s : State} {n : Fin 12} {x : Nat} {d e : Direction} {m : MoveRecord}
    (new : (s.channels.get n).live ≠ some x) (drives : (s.channels.get n).state = drivingState d)
    (move : (s.channels.get n).move = some m) (behind : aim { s.channels.get n with live := some x } = some e)
    (other : e ≠ d) : (takeTarget s n x).channels.get n = { s.channels.get n with
      live := some x, state := .reversing, move := some (driveOff m), wait := some 200 } := by
  rw [takeTarget_driving new drives move]
  simp only [behind, if_neg other]
  simp [reverse, putChannel, move]

/-- A driving move whose target comes to lie within the deadband settles. -/
theorem takeTarget_settles {s : State} {n : Fin 12} {x : Nat} {d : Direction} {m : MoveRecord}
    (new : (s.channels.get n).live ≠ some x) (drives : (s.channels.get n).state = drivingState d)
    (move : (s.channels.get n).move = some m) (near : aim { s.channels.get n with live := some x } = none) :
    (takeTarget s n x).channels.get n = { s.channels.get n with
      live := some x, state := .settling, move := some (driveOff m), wait := some 300 } := by
  rw [takeTarget_driving new drives move]
  simp only [near]
  simp [settle, putChannel, move]

theorem Tab.set_get_self {k : Nat} {α : Type} (t : Tab k α) (i : Fin k) : t.set i (t.get i) = t :=
  Tab.ext_get fun j => by rw [Tab.get_set]; split <;> simp_all

theorem Tab.set_set {k : Nat} {α : Type} (t : Tab k α) (i : Fin k) (x y : α) : (t.set i x).set i y = t.set i y :=
  Tab.ext_get fun j => by simp only [Tab.get_set]; split <;> rfl

/-- What a target can do: its channel takes it with its counter, and does not come to rest by it; beside the channel, at most
the activity flag changes. -/
theorem takeTarget_takes (s : State) (n : Fin 12) (x : Nat) : ∃ c' active,
    takeTarget s n x = { s with
      channels := s.channels.set n c'
      valves := { s.valves with activity := active } } ∧
    c'.live = some x ∧ c'.counter = (s.channels.get n).counter ∧
    ((s.channels.get n).state ≠ .idle → c'.state ≠ .idle) := by
  have set (c c' : Channel) : setChannel (setChannel s n c) n c' = { s with channels := s.channels.set n c' } := by
    simp only [setChannel, Tab.set_set]
  have put (c c' : Channel) : ∃ active, putChannel (setChannel s n c) n c' =
      { s with channels := s.channels.set n c', valves := { s.valves with activity := active } } := by
    obtain ⟨_, _, active, e⟩ := putChannel_grantFrame (setChannel s n c) n c'
    have channels : (putChannel (setChannel s n c) n c').channels = s.channels.set n c' := Tab.set_set _ _ _ _
    have arbiter : (putChannel (setChannel s n c) n c').arbiter = s.arbiter := rfl
    rw [e] at channels arbiter
    exact ⟨active, by rw [e, ← channels, ← arbiter]; rfl⟩
  by_cases same : (s.channels.get n).live = some x
  · exact ⟨_, s.valves.activity, by rw [takeTarget_same same, Tab.set_get_self], same, rfl, id⟩
  · by_cases drives : ∃ d m, (s.channels.get n).state = drivingState d ∧ (s.channels.get n).move = some m
    · obtain ⟨d, m, drives, move⟩ := drives
      rw [takeTarget_driving same drives move]
      dsimp only
      split
      · split
        · exact ⟨_, s.valves.activity, set _ _, rfl, rfl, id⟩
        · obtain ⟨_, e⟩ := put _ _
          exact ⟨_, _, e, by simp, by simp, fun _ => nofun⟩
      · obtain ⟨_, e⟩ := put _ _
        exact ⟨_, _, e, by simp, by simp, fun _ => nofun⟩
    · exact ⟨_, s.valves.activity, takeTarget_still same fun d m state move => drives ⟨d, m, state, move⟩, rfl, rfl, id⟩

/-- The channel's target becomes the live one and its counter stands; none comes to rest by it. -/
theorem takeTarget_own (s : State) (n : Fin 12) (x : Nat) :
    let c' := (takeTarget s n x).channels.get n
    c'.live = some x ∧ c'.counter = (s.channels.get n).counter ∧ ((s.channels.get n).state ≠ .idle → c'.state ≠ .idle) := by
  obtain ⟨_, _, e, own⟩ := takeTarget_takes s n x
  rw [e]
  dsimp only
  rw [Tab.get_set_self]
  exact own

theorem takeTarget_channel_of_ne {s : State} {n m : Fin 12} (x : Nat) (other : m ≠ n) :
    (takeTarget s n x).channels.get m = s.channels.get m := by
  obtain ⟨_, _, e, -⟩ := takeTarget_takes s n x
  rw [e]
  exact Tab.get_set_ne _ _ other.symm

theorem takeTarget_arbiter (s : State) (n : Fin 12) (x : Nat) : (takeTarget s n x).arbiter = s.arbiter := by
  obtain ⟨_, _, e, -⟩ := takeTarget_takes s n x
  rw [e]

theorem takeTarget_grantFrame (s : State) (n : Fin 12) (x : Nat) : GrantFrame s (takeTarget s n x) := by
  obtain ⟨_, _, e, -⟩ := takeTarget_takes s n x
  rw [e]
  exact ⟨_, _, _, rfl⟩

/-- What a channel makes of a target depends on no other channel. -/
theorem takeTarget_congr {s u : State} {n : Fin 12} (x : Nat) (config : u.config = s.config)
    (same : u.channels.get n = s.channels.get n) :
    (takeTarget u n x).channels.get n = (takeTarget s n x).channels.get n := by
  have limit (c c1 : Channel) : moveLimit (setChannel u n c) c1 = moveLimit (setChannel s n c) c1 := by
    simp only [moveLimit, setChannel_config, config]
  unfold takeTarget settle reverse
  simp only [same, limit]
  split
  · exact same
  · split
    · split <;> simp only [setChannel_channels, Tab.get_set_self, putChannel_get_self]
    · split <;> simp only [setChannel_channels, Tab.get_set_self, putChannel_get_self]
    · simp only [setChannel_channels, Tab.get_set_self]

/-! ### A slot of the buffer meets its channel -/

/-- What a channel takes of a slot of the target buffer (R71): a usable channel the slot's target, lowered to its stroke. -/
def targetFor (slot : Option Nat) (c : Channel) : Option Nat :=
  if c.calibrated = true ∧ c.state ≠ .disabled then
    match slot, c.stroke with
    | some x, some stroke => some (min x stroke)
    | _, _ => none
  else none

theorem targetFor_some {x stroke : Nat} {c : Channel} (has : c.stroke = some stroke) (calibrated : c.calibrated = true)
    (enabled : c.state ≠ .disabled) : targetFor (some x) c = some (min x stroke) := by
  simp [targetFor, has, calibrated, enabled]

theorem targetFor_none (c : Channel) : targetFor none c = none := by
  unfold targetFor
  split <;> rfl

theorem targetFor_unusable {slot : Option Nat} {c : Channel} (h : ¬ (c.calibrated = true ∧ c.state ≠ .disabled)) :
    targetFor slot c = none := if_neg h

theorem swapChannel_eq (s : State) (n : Fin 12) : swapChannel s n =
    (targetFor (s.engine.buffer.get n) (s.channels.get n)).elim s (takeTarget s n) := by
  unfold swapChannel targetFor
  simp only [channelUsable_iff]
  cases s.engine.buffer.get n <;> cases (s.channels.get n).stroke <;> split_ifs <;> rfl

/-! ### What a swap leaves -/

theorem swapChannel_grantFrame (s : State) (n : Fin 12) : GrantFrame s (swapChannel s n) := by
  rw [swapChannel_eq]
  cases targetFor (s.engine.buffer.get n) (s.channels.get n) with
  | none => exact .refl s
  | some x => exact takeTarget_grantFrame s n x

theorem requestMove_grantFrame (s : State) (n : Fin 12) : GrantFrame s (requestMove s n) := by
  have joined (u : State) : GrantFrame u (joinMove u n) := by
    unfold joinMove
    split
    · exact .refl u
    · exact arbiter_grantFrame _ _
  exact ((putChannel_grantFrame _ _ _).trans (joined _)).trans (grants_grantFrame _)

/-- At most the channels, the arbiter, the activity of the valves, the target buffer and the counter of free values differ:
what the swap may change. -/
def SwapFrame (s t : State) : Prop :=
  ∃ channels arbiter active buffer draws, t = { s with
    channels := channels
    arbiter := arbiter
    valves := { s.valves with activity := active }
    engine := { s.engine with buffer := buffer }
    draws := draws }

theorem SwapFrame.trans {s t u : State} (h : SwapFrame s t) (k : SwapFrame t u) : SwapFrame s u := by
  obtain ⟨_, _, _, _, _, rfl⟩ := h
  obtain ⟨_, _, _, _, _, rfl⟩ := k
  exact ⟨_, _, _, _, _, rfl⟩

theorem GrantFrame.swap {s t : State} (h : GrantFrame s t) : SwapFrame s t := by
  obtain ⟨_, _, _, rfl⟩ := h
  exact ⟨_, _, _, _, _, rfl⟩

theorem emptyBuffer_swapFrame (s : State) : SwapFrame s (emptyBuffer s) := ⟨_, _, _, _, _, rfl⟩

theorem fillFallback_eq (s : State) :
    ∃ buffer, fillFallback s = { s with engine := { s.engine with buffer := buffer } } := by
  unfold fillFallback
  split
  · exact ⟨_, rfl⟩
  · exact ⟨s.engine.buffer, rfl⟩

theorem fillFallback_swapFrame (s : State) : SwapFrame s (fillFallback s) := by
  obtain ⟨_, e⟩ := fillFallback_eq s
  rw [e]
  exact ⟨_, _, _, _, _, rfl⟩

theorem fillFallback_effectiveState (s : State) : effectiveState (fillFallback s) = effectiveState s := by
  obtain ⟨_, e⟩ := fillFallback_eq s
  rw [e]
  rfl

/-- In FALLBACK a usable channel meets its stroke, and otherwise what stage 6 has left in its slot (R70). -/
theorem targetFor_fillFallback (s : State) (n : Fin 12) :
    targetFor ((fillFallback s).engine.buffer.get n) (s.channels.get n) =
      targetFor (if s.loader.state = .fallback then (s.channels.get n).stroke else s.engine.buffer.get n)
        (s.channels.get n) := by
  unfold fillFallback fallbackBuffer
  by_cases fallback : s.loader.state = .fallback
  · by_cases usable : (s.channels.get n).calibrated = true ∧ (s.channels.get n).state ≠ .disabled
    · simp [fallback, channelUsable_iff.2 usable]
    · rw [targetFor_unusable usable, targetFor_unusable usable]
  · rw [if_neg fallback, if_neg fallback]

/-! ### All channels together -/

/-- Each channel of the swap takes its target as if it were alone; the arbiter stands. -/
theorem foldl_swapChannel : ∀ (l : List (Fin 12)) (s : State), l.Nodup →
    let t := l.foldl swapChannel s
    GrantFrame s t ∧ t.arbiter = s.arbiter ∧
    (∀ n ∈ l, t.channels.get n = (swapChannel s n).channels.get n) ∧
    ∀ n, n ∉ l → t.channels.get n = s.channels.get n
  | [], s, _ => ⟨.refl s, rfl, nofun, fun _ _ => rfl⟩
  | n :: l, s, distinct => by
    intro t
    obtain ⟨out, distinct⟩ := List.nodup_cons.1 distinct
    obtain ⟨frame, arbiter, inside, outside⟩ := foldl_swapChannel l (swapChannel s n) distinct
    have first := swapChannel_grantFrame s n
    have other (m : Fin 12) (ne : m ≠ n) : (swapChannel s n).channels.get m = s.channels.get m := by
      rw [swapChannel_eq]
      cases targetFor (s.engine.buffer.get n) (s.channels.get n) with
      | none => rfl
      | some x => exact takeTarget_channel_of_ne x ne
    have alone (m : Fin 12) (ne : m ≠ n) :
        (swapChannel (swapChannel s n) m).channels.get m = (swapChannel s m).channels.get m := by
      obtain ⟨_, _, _, e⟩ := first
      have buffer : (swapChannel s n).engine.buffer = s.engine.buffer := by rw [e]
      have config : (swapChannel s n).config = s.config := by rw [e]
      rw [swapChannel_eq (swapChannel s n) m, swapChannel_eq s m, buffer, other m ne]
      cases targetFor (s.engine.buffer.get m) (s.channels.get m) with
      | none => exact other m ne
      | some x => exact takeTarget_congr x config (other m ne)
    have still : (swapChannel s n).arbiter = s.arbiter := by
      rw [swapChannel_eq]
      cases targetFor (s.engine.buffer.get n) (s.channels.get n) with
      | none => rfl
      | some x => exact takeTarget_arbiter s n x
    refine ⟨first.trans frame, arbiter.trans still, fun m mem => ?_, fun m mem => ?_⟩
    · rcases List.mem_cons.1 mem with rfl | mem
      · exact outside m out
      · have ne : m ≠ n := fun e => out (e ▸ mem)
        exact (inside m mem).trans (alone m ne)
    · rw [List.mem_cons, not_or] at mem
      obtain ⟨ne, mem⟩ := mem
      exact (outside m mem).trans (other m ne)

end Sys2Proof.Machine
end

section
/-! The move requests of a swap, and the grants that follow (R112, R113, R130, R134). -/

namespace Sys2Proof.Machine

open Sys2Proof

/-! ### Entries and slots -/

theorem entryOf_eq_none_iff {s : State} {n : Fin 12} : entryOf s n = none ↔ unqueued s.arbiter n := by
  simp [entryOf, unqueued, List.find?_eq_none]

/-- A slot of the channel's is found, and no other channel's. -/
theorem slotOf_eq_some {s : State} {n : Fin 12} {i : Fin 3} {k : OpKind} (h : slotOf s n = some (i, k)) :
    s.arbiter.slots.get i = some ⟨n, k⟩ := by
  obtain ⟨j, -, found⟩ := List.exists_of_findSome?_eq_some h
  split at found
  · rename_i e held
    split at found
    · rename_i own
      obtain ⟨rfl, rfl⟩ := Prod.mk.inj (Option.some.inj found)
      rw [held, ← own]
    · cases found
  · cases found

theorem slotOf_eq_none_iff {s : State} {n : Fin 12} : slotOf s n = none ↔ ¬ holdsSlot s.arbiter n := by
  unfold slotOf
  rw [List.findSome?_eq_none_iff]
  constructor
  · rintro none_ ⟨i, e, held, own⟩
    have := none_ i (List.mem_finRange i)
    simp [held, own] at this
  · intro none_ i _
    split
    · rename_i e held
      exact if_neg fun own => none_ ⟨i, e, held, own⟩
    · rfl

/-- Channel `m`, its entry and its slot are the same in both states. -/
def SameDrive (m : Fin 12) (s t : State) : Prop :=
  t.channels.get m = s.channels.get m ∧ entryOf t m = entryOf s m ∧ slotOf t m = slotOf s m

theorem SameDrive.trans {m : Fin 12} {s t u : State} (h : SameDrive m s t) (k : SameDrive m t u) : SameDrive m s u := by
  obtain ⟨channel, entry, slot⟩ := h
  obtain ⟨channel', entry', slot'⟩ := k
  exact ⟨channel'.trans channel, entry'.trans entry, slot'.trans slot⟩

/-- A channel that aims for `d` has asked for its move: it waits with its entry, or drives in its slot with its limit
armed. -/
def MoveAsked (s : State) (n : Fin 12) (d : Direction) (t : State) : Prop :=
  let c := s.channels.get n
  (t.channels.get n = { c with state := .queued } ∧ entryOf t n = some ⟨n, .move⟩) ∨
  (t.channels.get n = { c with
      state := drivingState d
      move := some ⟨.move, some d, 0, some (moveLimit s c), 0, 0⟩
      wait := none } ∧ (slotOf t n).map (·.2) = some .move)

theorem MoveAsked.of_same {s t u : State} {n : Fin 12} {d : Direction} (h : MoveAsked s n d t) (k : SameDrive n t u) :
    MoveAsked s n d u := by
  unfold MoveAsked at h ⊢
  obtain ⟨channel, entry, slot⟩ := k
  rw [channel, entry, slot]
  exact h

theorem MoveAsked.of_before {s t u : State} {n : Fin 12} {d : Direction} (h : MoveAsked t n d u)
    (config : t.config = s.config) (channel : t.channels.get n = s.channels.get n) : MoveAsked s n d u := by
  unfold MoveAsked at h ⊢
  simp only [channel, moveLimit, config] at h ⊢
  exact h

/-! ### One request -/

theorem grantLoop_of_none {s : State} (h : nextGrant s.arbiter = none) : ∀ fuel, grantLoop fuel s = s
  | 0 => rfl
  | fuel + 1 => by simp only [grantLoop, h]

/-- Nothing is granted while no slot is free. -/
theorem nextGrant_of_full {a : Arbiter} (full : ∀ i, (a.slots.get i).isSome = true) : nextGrant a = none := by
  have none_ : ((List.finRange 3).find? fun i => (a.slots.get i).isNone) = none :=
    List.find?_eq_none.2 fun i _ free => by simpa [Option.isNone_iff_eq_none.1 free] using full i
  rw [nextGrant, none_]

/-- Nothing is granted while no entry may start. -/
theorem nextGrant_of_waiting {a : Arbiter} (waits : ∀ e ∈ a.queue, mayStart a e = false) : nextGrant a = none := by
  have none_ : a.queue.find? (mayStart a) = none := List.find?_eq_none.2 fun e mem => by simp [waits e mem]
  rw [nextGrant, none_]
  split
  · rename_i found; cases found
  · rfl

/-- With a slot free, the entry of a move that joins a queue in which none may start is the next granted. -/
theorem nextGrant_of_free {a : Arbiter} {q : List DriveEntry} {n : Fin 12} (queue : a.queue = q ++ [⟨n, .move⟩])
    (waits : ∀ e ∈ q, mayStart a e = false) {i : Fin 3} (free : a.slots.get i = none) :
    ∃ j, a.slots.get j = none ∧ nextGrant a = some (j, ⟨n, .move⟩) := by
  obtain ⟨j, found⟩ : ∃ j, ((List.finRange 3).find? fun i => (a.slots.get i).isNone) = some j :=
    Option.isSome_iff_exists.1 (List.find?_isSome.2 ⟨i, List.mem_finRange i, by simp [free]⟩)
  have before : q.find? (mayStart a) = none := List.find?_eq_none.2 fun e mem => by simp [waits e mem]
  have oldest : a.queue.find? (mayStart a) = some ⟨n, .move⟩ := by simp [queue, before, mayStart]
  have empty : (a.slots.get j).isNone = true := List.find?_some (p := fun i => (a.slots.get i).isNone) found
  exact ⟨j, Option.isNone_iff_eq_none.1 empty, by rw [nextGrant, found, oldest]⟩

/-- The station in which a channel without entry and slot has asked for a move, before the grants. -/
def moveJoined (s : State) (n : Fin 12) : State :=
  let s1 := putChannel s n { s.channels.get n with state := .queued }
  { s1 with arbiter := { s.arbiter with queue := s.arbiter.queue ++ [⟨n, .move⟩] } }

theorem requestMove_eq {s : State} {n : Fin 12} (entry : entryOf s n = none) (slot : slotOf s n = none) :
    requestMove s n = grants (moveJoined s n) := by
  have free : engaged (putChannel s n { s.channels.get n with state := .queued }) n = false := by
    have entry' : entryOf (putChannel s n { s.channels.get n with state := .queued }) n = none := entry
    have slot' : slotOf (putChannel s n { s.channels.get n with state := .queued }) n = none := slot
    simp [engaged, entry', slot']
  rw [requestMove, joinMove, free]
  rfl

theorem moveJoined_sameDrive (s : State) {n m : Fin 12} (other : m ≠ n) : SameDrive m s (moveJoined s n) := by
  refine ⟨putChannel_get_ne _ _ other.symm, ?_, rfl⟩
  simp [entryOf, moveJoined, List.find?_append, other.symm]

/-- A slot taken by another channel is no channel's but that one. -/
theorem slotOf_set_other {s t : State} {i : Fin 3} {e : DriveEntry} {m : Fin 12} (free : s.arbiter.slots.get i = none)
    (slots : t.arbiter.slots = s.arbiter.slots.set i (some e)) (other : e.channel ≠ m) : slotOf t m = slotOf s m := by
  unfold slotOf
  congr 1
  funext j
  rw [slots, Tab.get_set]
  by_cases own : i = j
  · subst own
    simp [free, other]
  · rw [if_neg own]

/-- The slot a channel takes is found, when it holds no other. -/
theorem slotOf_set_own {s t : State} {i : Fin 3} {e : DriveEntry} (none_ : slotOf s e.channel = none)
    (slots : t.arbiter.slots = s.arbiter.slots.set i (some e)) : slotOf t e.channel = some (i, e.kind) := by
  have held : holdsSlot t.arbiter e.channel := ⟨i, e, by rw [slots, Tab.get_set_self], rfl⟩
  obtain ⟨⟨j, k⟩, found⟩ := Option.ne_none_iff_exists'.1 fun h => slotOf_eq_none_iff.1 h held
  have own := slotOf_eq_some found
  rw [slots, Tab.get_set] at own
  split at own
  · rename_i same
    rw [found, same, Option.some.inj own]
  · exact absurd ⟨j, _, own, rfl⟩ (slotOf_eq_none_iff.1 none_)

/-- A move is granted to a channel that aims for `d`: it drives, in its slot (R113). -/
theorem grantTo_move {s : State} {n : Fin 12} {d : Direction} (i : Fin 3) (aims : aim (s.channels.get n) = some d) :
    let t := grantTo s i ⟨n, .move⟩
    t.arbiter = granted s.arbiter i ⟨n, .move⟩ ∧
    t.channels = s.channels.set n { s.channels.get n with
      state := drivingState d
      move := some ⟨.move, some d, 0, some (moveLimit s (s.channels.get n)), 0, 0⟩
      wait := none } := by
  simp only [grantTo, moveGranted, aims]
  exact ⟨rfl, rfl⟩

/-- A request takes the next free slot and drives, or waits; it touches no other channel, and leaves the drive queue at
rest. -/
theorem requestMove_asked {s : State} {n : Fin 12} {d : Direction} (rest : GrantLaw s.arbiter)
    (entry : entryOf s n = none) (slot : slotOf s n = none) (aims : aim (s.channels.get n) = some d) :
    let t := requestMove s n
    GrantLaw t.arbiter ∧ MoveAsked s n d t ∧ ∀ m, m ≠ n → SameDrive m s t := by
  intro t
  have joined : t = grants (moveJoined s n) := requestMove_eq entry slot
  have own : (moveJoined s n).channels.get n = { s.channels.get n with state := .queued } := putChannel_get_self _ _ _
  by_cases full : ∀ i, (s.arbiter.slots.get i).isSome = true
  · have result : t = moveJoined s n :=
      joined.trans (grantLoop_of_none (nextGrant_of_full (a := (moveJoined s n).arbiter) full) _)
    have queued : entryOf (moveJoined s n) n = some ⟨n, .move⟩ := by
      have before : s.arbiter.queue.find? (fun e => e.channel == n) = none := entry
      simp [entryOf, moveJoined, List.find?_append, before]
    rw [result]
    exact ⟨.inl full, .inl ⟨own, queued⟩, fun m other => moveJoined_sameDrive s other⟩
  · have waits : ∀ e ∈ s.arbiter.queue, mayStart s.arbiter e = false := fun e mem => by
      obtain ⟨kind, view⟩ := rest.resolve_left full e mem
      simp [mayStart, kind, view]
    obtain ⟨i, free⟩ := not_forall.1 full
    obtain ⟨j, free, next⟩ := nextGrant_of_free (a := (moveJoined s n).arbiter) rfl waits
      (Option.not_isSome_iff_eq_none.1 free)
    obtain ⟨arbiter, channels⟩ := grantTo_move (s := moveJoined s n) (d := d) j (by rw [own]; exact aims)
    have out : (⟨n, .move⟩ : DriveEntry) ∉ s.arbiter.queue := fun mem => entryOf_eq_none_iff.1 entry _ mem rfl
    have erased : (s.arbiter.queue ++ [(⟨n, .move⟩ : DriveEntry)]).erase ⟨n, .move⟩ = s.arbiter.queue := by
      rw [List.erase_append_right _ out]
      simp
    have taken : (grantTo (moveJoined s n) j ⟨n, .move⟩).arbiter =
        { s.arbiter with slots := s.arbiter.slots.set j (some ⟨n, .move⟩) } := by
      rw [arbiter, granted]
      simp only [moveJoined, erased]
    have result : t = grantTo (moveJoined s n) j ⟨n, .move⟩ := by
      have more : (moveJoined s n).arbiter.queue.length = s.arbiter.queue.length + 1 := List.length_append
      rw [joined, grants, more, grantLoop, next]
      exact grantLoop_of_none (nextGrant_of_waiting (by rw [taken]; exact waits)) _
    generalize grantTo (moveJoined s n) j ⟨n, .move⟩ = u at arbiter channels taken result
    have slots : u.arbiter.slots = s.arbiter.slots.set j (some ⟨n, .move⟩) := by rw [taken]
    rw [result]
    refine ⟨.inr (by rw [taken]; exact rest.resolve_left full), .inr ⟨?_, ?_⟩, fun m other => ⟨?_, ?_, ?_⟩⟩
    · rw [channels, Tab.get_set_self, own]
      rfl
    · rw [slotOf_set_own (s := s) (e := ⟨n, .move⟩) slot slots]
      rfl
    · rw [channels, Tab.get_set_ne _ _ other.symm]
      exact putChannel_get_ne _ _ other.symm
    · rw [entryOf, taken]
      rfl
    · exact slotOf_set_other (e := ⟨n, .move⟩) free slots other.symm

/-! ### The requests of a swap -/

/-- Channels without entry and slot that aim for a target all ask, one after the other. -/
theorem foldl_requestMove : ∀ (l : List (Fin 12)) (s : State), l.Nodup → GrantLaw s.arbiter →
    (∀ n ∈ l, entryOf s n = none ∧ slotOf s n = none ∧ (aim (s.channels.get n)).isSome = true) →
    let t := l.foldl requestMove s
    (∀ n ∈ l, ∀ d, aim (s.channels.get n) = some d → MoveAsked s n d t) ∧ ∀ n, n ∉ l → SameDrive n s t
  | [], s, _, _, _ => ⟨nofun, fun _ _ => ⟨rfl, rfl, rfl⟩⟩
  | n :: l, s, distinct, rest, ready => by
    intro t
    obtain ⟨out, distinct⟩ := List.nodup_cons.1 distinct
    obtain ⟨entry, slot, aims⟩ := ready n List.mem_cons_self
    obtain ⟨d, aims⟩ := Option.isSome_iff_exists.1 aims
    obtain ⟨rest', asked, others⟩ := requestMove_asked rest entry slot aims
    have apart {m : Fin 12} (mem : m ∈ l) : m ≠ n := fun e => out (e ▸ mem)
    obtain ⟨inside, outside⟩ := foldl_requestMove l (requestMove s n) distinct rest' fun m mem => by
      obtain ⟨channel, entry', slot'⟩ := others m (apart mem)
      rw [channel, entry', slot']
      exact ready m (List.mem_cons_of_mem n mem)
    have config : (requestMove s n).config = s.config := by
      obtain ⟨_, _, _, e⟩ := requestMove_grantFrame s n
      rw [e]
    refine ⟨fun m mem e aims' => ?_, fun m mem => ?_⟩
    · rcases List.mem_cons.1 mem with rfl | mem
      · obtain rfl := Option.some.inj (aims.symm.trans aims')
        exact asked.of_same (outside m out)
      · obtain ⟨channel, -⟩ := others m (apart mem)
        have later := inside m mem e (by rw [channel]; exact aims')
        exact later.of_before config channel
    · rw [List.mem_cons, not_or] at mem
      obtain ⟨ne, mem⟩ := mem
      exact (others m ne).trans (outside m mem)

theorem insertRanked_perm {α : Type} (x : Nat × α) (l : List (Nat × α)) : (insertRanked x l).Perm (x :: l) := by
  induction l with
  | nil => exact .refl _
  | cons y l ih =>
    unfold insertRanked
    split
    · exact .refl _
    · exact (ih.cons y).trans (.swap x y l)

/-- The free order is an order of the same events. -/
theorem freeOrder_perm {α : Type} (draw : Nat) (l : List α) : (freeOrder draw l).Perm l := by
  have inserted : ∀ m acc : List (Nat × α), (m.foldl (fun acc x => insertRanked x acc) acc).Perm (m ++ acc) := by
    intro m
    induction m with
    | nil => exact fun acc => .refl acc
    | cons x m ih => exact fun acc => (ih _).trans (((insertRanked_perm x acc).append_left m).trans List.perm_middle)
  unfold freeOrder
  split
  · exact .refl _
  · exact .refl _
  · have sorted := inserted (rankFrom draw 0 l).reverse []
    rw [List.append_nil] at sorted
    have events := (sorted.trans (List.reverse_perm _)).map Prod.snd
    rwa [rankFrom_snd] at events

/-- The requests of a swap are made one after the other, in some order (R134). -/
theorem takeRequests_eq (s : State) (l : List (Fin 12)) :
    ∃ (order : List (Fin 12)) (draws : Nat), order.Perm l ∧ takeRequests s l = order.foldl requestMove { s with draws := draws } := by
  unfold takeRequests
  split
  · exact ⟨[], s.draws, .refl _, rfl⟩
  · exact ⟨[_], s.draws, .refl _, rfl⟩
  · exact ⟨_, _, freeOrder_perm _ _, rfl⟩

theorem takeRequests_swapFrame (s : State) (l : List (Fin 12)) : SwapFrame s (takeRequests s l) := by
  obtain ⟨order, draws, -, e⟩ := takeRequests_eq s l
  rw [e]
  exact SwapFrame.trans ⟨_, _, _, _, _, rfl⟩
    (foldl_frame (R := GrantFrame) .refl .trans requestMove_grantFrame order { s with draws := draws }).swap

theorem swapTargets_swapFrame (s : State) : SwapFrame s (swapTargets s) := by
  have swapped := (foldl_swapChannel (List.finRange 12) s (List.nodup_finRange 12)).1
  unfold swapTargets
  dsimp only
  generalize (List.finRange 12).foldl swapChannel s = t at swapped ⊢
  exact (swapped.swap.trans (emptyBuffer_swapFrame t)).trans (takeRequests_swapFrame _ _)

theorem closeSwap_swapFrame (s : State) : SwapFrame s (closeSwap s) := by
  unfold closeSwap
  dsimp only
  split
  · exact (fillFallback_swapFrame s).trans (emptyBuffer_swapFrame _)
  · exact (fillFallback_swapFrame s).trans (swapTargets_swapFrame _)

end Sys2Proof.Machine
end

section
/-! PASS_CLOSE: the results handed on, the trim update begun, and the comparison of the extra report (R71 to R73, R103, R154). -/

namespace Sys2Proof.Machine

open Sys2Proof

/-! ### A trim update and the blocks beside it -/

/-- At most recorder, bus and the count of the pieces differ: what no trim update reads. -/
def SameForTrim (s t : State) : Prop := ∃ recorder bus cuts, t = { s with recorder := recorder, bus := bus, cuts := cuts }

theorem SameForTrim.trans {s t u : State} (h : SameForTrim s t) (k : SameForTrim t u) : SameForTrim s u := by
  obtain ⟨_, _, _, rfl⟩ := h
  obtain ⟨_, _, _, rfl⟩ := k
  exact ⟨_, _, _, rfl⟩

theorem SameForTrim.symm {s t : State} (h : SameForTrim s t) : SameForTrim t s := by
  obtain ⟨_, _, _, rfl⟩ := h
  exact ⟨_, _, _, rfl⟩

theorem FaultFrame.sameForTrim {s t : State} (h : FaultFrame s t) : SameForTrim s t := by
  obtain ⟨_, _, _, _, rfl⟩ := h
  exact ⟨_, _, _, rfl⟩

theorem measureTrim_same {s t : State} (h : SameForTrim s t) : SameForTrim (measureTrim s) (measureTrim t) := by
  obtain ⟨_, _, _, rfl⟩ := h
  unfold measureTrim
  dsimp only
  split
  · refine (report_frame _ _).sameForTrim.symm.trans (SameForTrim.trans ?_ (report_frame _ _).sameForTrim)
    exact ⟨_, _, _, rfl⟩
  · exact ⟨_, _, _, rfl⟩

/-- A step of a trim update makes the same of stations that differ beside it. -/
theorem trimStep_same {s t : State} (h : SameForTrim s t) : SameForTrim (trimStep s) (trimStep t) := by
  have update : t.valves.update = s.valves.update := by obtain ⟨_, _, _, rfl⟩ := h; rfl
  unfold trimStep
  rw [update]
  split
  · exact h
  · obtain ⟨_, _, _, rfl⟩ := h
    exact ⟨_, _, _, rfl⟩
  · exact measureTrim_same h
  · obtain ⟨_, _, _, rfl⟩ := h
    exact ⟨_, _, _, rfl⟩

theorem trimSteps_same : ∀ (k : Nat) {s t : State}, SameForTrim s t → SameForTrim (trimSteps k s) (trimSteps k t)
  | 0, _, _, h => h
  | k + 1, _, _, h => trimSteps_same k (trimStep_same h)

theorem piece_same (step : State → State) (k : Nat) (s : State) : SameForTrim (times step k s) (piece step k s) := ⟨_, _, _, rfl⟩

/-! ### The comparison of the extra report (R154) -/

theorem sendReport_reported (s : State) : sendReport s = reported s := by
  unfold sendReport reported nextRotation
  cases s.bus.rotation <;> rfl

theorem extraCalled_iff (s : State) : extraCalled s = true ↔
    s.bus.lastR + s.bus.lastR / 16 < s.engine.result.r ∨ s.engine.result.r + s.bus.lastR / 16 < s.bus.lastR := by
  simp only [extraCalled, decide_eq_true_eq]
  omega

theorem extraReport_uncalled {s : State} (above : s.engine.result.r ≤ s.bus.lastR + s.bus.lastR / 16)
    (below : s.bus.lastR ≤ s.engine.result.r + s.bus.lastR / 16) : extraReport s = s := by
  have quiet : ¬ extraCalled s = true := by rw [extraCalled_iff]; omega
  rw [extraReport, if_neg quiet]

theorem extraReport_first {s : State} (called : extraCalled s = true) (first : s.bus.lastReportAt = none) :
    extraReport s = reported s := by
  rw [extraReport, if_pos called, first]
  exact sendReport_reported s

theorem extraReport_old {s : State} {last : Nat} (called : extraCalled s = true) (built : s.bus.lastReportAt = some last)
    (old : last + 5000 ≤ s.now) : extraReport s = reported s := by
  rw [extraReport, if_pos called, built]
  exact (if_pos old).trans (sendReport_reported s)

theorem extraReport_deferred {s : State} {last : Nat} (called : extraCalled s = true)
    (built : s.bus.lastReportAt = some last) (fresh : s.now < last + 5000) :
    extraReport s = { s with bus := { s.bus with extraDue := some (s.bus.extraDue.getD (last + 5000)) } } := by
  rw [extraReport, if_pos called, built]
  exact if_neg (by omega)

/-- The comparison changes the bus only, and there neither the receive queue nor the reply slot. -/
theorem extraReport_bus (s : State) :
    ∃ bus, extraReport s = { s with bus := bus } ∧ bus.rx = s.bus.rx ∧ bus.reply = s.bus.reply := by
  have sent : ∃ bus, sendReport s = { s with bus := bus } ∧ bus.rx = s.bus.rx ∧ bus.reply = s.bus.reply :=
    ⟨_, sendReport_reported s, rfl, rfl⟩
  unfold extraReport
  split
  · split
    · exact sent
    · split
      · exact sent
      · exact ⟨_, rfl, rfl, rfl⟩
  · exact ⟨_, rfl, rfl, rfl⟩

/-! ### The close -/

/-- The station when the results have been handed on, before the trim update begins. -/
def closed (s : State) (w : PassResult) : State := handResults (closeSwap s) w (effectiveState s)

/-- At most valve tables, meter, recorder, bus and the count of the pieces differ, but for receive queue and reply slot: what
the trim update and the comparison may change. -/
def CloseFrame (s t : State) : Prop :=
  ∃ valves meter recorder bus cuts, t = { s with
    valves := valves, meter := meter, recorder := recorder, bus := bus, cuts := cuts } ∧
    bus.rx = s.bus.rx ∧ bus.reply = s.bus.reply

theorem CloseFrame.trans {s t u : State} (h : CloseFrame s t) (k : CloseFrame t u) : CloseFrame s u := by
  obtain ⟨_, _, _, _, _, rfl, rx, reply⟩ := h
  obtain ⟨_, _, _, _, _, rfl, rx', reply'⟩ := k
  exact ⟨_, _, _, _, _, rfl, rx'.trans rx, reply'.trans reply⟩

theorem CloseFrame.engine {s t : State} (h : CloseFrame s t) : t.engine = s.engine := by
  obtain ⟨_, _, _, _, _, rfl, -⟩ := h
  rfl

theorem trimPiece_closeFrame (k : Nat) (s : State) : CloseFrame s (piece trimStep k s) := by
  obtain ⟨_, _, _, _, _, _, e⟩ := trimPiece_frame k s
  exact ⟨_, _, _, _, _, e, rfl, rfl⟩

theorem extraReport_closeFrame (s : State) : CloseFrame s (extraReport s) := by
  obtain ⟨_, e, rx, reply⟩ := extraReport_bus s
  rw [e]
  exact ⟨_, _, _, _, _, rfl, rx, reply⟩

theorem closed_closeFrame (u : State) (j k : Nat) :
    CloseFrame u (piece trimStep k (extraReport (piece trimStep j (beginTrim u)))) :=
  CloseFrame.trans ⟨_, _, _, _, _, rfl, rfl, rfl⟩
    (((trimPiece_closeFrame j (beginTrim u)).trans (extraReport_closeFrame _)).trans (trimPiece_closeFrame k _))

/-- The close is the hand-on, and the trim update in two pieces with the comparison between them. -/
theorem exec_passClose {s : State} {w : PassResult} (visit : s.engine.visit = none) (work : s.engine.work = some w) :
    ∃ j k, exec .passClose s =
      .next (piece trimStep k (extraReport (piece trimStep j (beginTrim (closed s w))))) := by
  have stages : passSteps (stepsLeft s) s = s := passSteps_of_none visit _
  let compared := extraReport (freePiece trimStep (beginTrim (closed s w)))
  refine ⟨Config.freeCut (beginTrim (closed s w)).cuts, Config.freeCut compared.cuts, ?_⟩
  change execPassClose s = _
  simp only [execPassClose, stages, work]
  rfl

/-- The comparison between the two pieces changes nothing of what the trim update makes. -/
theorem trim_around_extraReport (u : State) (j k : Nat) : SameForTrim (trimSteps (j + k) (beginTrim u))
    (piece trimStep k (extraReport (piece trimStep j (beginTrim u)))) := by
  have compared (s : State) : SameForTrim s (extraReport s) := by
    obtain ⟨_, e, -⟩ := extraReport_bus s
    rw [e]
    exact ⟨_, _, _, rfl⟩
  rw [trimSteps, times_add]
  exact (trimSteps_same k ((piece_same trimStep j (beginTrim u)).trans (compared _))).trans (piece_same trimStep k _)

/-- In DEFROST the buffer is discarded (R72). -/
theorem closeSwap_defrost {s : State} (defrost : effectiveState s = .defrost) :
    closeSwap s = { s with engine := { s.engine with buffer := Tab.fill 12 none } } := by
  obtain ⟨_, e⟩ := fillFallback_eq s
  rw [closeSwap, fillFallback_effectiveState, if_pos defrost, e]
  rfl

theorem takeRequests_engine (s : State) (l : List (Fin 12)) : (takeRequests s l).engine = s.engine := by
  obtain ⟨order, draws, -, e⟩ := takeRequests_eq s l
  obtain ⟨_, _, _, frame⟩ := foldl_frame (R := GrantFrame) .refl .trans requestMove_grantFrame order
    { s with draws := draws }
  rw [e, frame]

/-- The close empties the buffer. -/
theorem closeSwap_buffer (s : State) : (closeSwap s).engine.buffer = Tab.fill 12 none := by
  unfold closeSwap
  dsimp only
  split
  · rfl
  · rw [swapTargets, takeRequests_engine]
    rfl

/-- What the close leaves before the trim update: the results handed on, and what the swap makes of the channels. -/
theorem closed_eq (s : State) (w : PassResult) : ∃ channels arbiter active draws, closed s w = { s with
    channels := channels
    arbiter := arbiter
    valves := { s.valves with activity := active }
    engine := { s.engine with
      work := none
      result := w
      demands := Tab.tabulate fun n => (s.engine.loops.get n).reported
      sourceSeen := effectiveState s
      buffer := Tab.fill 12 none }
    draws := draws } := by
  obtain ⟨_, _, _, buffer, _, e⟩ := closeSwap_swapFrame s
  have empty := closeSwap_buffer s
  rw [e] at empty
  obtain rfl : buffer = Tab.fill 12 none := empty
  rw [closed, e]
  exact ⟨_, _, _, _, rfl⟩

/-- In DEFROST no channel, no entry and no flag of the valve tables is touched (R72). -/
theorem closed_defrost {s : State} (defrost : effectiveState s = .defrost) (w : PassResult) :
    (closed s w).channels = s.channels ∧ (closed s w).arbiter = s.arbiter ∧ (closed s w).valves = s.valves := by
  rw [closed, closeSwap_defrost defrost]
  exact ⟨rfl, rfl, rfl⟩

/-! ### The rest of the stages -/

/-- A close makes the rest of the stages first (R47). -/
theorem exec_passClose_stages (s : State) : exec .passClose s = exec .passClose (passSteps (stepsLeft s) s) := by
  have ended : (passSteps (stepsLeft s) s).engine.visit = none := passSteps_visit _ s (le_refl _)
  change execPassClose s = execPassClose _
  simp only [execPassClose, passSteps_of_none ended]

/-- A pass in progress has its stages before it, or its results. -/
def passInProgress (s : State) : Prop := s.engine.visit ≠ none ∨ s.engine.work ≠ none

theorem passStep_inProgress {s : State} (h : passInProgress s) : passInProgress (passStep s) := by
  unfold passStep
  split
  · exact h
  · exact .inl (Option.some_ne_none _)
  · exact .inl (Option.some_ne_none _)
  · exact .inl (Option.some_ne_none _)
  · exact .inl (Option.some_ne_none _)
  · exact .inr (by rw [(endStages_visit _ _).2]; exact Option.some_ne_none _)

theorem passSteps_inProgress : ∀ (k : Nat) {s : State}, passInProgress s → passInProgress (passSteps k s)
  | 0, _, h => h
  | k + 1, _, h => passSteps_inProgress k (passStep_inProgress h)

end Sys2Proof.Machine

open Sys2Proof Sys2Proof.Machine

/-- Settles O22: the close is a swap, a hand-on, and a trim update that the comparison of the extra report does not touch. -/
theorem passCloseHandsOnTheResults : Obligations.PassCloseHandsOnTheResults := by
  unfold Obligations.PassCloseHandsOnTheResults
  refine ⟨fun s w visit work => ?_, fun s stages => ?_, fun s => ⟨fun above below => extraReport_uncalled above below,
    fun at_ differs built old => extraReport_old ((extraCalled_iff s).2 differs) built old,
    fun at_ differs built fresh => ?_, fun differs first => extraReport_first ((extraCalled_iff s).2 differs) first⟩⟩
  · obtain ⟨j, k, made⟩ := exec_passClose visit work
    obtain ⟨_, _, _, same⟩ := trim_around_extraReport (closed s w) j k
    obtain ⟨_, _, _, _, _, frame, rx, reply⟩ := closed_closeFrame (closed s w) j k
    obtain ⟨_, _, _, _, handed⟩ := closed_eq s w
    refine ⟨closed s w, j, k, _, made, rfl, by rw [same], by rw [same], ?_⟩
    have still := fun defrost => closed_defrost (s := s) defrost w
    rw [frame]
    dsimp only
    rw [rx, reply]
    generalize closed s w = u at handed still
    subst handed
    exact ⟨rfl, rfl, rfl, fun n => Tab.get_tabulate _ n, still, rfl, rfl, rfl, rfl, rfl, rfl, rfl, rfl, rfl, rfl, rfl, rfl,
      rfl, rfl, rfl, rfl, rfl, rfl, rfl⟩
  · have ended : (passSteps (stepsLeft s) s).engine.visit = none := passSteps_visit _ s (le_refl _)
    have results := (passSteps_inProgress (stepsLeft s) (s := s) (.inl stages)).resolve_left (absurd ended)
    exact ⟨exec_passClose_stages s, ended, Option.isSome_iff_ne_none.2 results⟩
  · rw [extraReport_deferred ((extraCalled_iff s).2 differs) built fresh]
    cases s.bus.extraDue <;> rfl

end

section
/-! The swap at PASS_CLOSE, over all channels (R70, R71, R112, R130). -/

namespace Sys2Proof.Machine

open Sys2Proof

theorem mem_swapRequests {s t : State} {n : Fin 12} : n ∈ swapRequests s t ↔
    (t.channels.get n).state = .idle ∧ (aim (t.channels.get n)).isSome = true ∧
      (t.channels.get n).live ≠ (s.channels.get n).live := by
  simp [swapRequests, and_assoc]

/-- An IDLE channel has no entry and holds no slot. -/
theorem DriveLaw.idle {s : State} (law : DriveLaw s) {n : Fin 12} (idle : (s.channels.get n).state = .idle) :
    entryOf s n = none ∧ slotOf s n = none := by
  obtain ⟨-, entries, slots, -⟩ := law
  refine ⟨?_, slotOf_eq_none_iff.2 fun held => ?_⟩
  · by_contra some_
    have queued := (entries n).1 (Option.isSome_iff_ne_none.2 some_)
    rw [idle] at queued
    cases queued
  · have slot := (slots n).1 held
    rw [idle] at slot
    cases slot

/-- A channel in which the swap leaves a move to ask for (R112): IDLE, with a new live target beyond the deadband. -/
def Asks (c c' : Channel) : Prop := c'.state = .idle ∧ (aim c').isSome = true ∧ c'.live ≠ c.live

/-- What becomes of each channel in a swap: it meets its slot, and asks for its move when there is one to ask for. -/
theorem swapTargets_channel {s : State}
    (unengaged : ∀ n, (s.channels.get n).state = .idle → entryOf s n = none ∧ slotOf s n = none)
    (rest : GrantLaw s.arbiter) (n : Fin 12) :
    let u := swapChannel s n
    (¬ Asks (s.channels.get n) (u.channels.get n) → (swapTargets s).channels.get n = u.channels.get n) ∧
    (Asks (s.channels.get n) (u.channels.get n) → ∀ d, aim (u.channels.get n) = some d →
      MoveAsked u n d (swapTargets s)) := by
  intro u
  obtain ⟨frame, arbiter, swapped, -⟩ := foldl_swapChannel (List.finRange 12) s (List.nodup_finRange 12)
  have met (m : Fin 12) := swapped m (List.mem_finRange m)
  unfold swapTargets
  dsimp only
  generalize (List.finRange 12).foldl swapChannel s = t at frame arbiter met ⊢
  obtain ⟨order, draws, perm, e⟩ := takeRequests_eq (emptyBuffer t) (swapRequests s t)
  have asking (m : Fin 12) : m ∈ order ↔ Asks (s.channels.get m) ((swapChannel s m).channels.get m) := by
    rw [perm.mem_iff, mem_swapRequests, met]
    rfl
  have ready (m : Fin 12) (mem : m ∈ order) :
      entryOf t m = none ∧ slotOf t m = none ∧ (aim (t.channels.get m)).isSome = true := by
    obtain ⟨idle, aims, -⟩ := (asking m).1 mem
    have before : (s.channels.get m).state = .idle := by
      by_contra busy
      rw [swapChannel_eq] at idle
      cases target : targetFor (s.engine.buffer.get m) (s.channels.get m) with
      | none => rw [target] at idle; exact busy idle
      | some x =>
        obtain ⟨-, -, still⟩ := takeTarget_own s m x
        rw [target] at idle
        exact still busy idle
    obtain ⟨entry, slot⟩ := unengaged m before
    rw [entryOf, slotOf, arbiter, met]
    exact ⟨entry, slot, aims⟩
  have distinct : order.Nodup := perm.nodup_iff.2 ((List.nodup_finRange 12).filter _)
  obtain ⟨asked, others⟩ := foldl_requestMove order { emptyBuffer t with draws := draws } distinct
    (by rw [← arbiter] at rest; exact rest) ready
  rw [e]
  refine ⟨fun quiet => ?_, fun asks d aims => ?_⟩
  · obtain ⟨channel, -⟩ := others n fun mem => quiet ((asking n).1 mem)
    exact channel.trans (met n)
  · have config : t.config = u.config := by
      obtain ⟨_, _, _, e⟩ := frame
      obtain ⟨_, _, _, e'⟩ := swapChannel_grantFrame s n
      rw [e, show u = _ from e']
    exact (asked n ((asking n).2 asks) d ((congrArg aim (met n)).trans aims)).of_before config (met n)

/-- The target that the close gives a channel: in FALLBACK its stroke as it stands, and otherwise what stage 6 has left in its
slot, lowered to the stroke (R70, R71). -/
def closeTarget (s : State) (n : Fin 12) : Option Nat :=
  targetFor (if s.loader.state = .fallback then (s.channels.get n).stroke else s.engine.buffer.get n) (s.channels.get n)

/-- What becomes of each channel at the close outside DEFROST, by its target. -/
theorem closed_channel {s : State} (w : PassResult) (heating : effectiveState s ≠ .defrost) (law : DriveLaw s)
    (rest : GrantLaw s.arbiter) (n : Fin 12) :
    let c := s.channels.get n
    (closeTarget s n = none → (closed s w).channels.get n = c) ∧
    ∀ x, closeTarget s n = some x →
      let u := takeTarget s n x
      (¬ Asks c (u.channels.get n) → (closed s w).channels.get n = u.channels.get n) ∧
      (Asks c (u.channels.get n) → ∀ d, aim (u.channels.get n) = some d → MoveAsked u n d (closed s w)) := by
  intro c
  have target : targetFor ((fillFallback s).engine.buffer.get n) c = closeTarget s n := targetFor_fillFallback s n
  obtain ⟨buffer, filled⟩ := fillFallback_eq s
  have swap : closeSwap s = swapTargets (fillFallback s) := by
    rw [closeSwap, fillFallback_effectiveState, if_neg heating]
  obtain ⟨quiet, asked⟩ := swapTargets_channel (s := fillFallback s) (n := n)
    (by rw [filled]; exact fun m idle => law.idle idle) (by rw [filled]; exact rest)
  rw [← swap] at quiet asked
  rw [filled] at quiet asked target
  rw [swapChannel_eq] at quiet asked
  change targetFor (buffer.get n) c = _ at target
  dsimp only at quiet asked
  rw [show s.channels.get n = c from rfl, target] at quiet asked
  refine ⟨fun none_ => ?_, fun x some_ => ?_⟩
  · rw [none_] at quiet
    refine quiet fun asks => ?_
    obtain ⟨-, -, new⟩ := asks
    exact new rfl
  · rw [some_] at quiet asked
    have same := takeTarget_congr (s := s) (u := { s with engine := { s.engine with buffer := buffer } }) (n := n) x rfl rfl
    have config : (takeTarget { s with engine := { s.engine with buffer := buffer } } n x).config =
        (takeTarget s n x).config := by
      obtain ⟨_, _, _, e⟩ := takeTarget_grantFrame s n x
      obtain ⟨_, _, _, e'⟩ := takeTarget_grantFrame { s with engine := { s.engine with buffer := buffer } } n x
      rw [e, e']
    simp only [Option.elim_some, same] at quiet asked
    exact ⟨quiet, fun asks d aims => (asked asks d aims).of_before config same⟩

/-- An IDLE channel only takes its target. -/
theorem takeTarget_idle {s : State} {n : Fin 12} (x : Nat) (idle : (s.channels.get n).state = .idle) :
    (takeTarget s n x).channels.get n = { s.channels.get n with live := some x } := by
  by_cases same : (s.channels.get n).live = some x
  · rw [takeTarget_same same, ← same]
  · rw [takeTarget_resting same (by rw [idle]; exact ⟨nofun, nofun⟩)]
    exact Tab.get_set_self _ _ _

/-- An IDLE channel that a target has made ask waits with its entry, or drives to the target's side with its limit armed. -/
theorem MoveAsked.of_idle {s t : State} {n : Fin 12} {x : Nat} (idle : (s.channels.get n).state = .idle)
    (asked : MoveAsked (takeTarget s n x) n (if (s.channels.get n).counter < x then .open else .close) t) :
    let c := s.channels.get n
    (t.channels.get n = { c with live := some x, state := .queued } ∧ entryOf t n = some ⟨n, .move⟩) ∨
    (t.channels.get n = { c with
      live := some x
      state := if c.counter < x then .drivingOpen else .drivingClose
      move := some ⟨.move, some (if c.counter < x then .open else .close), 0,
        some (2 * (c.counter - x).natAbs * s.config.countTime + 2000), 0, 0⟩
      wait := none } ∧ (slotOf t n).map (·.2) = some .move) := by
  intro c
  have state : drivingState (if c.counter < x then .open else .close) =
      if c.counter < x then .drivingOpen else .drivingClose := by split <;> rfl
  have limit : moveLimit (takeTarget s n x) { c with live := some x } =
      2 * (c.counter - x).natAbs * s.config.countTime + 2000 := by
    obtain ⟨_, _, _, e⟩ := takeTarget_grantFrame s n x
    rw [e]
    rfl
  unfold MoveAsked at asked
  rw [takeTarget_idle x idle] at asked
  dsimp only at asked
  rw [← limit, ← state]
  exact asked

end Sys2Proof.Machine

open Sys2Proof Sys2Proof.Machine

/-- Settles O23: what a channel makes of a target, and at the close the swap with the moves it asks for. -/
theorem newTargetReachesTheChannel : Obligations.NewTargetReachesTheChannel := by
  unfold Obligations.NewTargetReachesTheChannel
  refine ⟨fun s n target stroke slot has calibrated enabled => ?_, fun s n nothing => ?_, fun s n target => ?_,
    fun s w visit work heating law rest => ?_⟩
  · have taken : swapChannel s n = takeTarget s n (min target stroke) := by
      rw [swapChannel_eq, slot, targetFor_some has calibrated enabled]
      rfl
    obtain ⟨live, counter, -⟩ := takeTarget_own s n (min target stroke)
    rw [taken]
    exact ⟨live, counter, fun m other => takeTarget_channel_of_ne _ other⟩
  · rw [swapChannel_eq]
    rcases nothing with empty | flag | disabled
    · rw [empty, targetFor_none]
      rfl
    · rw [targetFor_unusable (by simp [flag])]
      rfl
    · rw [targetFor_unusable (by simp [disabled])]
      rfl
  · intro c t off
    refine ⟨fun same => takeTarget_same same, fun new rests => ?_, fun m new move ahead => ?_, fun m new move drives near => ?_,
      fun m new move behind => ?_, fun k other => takeTarget_channel_of_ne target other, takeTarget_arbiter s n target⟩
    · simp only [t, takeTarget_resting new rests, setChannel_channels, Tab.get_set_self]
      rfl
    · rcases ahead with ⟨drives, ahead⟩ | ⟨drives, ahead⟩
      · exact takeTarget_onward (d := .open) new drives move (aim_eq_open rfl ahead)
      · exact takeTarget_onward (d := .close) new drives move (aim_eq_close rfl ahead)
    · rcases drives with drives | drives
      · exact takeTarget_settles (d := .open) new drives move (aim_eq_none rfl near)
      · exact takeTarget_settles (d := .close) new drives move (aim_eq_none rfl near)
    · rcases behind with ⟨drives, behind⟩ | ⟨drives, behind⟩
      · exact takeTarget_reverses (d := .open) new drives move (aim_eq_close rfl behind) nofun
      · exact takeTarget_reverses (d := .close) new drives move (aim_eq_open rfl behind) nofun
  · obtain ⟨j, k, made⟩ := exec_passClose visit work
    obtain ⟨_, _, _, _, _, frame, -⟩ := closed_closeFrame (closed s w) j k
    refine ⟨_, made, fun n => ?_⟩
    obtain ⟨unmet, met⟩ := closed_channel w heating law rest n
    have channels := congrArg State.channels frame
    have arbiter := congrArg State.arbiter frame
    generalize piece trimStep k (extraReport (piece trimStep j (beginTrim (closed s w)))) = t at channels arbiter ⊢
    intro c c' slot target
    have own : c' = (closed s w).channels.get n := congrArg (Tab.get · n) channels
    rw [own]
    refine ⟨fun none_ => unmet none_, fun x some_ busy => ?_, fun x some_ idle near => ?_, fun x some_ idle new far => ?_⟩
    · obtain ⟨quiet, -⟩ := met x some_
      obtain ⟨-, -, still⟩ := takeTarget_own s n x
      exact quiet fun asks => still busy asks.1
    · obtain ⟨quiet, -⟩ := met x some_
      rw [takeTarget_idle x idle] at quiet
      refine quiet fun asks => ?_
      obtain ⟨-, aims, new⟩ := asks
      rcases near with same | near
      · exact new same.symm
      · have none_ : aim { c with live := some x } = none := aim_eq_none rfl near
        cases (congrArg Option.isSome none_).symm.trans aims
    · obtain ⟨-, asked⟩ := met x some_
      have taken := takeTarget_idle x idle
      have aims := aim_beyond (c := { c with live := some x }) rfl far
      rw [taken] at asked
      rw [entryOf, slotOf, arbiter]
      exact (asked ⟨idle, Option.isSome_iff_exists.2 ⟨_, aims⟩, Ne.symm new⟩ _ aims).of_idle idle

end

section
/-! The allocations of a pass and its grant (R48, R49, R64, R85, R88). -/

namespace Sys2Proof.Machine

open Sys2Proof

/-! ### Sums -/

/-- Terms that are 0 may be left out of a sum. -/
theorem sum_map_filter {α : Type} {f : α → Nat} {p : α → Bool} : ∀ {l : List α}, (∀ a ∈ l, p a = false → f a = 0) →
    (l.map f).sum = ((l.filter p).map f).sum
  | [], _ => rfl
  | a :: l, zero => by
    have ih := sum_map_filter (l := l) fun b mem => zero b (List.mem_cons_of_mem a mem)
    cases kept : p a with
    | true => simp [kept, ih]
    | false => simp [kept, ih, zero a List.mem_cons_self kept]

/-- Quotients rounded down sum to at most the quotient of the sum. -/
theorem sum_map_div_le {α : Type} (f : α → Nat) (d : Nat) : ∀ l : List α, (l.map fun a => f a / d).sum ≤ (l.map f).sum / d
  | [] => Nat.zero_le _
  | a :: l => by
    simp only [List.map_cons, List.sum_cons]
    exact (Nat.add_le_add_left (sum_map_div_le f d l) _).trans Nat.div_add_div_le_add_div

/-- One addition is counted at most once over different loops. -/
theorem sum_map_once_le (a : Addition) : ∀ {l : List (Fin 12)}, l.Nodup →
    (l.map fun n => if a.loop = n then a.flow else 0).sum ≤ a.flow
  | [], _ => Nat.zero_le _
  | n :: l, distinct => by
    obtain ⟨out, distinct⟩ := List.nodup_cons.1 distinct
    rw [List.map_cons, List.sum_cons]
    by_cases own : a.loop = n
    · have rest : (l.map fun n => if a.loop = n then a.flow else 0).sum = 0 := by
        refine List.sum_eq_zero fun x mem => ?_
        obtain ⟨m, mem, rfl⟩ := List.mem_map.1 mem
        exact if_neg fun same : a.loop = m => out (by rwa [← own, same])
      rw [if_pos own, rest, Nat.add_zero]
    · rw [if_neg own, Nat.zero_add]
      exact sum_map_once_le a distinct

/-- The additions of different loops sum to at most those there are. -/
theorem sum_additionOf_le : ∀ (additions : List Addition) {l : List (Fin 12)}, l.Nodup →
    (l.map (additionOf additions)).sum ≤ (additions.map (·.flow)).sum
  | [], l, _ => by
    have zero : additionOf [] = fun _ => 0 := rfl
    simp [zero]
  | a :: additions, l, distinct => by
    have first (n : Fin 12) : additionOf (a :: additions) n ≤ (if a.loop = n then a.flow else 0) + additionOf additions n := by
      by_cases own : a.loop = n <;> simp [additionOf, own]
    have ih := sum_additionOf_le additions distinct
    have each := List.sum_le_sum (l := l) fun n _ => first n
    rw [List.sum_map_add] at each
    have once := sum_map_once_le a distinct
    simp only [List.map_cons, List.sum_cons]
    omega

/-- The share grants its bypass additions and no more than their sum (R85, R88). -/
theorem share_grant (station r fSrc fMin : Nat) (peers : List PeerView) (cands : List Candidate) :
    let sh := share station r fSrc fMin peers cands
    sh.b = (sh.additions.map (·.flow)).sum ∧ sh.b ≤ sh.g := by
  unfold share
  dsimp only
  split_ifs <;> simp

/-! ### What the allocations depend on -/

/-- The same loops are present, and ask for and have been allotted the same. -/
def SameAllocations (s t : State) : Prop := ∀ n, (t.loops.get n).isSome = (s.loops.get n).isSome ∧
  (t.engine.loops.get n).qReq = (s.engine.loops.get n).qReq ∧ (t.engine.loops.get n).qAlloc = (s.engine.loops.get n).qAlloc

theorem SameAllocations.of_eq {s t : State} (loops : t.loops = s.loops) (held : t.engine.loops = s.engine.loops) :
    SameAllocations s t := fun n => by rw [loops, held]; exact ⟨rfl, rfl, rfl⟩

theorem allocated_congr {s t : State} (h : SameAllocations s t) : allocated t = allocated s := by
  have present : (fun n => (t.loops.get n).isSome) = fun n => (s.loops.get n).isSome := funext fun n => (h n).1
  have given : (fun n => (t.engine.loops.get n).qAlloc) = fun n => (s.engine.loops.get n).qAlloc :=
    funext fun n => (h n).2.2
  rw [allocated, present, given, allocated]

theorem allocateLoop_same {s t : State} (h : SameAllocations s t) (g : PassGrant) (r : LoopReading) :
    SameAllocations (allocateLoop g s r) (allocateLoop g t r) := by
  intro n
  obtain ⟨present, asked, given⟩ := h n
  refine ⟨present, ?_⟩
  simp only [allocateLoop_eq, Tab.get_set, allocatedAs]
  split
  · rename_i own
    subst own
    exact ⟨asked, by rw [asked]⟩
  · exact ⟨asked, given⟩

/-- What stage 4 makes of the loops that are left depends on the requests and the allocations alone. -/
theorem allocated_foldl_congr (g : PassGrant) : ∀ (l : List LoopReading) {s t : State}, SameAllocations s t →
    allocated (l.foldl (allocateLoop g) t) = allocated (l.foldl (allocateLoop g) s)
  | [], _, _, h => allocated_congr h
  | r :: l, _, _, h => allocated_foldl_congr g l (allocateLoop_same h g r)

/-- Stage 4 of several loops: each takes its allocation, and no other changes. -/
theorem foldl_allocateLoop (g : PassGrant) : ∀ (l : List LoopReading) (s : State), (l.map (·.loop)).Nodup →
    let t := l.foldl (allocateLoop g) s
    t.loops = s.loops ∧ ∀ n, t.engine.loops.get n =
      if n ∈ l.map (·.loop) then allocatedAs g n (s.engine.loops.get n) else s.engine.loops.get n
  | [], _, _ => ⟨rfl, fun _ => by simp⟩
  | r :: l, s, distinct => by
    obtain ⟨out, distinct⟩ := List.nodup_cons.1 distinct
    obtain ⟨loops, held⟩ := foldl_allocateLoop g l (allocateLoop g s r) distinct
    refine ⟨loops, fun n => ?_⟩
    rw [List.foldl_cons, held, allocateLoop_eq]
    simp only [Tab.get_set]
    by_cases own : r.loop = n
    · subst own
      simp [out]
    · simp [own, Ne.symm own]

/-- Once every loop has been read, stage 4 allots the present loops no more than the grant (R64). -/
theorem allocated_le_grant {s : State} {o : Opening} {readings : List LoopReading}
    (read : readings.map (·.loop) =
      (List.finRange 12).filter fun n => (s.loops.get n).isSome && (s.engine.loops.get n).inService)
    (out : ∀ n, (s.loops.get n).isSome = true → (s.engine.loops.get n).inService = false →
      (s.engine.loops.get n).qAlloc = 0) :
    let g := grantOf s readings (shareOf s o readings)
    allocated (readings.foldl (allocateLoop g) s) ≤ g.work.g := by
  intro g
  have distinct : (readings.map (·.loop)).Nodup := by rw [read]; exact (List.nodup_finRange 12).filter _
  obtain ⟨loops, held⟩ := foldl_allocateLoop g readings s distinct
  obtain ⟨additions, granted⟩ : g.work.b = (g.additions.map (·.flow)).sum ∧ g.work.b ≤ g.work.g :=
    share_grant (stationNumber s) (stationRequest (requestSum s)) o.fSrc o.fMin o.peers (candidates s readings)
  have served : servedLoops s = readings.map (·.loop) := by
    rw [read, servedLoops, presentLoops, List.filter_filter]
    exact List.filter_congr fun n _ => Bool.and_comm _ _
  have sum : g.sum = ((readings.map (·.loop)).map fun n => (s.engine.loops.get n).qReq).sum := by
    rw [← served]; rfl
  let given (n : Fin 12) : Nat := allocate (s.engine.loops.get n).qReq g.sum g.work.g g.work.b (additionOf g.additions n)
  let part (n : Fin 12) : Nat := (s.engine.loops.get n).qReq * (g.work.g - g.work.b) / g.sum
  have total : allocated (readings.foldl (allocateLoop g) s) = ((readings.map (·.loop)).map given).sum := by
    have idle (n : Fin 12) (mem : n ∈ (List.finRange 12).filter fun n => (s.loops.get n).isSome)
        (unserved : (s.engine.loops.get n).inService = false) :
        ((readings.foldl (allocateLoop g) s).engine.loops.get n).qAlloc = 0 := by
      have unread : n ∉ readings.map (·.loop) := by simp [read, unserved]
      rw [held, if_neg unread]
      exact out n (List.mem_filter.1 mem).2 unserved
    have inService : ((List.finRange 12).filter fun n => (s.loops.get n).isSome).filter
        (fun n => (s.engine.loops.get n).inService) = readings.map (·.loop) := by
      rw [read, List.filter_filter]
      exact List.filter_congr fun n _ => Bool.and_comm _ _
    rw [allocated, loops, sum_map_filter idle, inService]
    refine congrArg List.sum (List.map_congr_left fun n mem => ?_)
    rw [held, if_pos mem]
    rfl
  have parts : ((readings.map (·.loop)).map part).sum ≤ g.work.g - g.work.b := by
    refine (sum_map_div_le _ g.sum _).trans ?_
    rw [List.sum_map_mul_right, ← sum]
    exact Nat.div_le_of_le_mul (le_refl _)
  have added := sum_additionOf_le g.additions distinct
  have each := List.sum_le_sum (l := readings.map (·.loop)) (f := given)
    (g := fun n => part n + additionOf g.additions n) fun n _ => by
      simp only [given, part, allocate]
      split_ifs
      · exact Nat.add_le_add_right (Nat.zero_le _) _
      · exact le_refl _
  rw [List.sum_map_add] at each
  omega

end Sys2Proof.Machine
end

section
/-! The law of a pass along its stages (R48, R49, R64). -/

namespace Sys2Proof.Machine

open Sys2Proof

/-! ### The law by the stage -/

/-- The law while the loops are read: what is kept of those read are the readings of those in service, and those out of
service have no allocation. -/
def ReadLaw (s : State) (todo : List (Fin 12)) (readings : List LoopReading) : Prop :=
  ∃ m, todo = (List.finRange 12).drop m ∧
    readings.map (·.loop) = ((List.finRange 12).take m).filter (fun n =>
      (s.loops.get n).isSome && (s.engine.loops.get n).inService) ∧
    ∀ n ∈ (List.finRange 12).take m, (s.loops.get n).isSome = true → (s.engine.loops.get n).inService = false →
      (s.engine.loops.get n).qAlloc = 0

/-- The law from stage 3 on: with what stage 4 has still to allot, the allocations sum to at most the grant. -/
def AllotLaw (s : State) (g : PassGrant) (todo : List LoopReading) : Prop :=
  (g.additions.map (·.loop)).Nodup ∧ allocated (todo.foldl (allocateLoop g) s) ≤ g.work.g

/-- The law of a pass in its stages. -/
def StageLaw (s : State) (v : PassVisit) : Prop :=
  s.engine.work = none ∧ match v.stage with
    | .read todo readings => ReadLaw s todo readings
    | .allocate g todo => AllotLaw s g todo
    | .target g _ todo => AllotLaw s g todo

/-- The law of a pass, but for what it says of the trim update. -/
def StagesLaw (s : State) : Prop :=
  (∀ v, s.engine.visit = some v → StageLaw s v) ∧ ∀ w, s.engine.work = some w → allocated s ≤ w.g

theorem passLaw_iff {s : State} : PassLaw s ↔
    StagesLaw s ∧ (s.valves.update ≠ none → s.engine.visit = none ∧ s.engine.work = none) :=
  ⟨fun ⟨stages, results, trim⟩ => ⟨⟨stages, results⟩, trim⟩, fun ⟨⟨stages, results⟩, trim⟩ => ⟨stages, results, trim⟩⟩

theorem StagesLaw.of_stage {s : State} {v : PassVisit} (visit : s.engine.visit = some v) (law : StageLaw s v) :
    StagesLaw s := by
  refine ⟨fun x some_ => ?_, fun w some_ => ?_⟩
  · obtain rfl := Option.some.inj (visit.symm.trans some_)
    exact law
  · cases law.1.symm.trans some_

/-- With no pass in progress there is nothing to keep. -/
theorem passLaw_of_idle {s : State} (visit : s.engine.visit = none) (work : s.engine.work = none) : PassLaw s := by
  refine passLaw_iff.2 ⟨⟨fun v some_ => ?_, fun w some_ => ?_⟩, fun _ => ⟨visit, work⟩⟩
  · cases visit.symm.trans some_
  · cases work.symm.trans some_

theorem AllotLaw.of_same {s t : State} {g : PassGrant} {todo : List LoopReading} (h : AllotLaw s g todo)
    (same : SameAllocations s t) : AllotLaw t g todo := by
  obtain ⟨once, sum⟩ := h
  exact ⟨once, by rw [allocated_foldl_congr g todo same]; exact sum⟩

theorem ReadLaw.of_same {s t : State} {todo : List (Fin 12)} {readings : List LoopReading} (h : ReadLaw s todo readings)
    (present : ∀ n, (t.loops.get n).isSome = (s.loops.get n).isSome) (held : t.engine.loops = s.engine.loops) :
    ReadLaw t todo readings := by
  unfold ReadLaw
  simp only [present, held]
  exact h

/-! ### Stages 1 and 2 -/

/-- A loop that has been read is in service exactly when its reading is kept, and out of service it has no allocation. -/
theorem stageOne_reading (o : Opening) (s : State) (n : Fin 12) :
    let t := stageOne o s n
    (readingOf s n).map (·.loop) = [n].filter (fun n => (t.loops.get n).isSome && (t.engine.loops.get n).inService) ∧
    ((t.loops.get n).isSome = true → (t.engine.loops.get n).inService = false → (t.engine.loops.get n).qAlloc = 0) := by
  cases present : s.loops.get n with
  | none => simp [stageOne_absent present, readingOf_absent present, present]
  | some l =>
    by_cases serves : Servable s n l
    · have inService : (servedLoop s o n l (s.engine.loops.get n)).1.inService = true := rfl
      simp [stageOne_serving present serves, readingOf_serving present serves, inService]
    · simp [stageOne_idle present serves, readingOf_idle present serves, outOfServiceLoop]

theorem readLaw_next {s : State} {n : Fin 12} {todo : List (Fin 12)} {readings : List LoopReading} (o : Opening)
    (law : ReadLaw s (n :: todo) readings) : ReadLaw (stageOne o s n) todo (readings ++ readingOf s n) := by
  obtain ⟨m, left, read, out⟩ := law
  have here : (List.finRange 12)[m]? = some n := by rw [← List.head?_drop, ← left]; rfl
  have before : (List.finRange 12).take (m + 1) = (List.finRange 12).take m ++ [n] := by
    rw [List.take_add_one, here]; rfl
  have once : ((List.finRange 12).take (m + 1)).Nodup := (List.nodup_finRange 12).sublist (List.take_sublist _ _)
  have other {k : Fin 12} (mem : k ∈ (List.finRange 12).take m) : k ≠ n := by
    rw [before] at once
    exact fun e => (List.nodup_append.1 once).2.2 k mem n List.mem_cons_self e
  obtain ⟨own, ownOut⟩ := stageOne_reading o s n
  refine ⟨m + 1, ?_, ?_, fun k mem => ?_⟩
  · rw [← List.tail_drop, ← left]; rfl
  · rw [List.map_append, read, own, before, List.filter_append]
    congr 1
    refine List.filter_congr fun k mem => ?_
    obtain ⟨loop, held⟩ := stageOne_other o s (other mem)
    rw [loop, held]
  · rw [before, List.mem_append, List.mem_singleton] at mem
    rcases mem with mem | rfl
    · obtain ⟨loop, held⟩ := stageOne_other o s (other mem)
      rw [loop, held]
      exact out k mem
    · exact ownOut

/-! ### Stages 3 to 6 -/

/-- Stage 3 grants what stage 4 will allot. -/
theorem stageThree_law {s : State} {o : Opening} {readings : List LoopReading} (law : ReadLaw s [] readings) :
    AllotLaw (stageThree s o readings) (grantOf s readings (shareOf s o readings)) readings := by
  obtain ⟨m, left, read, out⟩ := law
  have all : (List.finRange 12).take m = List.finRange 12 := by
    have parts := List.take_append_drop m (List.finRange 12)
    rwa [← left, List.append_nil] at parts
  rw [all] at read out
  have distinct : (readings.map (·.loop)).Nodup := by rw [read]; exact (List.nodup_finRange 12).filter _
  have law : AllotLaw s (grantOf s readings (shareOf s o readings)) readings :=
    ⟨share_additions ((candidates_sublist s readings).nodup distinct),
      allocated_le_grant read fun n => out n (List.mem_finRange n)⟩
  refine law.of_same (.of_eq ?_ ?_)
  all_goals rw [stageThree_eq]

theorem targetLoop_same (o : Opening) (s : State) (r : LoopReading) : SameAllocations s (targetLoop o s r) := by
  intro n
  obtain ⟨_, _, frame⟩ := targetLoop_servingFrame o s r
  refine ⟨by rw [frame], ?_⟩
  by_cases own : n = r.loop
  · subst own
    cases present : s.loops.get r.loop with
    | none => rw [targetLoop_absent present]; exact ⟨rfl, rfl⟩
    | some l =>
      rw [targetLoop_present present]
      simp
  · rw [(targetLoop_other o s own).1]; exact ⟨rfl, rfl⟩

/-- Every step of a pass keeps the law of its stages. -/
theorem passStep_stagesLaw {s : State} (law : StagesLaw s) : StagesLaw (passStep s) := by
  unfold passStep
  split
  · exact law
  · rename_i o n todo readings visit
    obtain ⟨work, read⟩ := law.1 _ visit
    obtain ⟨_, _, frame⟩ := stageOne_readingFrame o s n
    exact .of_stage rfl ⟨by rw [frame]; exact work, (readLaw_next o read).of_same (fun _ => rfl) rfl⟩
  · rename_i o readings visit
    obtain ⟨work, read⟩ := law.1 _ visit
    have engine : (stageThree s o readings).engine = { s.engine with
        visit := some ⟨o, .allocate (grantOf s readings (shareOf s o readings)) readings⟩ } := by rw [stageThree_eq]
    exact .of_stage (by rw [engine]) ⟨by rw [engine]; exact work, stageThree_law read⟩
  · rename_i o g r todo visit
    obtain ⟨work, once, sum⟩ := law.1 _ visit
    exact .of_stage rfl ⟨work, AllotLaw.of_same (s := allocateLoop g s r) ⟨once, sum⟩ (.of_eq rfl rfl)⟩
  · rename_i o g r todo visit
    obtain ⟨work, allot⟩ := law.1 _ visit
    obtain ⟨_, _, frame⟩ := targetLoop_servingFrame o s r
    exact .of_stage rfl ⟨by rw [frame]; exact work, (allot.of_same (targetLoop_same o s r)).of_same (.of_eq rfl rfl)⟩
  · rename_i o g visit
    obtain ⟨-, -, sum⟩ := law.1 _ visit
    obtain ⟨ended, results⟩ := endStages_visit s g.work
    obtain ⟨_, e, -⟩ := endStages_eq s g.work
    refine ⟨fun v some_ => ?_, fun w some_ => ?_⟩
    · cases ended.symm.trans some_
    · obtain rfl := Option.some.inj (results.symm.trans some_)
      rw [allocated_congr (s := s) (.of_eq (by rw [e]) (by rw [e]))]
      exact sum

theorem passSteps_stagesLaw : ∀ (k : Nat) {s : State}, StagesLaw s → StagesLaw (passSteps k s)
  | 0, _, law => law
  | k + 1, _, law => passSteps_stagesLaw k (passStep_stagesLaw law)

/-- The opening of a pass keeps it: no loop has been read. -/
theorem openVisit_stagesLaw {s : State} (work : s.engine.work = none) : StagesLaw (openVisit s) := by
  obtain ⟨_, _, _, opened⟩ := openVisit_eq s
  rw [opened]
  exact .of_stage rfl ⟨work, 0, rfl, rfl, fun n mem => absurd mem List.not_mem_nil⟩

end Sys2Proof.Machine
end

section
/-! What leaves a pass in progress as it stands: the operations of the other blocks (R48, R49). -/

namespace Sys2Proof.Machine

open Sys2Proof

/-- A pass in progress stands: the same loops are present, the engine holds the same of them, stage and results stand, and no
trim update begins. -/
structure PassStands (s t : State) : Prop where
  present : ∀ n, (t.loops.get n).isSome = (s.loops.get n).isSome
  held : t.engine.loops = s.engine.loops
  visit : t.engine.visit = s.engine.visit
  work : t.engine.work = s.engine.work
  update : s.valves.update = none → t.valves.update = none

theorem PassStands.trans {s t u : State} (h : PassStands s t) (k : PassStands t u) : PassStands s u where
  present n := (k.present n).trans (h.present n)
  held := k.held.trans h.held
  visit := k.visit.trans h.visit
  work := k.work.trans h.work
  update none_ := k.update (h.update none_)

/-- Where loops, engine and trim update stand, the pass does. -/
theorem PassStands.of_same {s t : State} (loops : t.loops = s.loops) (engine : t.engine = s.engine)
    (update : t.valves.update = s.valves.update) : PassStands s t where
  present n := by rw [loops]
  held := by rw [engine]
  visit := by rw [engine]
  work := by rw [engine]
  update none_ := update.trans none_

theorem PassStands.refl (s : State) : PassStands s s := .of_same rfl rfl rfl

/-- What stands between two stations that differ beside loops, engine and trim update. -/
theorem PassStands.afterSame {s t u : State} (h : PassStands t u) (loops : t.loops = s.loops) (engine : t.engine = s.engine)
    (update : t.valves.update = s.valves.update) : PassStands s u := (of_same loops engine update).trans h

theorem PassStands.thenSame {s t u : State} (h : PassStands s t) (loops : u.loops = t.loops) (engine : u.engine = t.engine)
    (update : u.valves.update = t.valves.update) : PassStands s u := h.trans (of_same loops engine update)

theorem PassStands.ite {c : Prop} [Decidable c] {s t : State} (h : PassStands s t) : PassStands s (if c then t else s) := by
  split
  · exact h
  · exact .refl s

/-- What leaves a pass as it stands keeps its law. -/
theorem PassLaw.of_stands {s t : State} (law : PassLaw s) (h : PassStands s t) : PassLaw t := by
  obtain ⟨⟨stages, results⟩, trim⟩ := passLaw_iff.1 law
  have same : SameAllocations s t := fun n => by rw [h.held]; exact ⟨h.present n, rfl, rfl⟩
  refine passLaw_iff.2 ⟨⟨fun v visit => ?_, fun w work => ?_⟩, fun busy => ?_⟩
  · obtain ⟨work, law⟩ := stages v (h.visit.symm.trans visit)
    refine ⟨h.work.trans work, ?_⟩
    obtain ⟨o, stage⟩ := v
    cases stage with
    | read todo readings => exact ReadLaw.of_same law h.present h.held
    | allocate g todo => exact AllotLaw.of_same law same
    | target g r todo => exact AllotLaw.of_same law same
  · rw [allocated_congr same]
    exact results w (h.work.symm.trans work)
  · rw [h.visit, h.work]
    exact trim fun none_ => busy (h.update none_)

/-! ### Frames -/

theorem FaultFrame.stands {s t : State} (h : FaultFrame s t) : PassStands s t := by
  obtain ⟨_, _, _, _, rfl⟩ := h
  exact .of_same rfl rfl rfl

theorem DriveFrame.stands {s t : State} (h : DriveFrame s t) : PassStands s t := by
  obtain ⟨_, _, _, _, _, _, _, rfl⟩ := h
  exact .of_same rfl rfl rfl

theorem trimStep_stands (s : State) : PassStands s (trimStep s) := by
  obtain ⟨still, -⟩ := trimStep_update s
  obtain ⟨_, _, _, _, _, _, e⟩ := trimStep_frame s
  exact ⟨fun n => by rw [e], by rw [e], by rw [e], by rw [e], still⟩

theorem elapse_stands (d : Nat) (s : State) : PassStands s (elapse d s) where
  present n := by
    have kept := congrArg Option.isSome (elapse_loop s d n)
    rwa [Option.isSome_map, Option.isSome_map] at kept
  held := elapse_engine_loops s d
  visit := elapse_engine_visit s d
  work := elapse_engine_work s d
  update none_ := by rw [elapse_valves]; exact none_

theorem times_stands {step : State → State} (one : ∀ s, PassStands s (step s)) (k : Nat) (s : State) :
    PassStands s (times step k s) := times_frame .refl .trans one k s

theorem piece_stands {step : State → State} (one : ∀ s, PassStands s (step s)) (k : Nat) (s : State) :
    PassStands s (piece step k s) := (times_stands one k s).thenSame rfl rfl rfl

/-! ### Chains -/

theorem setLoop_stands {s : State} {n : Fin 12} {l : Loop} (present : s.loops.get n = some l) (k : Loop) :
    PassStands s (setLoop s n k) := by
  refine ⟨fun m => ?_, rfl, rfl, rfl, id⟩
  rw [setLoop_loops, Tab.get_set]
  split
  · rename_i own
    rw [← own, present]
    rfl
  · rfl

theorem push_stands (s : State) (n c k f) : PassStands s (push s n c k f).1 := by
  unfold push
  split
  · exact .refl s
  · split
    · exact (report_frame _ _).stands
    · exact setLoop_stands ‹_› _

theorem withdraw_stands (s : State) (n o) : PassStands s (withdraw s n o) := by
  unfold withdraw
  split
  · exact .refl s
  · exact setLoop_stands ‹_› _

theorem baseSwitch_stands (s : State) (n k f) : PassStands s (baseSwitch s n k f) := by
  unfold baseSwitch
  split
  · exact .refl s
  · split
    · exact .refl s
    · split
      · exact .refl s
      · split
        · exact (report_frame _ _).stands
        · exact setLoop_stands ‹_› _

theorem noticeStep_stands (s : State) : PassStands s (noticeStep s) := by
  have change (k) (s : State) (x) : PassStands s (noticeChange k s x) := by
    unfold noticeChange
    split
    · exact .refl s
    · split
      · exact push_stands _ _ _ _ _
      · exact withdraw_stands _ _ _
      · exact baseSwitch_stands _ _ _ _
  unfold noticeStep
  split
  · exact .refl s
  · exact .of_same rfl rfl rfl
  · exact (change _ s _).thenSame rfl rfl rfl

/-! ### The dry-out sequencer -/

theorem setInstance_stands (s : State) (p i) : PassStands s (setInstance s p i) :=
  .of_same (setInstance_loops s p i) (setInstance_engine s p i) (by rw [setInstance_valves])

theorem sendReply_stands (s : State) (f c a) : PassStands s (sendReply s f c a) := .of_same rfl rfl rfl

theorem pushMember_stands (p k) (s : State) (n) : PassStands s (pushMember p k s n) := by
  unfold pushMember
  dsimp only
  split
  · exact (push_stands _ _ _ _ _).trans (setInstance_stands _ _ _)
  · exact push_stands _ _ _ _ _

/-- A step of the sequencer changes chains and instances, and pushes and withdrawals leave every loop present. -/
theorem dryStep_stands (s : State) : PassStands s (dryStep s) := by
  unfold dryStep
  split
  · exact .refl s
  · split
    · exact (pushMember_stands _ _ _ _).thenSame rfl rfl rfl
    · unfold endStart
      dsimp only
      split
      · exact .of_same rfl rfl rfl
      · exact (setInstance_stands _ _ _).thenSame rfl rfl rfl
    · exact (withdraw_stands _ _ _).thenSame rfl rfl rfl
    · unfold endWithdrawals
      dsimp only
      split <;> exact (setInstance_stands _ _ _).thenSame rfl rfl rfl
    · exact (report_frame _ _).stands.thenSame rfl rfl rfl
    · unfold dryReply
      split <;> exact .of_same rfl rfl rfl

theorem finishDry_stands (s : State) : PassStands s (finishDry s) := times_stands dryStep_stands _ s

theorem beginDry_stands (s : State) (o) : PassStands s (beginDry s o) :=
  (piece_stands dryStep_stands _ { s with operation := some o }).afterSame rfl rfl rfl

theorem stepEnd_stands (s : State) (p) : PassStands s (stepEnd s p) := by
  unfold stepEnd
  dsimp only
  split
  · split
    · exact setInstance_stands _ _ _
    · exact (setInstance_stands _ _ _).trans (beginDry_stands _ _)
  · exact .refl s

theorem lateStepEnd_stands (b) (s : State) (p) : PassStands s (lateStepEnd b s p) := by
  unfold lateStepEnd
  split
  · exact (finishDry_stands s).trans (stepEnd_stands _ _)
  · exact .refl s

theorem startProgram_stands (s : State) (p f) : PassStands s (startProgram s p f) := by
  unfold startProgram
  dsimp only
  split
  · exact sendReply_stands _ _ _ _
  · split
    · exact sendReply_stands _ _ _ _
    · exact (setInstance_stands _ _ _).trans (beginDry_stands _ _)

theorem stopProgram_stands (s : State) (p f) : PassStands s (stopProgram s p f) := by
  unfold stopProgram
  dsimp only
  split
  · exact (setInstance_stands _ _ _).trans (beginDry_stands _ _)
  · exact sendReply_stands _ _ _ _

/-! ### The source record -/

theorem GrantFrame.stands {s t : State} (h : GrantFrame s t) : PassStands s t := by
  obtain ⟨_, _, _, rfl⟩ := h
  exact .of_same rfl rfl rfl

theorem followHeating_stands (s : State) (before after) : PassStands s (followHeating s before after) := by
  have pause (s : State) (p) : PassStands s (pauseProgram s p) := by
    rw [pauseProgram_eq]; exact setInstance_stands _ _ _
  have resume (s : State) (p) : PassStands s (resumeProgram s p) := by
    rw [resumeProgram_eq]; exact setInstance_stands _ _ _
  unfold followHeating resumePrograms
  split
  · exact (pause s _).trans (pause _ _)
  · split
    · exact (((resume s _).trans (resume _ _)).trans (lateStepEnd_stands _ _ _)).trans (lateStepEnd_stands _ _ _)
    · exact .refl s

theorem followSource_stands (s : State) (before) : PassStands s (followSource s before) :=
  (followView_grantFrame s _).stands.trans (followHeating_stands _ _ _)

theorem beforeHeating_stands (s : State) (st) : PassStands s (beforeHeating s st) := .ite (finishDry_stands s)

theorem takeSourceReport_stands (s : State) (f) : PassStands s (takeSourceReport s f) := by
  unfold takeSourceReport
  split
  · exact .refl s
  · split
    · exact .of_same rfl rfl rfl
    · split
      · exact (report_frame _ _).stands
      · exact (beforeHeating_stands s _).trans ((followSource_stands _ _).afterSame rfl rfl rfl)

theorem staleSource_stands (s : State) : PassStands s (staleSource s) :=
  (beforeHeating_stands s .heating).trans (((report_frame _ _).stands.trans (followSource_stands _ _)).afterSame
    (t := { beforeHeating s .heating with peers := { (beforeHeating s .heating).peers with
      source := { s.peers.source with age := ⟨61, 0⟩, validity := .stale } } }) rfl rfl rfl)

/-! ### Frames handed on, and requests -/

/-- What takes a head frame: the request before it is answered, and the frame leaves the queue. -/
theorem handedOn_stands {take : State → Frame → State} (h : ∀ s f, PassStands s (take s f)) (s : State) (c : Instr) :
    PassStands s (match takeHead s c with
      | some (f, s1) => take s1 f
      | none => s) := by
  split
  · rename_i taken
    obtain ⟨-, -, rfl⟩ := takeHead_eq_some.1 taken
    have answered : PassStands s (answerOpen s) := .ite (finishDry_stands s)
    exact (answered.thenSame (u := popped (answerOpen s)) rfl rfl rfl).trans (h _ _)
  · exact .refl s

theorem takeRequest_stands {carry : Byte → List Byte → State → State} (h : ∀ code args s, PassStands s (carry code args s))
    (s : State) (f : Frame) : PassStands s (takeRequest s f carry) := by
  unfold takeRequest
  split
  · split
    · exact .of_same rfl rfl rfl
    · split
      · exact .of_same rfl rfl rfl
      · split
        · exact .of_same rfl rfl rfl
        · exact h _ _ _
  · exact .refl s

theorem answerRequest_stands {carry : List Byte → State → State × Answer} (h : ∀ args s, PassStands s (carry args s).1)
    (s : State) (f : Frame) : PassStands s (answerRequest s f carry) :=
  takeRequest_stands (fun _ args s => (h args s).trans (sendReply_stands _ _ _ _)) s f

theorem carryDryout_stands {operation : State → Prog → Frame → State} (h : ∀ s p f, PassStands s (operation s p f))
    (f : Frame) (code : Byte) (args : List Byte) (s : State) : PassStands s (carryDryout operation f code args s) := by
  unfold carryDryout
  split
  · exact sendReply_stands _ _ _ _
  · exact (finishDry_stands s).trans (h _ _ _)

theorem partAnswer_stands (parts asked) (s : State) : PassStands s (partAnswer parts asked s).1 := by
  unfold partAnswer
  dsimp only
  split
  · split <;> exact .refl s
  · exact .of_same rfl rfl rfl

theorem carryReadLoop_stands (args) (s : State) : PassStands s (carryReadLoop args s).1 := by
  unfold carryReadLoop
  split
  · exact .of_same rfl rfl rfl
  · split
    · exact partAnswer_stands _ _ _
    · exact .of_same rfl rfl rfl
    · exact .of_same rfl rfl rfl

theorem carryRecalibrate_stands (args) (s : State) : PassStands s (carryRecalibrate args s).1 := by
  unfold carryRecalibrate
  split
  · exact .refl s
  · split
    · split
      · exact .refl s
      · exact (foldl_frame .refl .trans (fun s n => requestCalibration_frame s n true) _ s).stands
    · split
      · exact .refl s
      · split
        · exact (requestCalibration_frame _ _ _).stands
        · exact .refl s

theorem carryClearFaults_stands (args) (s : State) : PassStands s (carryClearFaults args s).1 := by
  unfold carryClearFaults
  split <;> exact .of_same rfl rfl rfl

theorem carryAlertMask_stands (args) (s : State) : PassStands s (carryAlertMask args s).1 := by
  have mask (slot on) : PassStands s (maskSlot s slot on) := by
    unfold maskSlot
    dsimp only
    split
    · exact .of_same rfl rfl rfl
    · split
      · exact (raiseAlerts_frame _ _).stands.afterSame rfl rfl rfl
      · exact .of_same rfl rfl rfl
  unfold carryAlertMask
  split
  · split
    · exact mask _ _
    · exact .refl s
  · exact .refl s

theorem carryAlertEnable_stands (args) (s : State) : PassStands s (carryAlertEnable args s).1 := by
  unfold carryAlertEnable
  split <;> exact .of_same rfl rfl rfl

/-! ### Reports and samples -/

theorem takeRoomReport_stands (s : State) (f) : PassStands s (takeRoomReport s f) := by
  unfold takeRoomReport
  dsimp only
  split
  · exact .of_same rfl rfl rfl
  · split
    · exact .of_same rfl rfl rfl
    · split
      · exact .of_same rfl rfl rfl
      · exact .of_same rfl rfl rfl
      · split
        · exact .of_same rfl rfl rfl
        · split <;> exact .of_same rfl rfl rfl

theorem ageRoom_stands (s : State) (room secs st) : PassStands s (ageRoom s room secs st) := by
  unfold ageRoom
  split <;> exact .of_same rfl rfl rfl

theorem orphanRoom_stands (s : State) (room b) : PassStands s (orphanRoom s room b) :=
  (ageRoom_stands s _ _ _).trans (report_frame _ _).stands

theorem takeStationReport_stands (s : State) (f) : PassStands s (takeStationReport s f) := by
  unfold takeStationReport
  dsimp only
  split
  · exact .refl s
  · split
    · split
      · exact (report_frame _ _).stands
      · split <;> exact .of_same rfl rfl rfl
    · exact .of_same rfl rfl rfl

theorem receive_stands (s : State) (f) : PassStands s (receive s f) := by
  unfold receive
  dsimp only
  split
  · exact (report_frame _ _).stands.afterSame rfl rfl rfl
  · split
    · exact .of_same rfl rfl rfl
    · exact (report_frame _ _).stands.afterSame rfl rfl rfl

theorem takeSample_stands (s : State) (n code) : PassStands s (takeSample s n code) := by
  unfold takeSample
  dsimp only
  split
  · exact (report_frame _ _).stands.afterSame rfl rfl rfl
  · exact .of_same rfl rfl rfl

end Sys2Proof.Machine
end

section
/-! The law of a pass along every step (R48, R49, R64). -/

namespace Sys2Proof.Machine

open Sys2Proof

/-! ### The pass itself -/

/-- A pass changes no valve table. -/
theorem passStep_valves (s : State) : (passStep s).valves = s.valves := by
  obtain ⟨_, _, _, _, _, _, e⟩ := passStep_frame s
  rw [e]

theorem passStep_law {s : State} (law : PassLaw s) : PassLaw (passStep s) := by
  obtain ⟨stages, trim⟩ := passLaw_iff.1 law
  refine passLaw_iff.2 ⟨passStep_stagesLaw stages, fun busy => ?_⟩
  rw [passStep_valves] at busy
  rw [show passStep s = s from passSteps_of_none (trim busy).1 1]
  exact trim busy

theorem passSteps_law : ∀ (k : Nat) {s : State}, PassLaw s → PassLaw (passSteps k s)
  | 0, _, law => law
  | k + 1, _, law => passSteps_law k (passStep_law law)

theorem piece_law {step : State → State} {s : State} {k : Nat} (law : PassLaw (times step k s)) :
    PassLaw (piece step k s) := law.of_stands (.of_same rfl rfl rfl)

/-- A pass that begins keeps the law, in its opening and in its first piece. -/
theorem beginPass_law {s : State} (may : passMayBegin s = true) : PassLaw (beginPass s) := by
  obtain ⟨-, -, work⟩ := passMayBegin_iff.1 may
  obtain ⟨_, _, _, _, _, _, trimmed⟩ := finishTrim_frame s
  refine piece_law (passSteps_law _ (openVisit_law ?_ ?_))
  · rw [elapse_engine_work, trimmed]
    exact work
  · rw [elapse_valves]
    exact finishTrim_update s

/-- A close ends the pass; with no pass in progress it does nothing. -/
theorem exec_passClose_law {s t : State} (law : PassLaw s) (h : exec .passClose s = .next t) : PassLaw t := by
  rw [exec_passClose_stages] at h
  have stages := passSteps_law (stepsLeft s) law
  have visit := passSteps_visit _ s (le_refl _)
  generalize passSteps (stepsLeft s) s = u at h stages visit
  cases work : u.engine.work with
  | none =>
    have still : exec .passClose u = .next u := by
      change execPassClose u = _
      simp only [execPassClose, passSteps_of_none visit, work]
    obtain rfl := Host.Outcome.next.inj (still.symm.trans h)
    exact stages
  | some w =>
    obtain ⟨j, k, made⟩ := exec_passClose visit work
    obtain ⟨_, _, _, _, handed⟩ := closed_eq u w
    obtain rfl := Host.Outcome.next.inj (made.symm.trans h)
    have engine := (closed_closeFrame (closed u w) j k).engine.trans (congrArg State.engine handed)
    exact passLaw_of_idle ((congrArg Engine.visit engine).trans visit) (congrArg Engine.work engine)

/-- A start leaves no pass in progress. -/
theorem startStation_law (s : State) : PassLaw (startStation s) := by
  obtain ⟨-, -, -, engine, -⟩ := startStation_beside s
  exact passLaw_of_idle (congrArg Engine.visit engine) (congrArg Engine.work engine)

/-! ### The other commands -/

theorem stallTaken_frame (s : State) (n : Fin 12) : DriveFrame s (stallTaken s n) := by
  unfold stallTaken
  dsimp only
  split
  · split
    · exact seatFound_frame s n
    · exact blockedStall_frame s n
  · exact blockedStall_frame s n
  · exact putChannel_frame s n _
  · exact calibrationStroke_frame s n
  all_goals exact .refl s

/-- The end of one of a channel's timers: time passes, and the channel's own event follows. -/
theorem driveEvent_stands {c : Prop} [Decidable c] {taken : State → State} (h : ∀ s, DriveFrame s (taken s)) (d : Nat)
    (s : State) : PassStands s (if c then taken (elapse d s) else s) := .ite ((elapse_stands d s).trans (h _).stands)

theorem feedbackEdge_stands (s : State) (n : Fin 12) (a b : Bool) : PassStands s (feedbackEdge s n a b) := by
  unfold feedbackEdge
  dsimp only
  split
  · exact .refl s
  · exact (judgeChannel_frame _ n).stands.afterSame rfl rfl rfl
  · exact (judgeChannel_frame _ n).stands.afterSame rfl rfl rfl

theorem execModeNotice_stands {s t : State} (h : execModeNotice s = .next t) : PassStands s t := by
  obtain rfl := Host.Outcome.next.inj h
  split
  · exact .refl s
  · rename_i notice later _
    have before : PassStands s (finishNotice { s with rooms := { s.rooms with notices := later } }) :=
      (times_stands noticeStep_stands _ _).afterSame rfl rfl rfl
    exact before.trans ((piece_stands noticeStep_stands _ (beginNotice _ notice)).afterSame rfl rfl rfl)

/-- The transmitter's events on the line touch no other block. -/
theorem execTransmit_stands {s t : State} : (execTransmitStart s = .next t ∨ execArbitrationLost s = .next t ∨
    execArbitrationWon s = .next t ∨ execFrameSent s = .next t ∨ execFrameBrokenOff s = .next t) → PassStands s t := by
  have set (x) : PassStands s (setTx s x) := .of_same rfl rfl rfl
  rintro (h | h | h | h | h) <;> obtain rfl := Host.Outcome.next.inj h
  · split
    · exact set _
    · exact .refl s
  · split
    · exact set _
    · exact .refl s
  · split
    · split
      · exact .of_same rfl rfl rfl
      · exact .refl s
    · exact .refl s
  · split
    · exact set _
    · exact .refl s
  · split
    · exact .of_same rfl rfl rfl
    · exact .refl s

/-- The commands that reset or start the station, or move a pass. -/
def movesPass : Instr → Bool
  | .powerOnReset .. | .warmReset .. | .stationStart | .passTimerExpiry | .probeHoldExpiry _ | .passClose => true
  | _ => false

/-- Every other command leaves a pass in progress as it stands. -/
theorem exec_stands {i : Instr} {s t : State} (other : movesPass i = false) (h : exec i s = .next t) : PassStands s t := by
  cases i with
  | powerOnReset | warmReset | stationStart | passTimerExpiry | probeHoldExpiry | passClose => cases other
  | extraReportDue =>
    obtain rfl := Host.Outcome.next.inj h
    exact .ite ((elapse_stands _ s).thenSame rfl rfl rfl)
  | regularReport =>
    obtain rfl := Host.Outcome.next.inj h
    exact .ite ((elapse_stands _ s).thenSame rfl rfl rfl)
  | scanRound =>
    obtain rfl := Host.Outcome.next.inj h
    exact .ite ((elapse_stands _ s).thenSame rfl rfl rfl)
  | sampleEvent n code =>
    obtain rfl := Host.Outcome.next.inj h
    split
    · exact .ite ((takeSample_stands _ n _).afterSame rfl rfl rfl)
    · exact .refl s
  | frameReceived f => obtain rfl := Host.Outcome.next.inj h; exact .ite (receive_stands s f)
  | roomReport => obtain rfl := Host.Outcome.next.inj h; exact handedOn_stands takeRoomReport_stands s _
  | modeNotice => exact execModeNotice_stands h
  | boostTimerExpiry n =>
    obtain rfl := Host.Outcome.next.inj h
    exact .ite ((elapse_stands _ s).trans (withdraw_stands _ _ _))
  | roomEntersHeld room =>
    obtain rfl := Host.Outcome.next.inj h
    exact .ite ((elapse_stands _ s).trans (ageRoom_stands _ _ _ _))
  | roomStale room =>
    obtain rfl := Host.Outcome.next.inj h
    split
    · exact (elapse_stands _ s).trans (orphanRoom_stands _ _ _)
    · exact (elapse_stands _ s).trans (orphanRoom_stands _ _ _)
    · exact .refl s
  | stationReport => obtain rfl := Host.Outcome.next.inj h; exact handedOn_stands takeStationReport_stands s _
  | peerStale n =>
    obtain rfl := Host.Outcome.next.inj h
    exact .ite ((elapse_stands _ s).thenSame rfl rfl rfl)
  | peerRemoval n =>
    obtain rfl := Host.Outcome.next.inj h
    exact .ite ((elapse_stands _ s).thenSame rfl rfl rfl)
  | sourceReport => obtain rfl := Host.Outcome.next.inj h; exact handedOn_stands takeSourceReport_stands s _
  | sourceStale =>
    obtain rfl := Host.Outcome.next.inj h
    exact .ite ((elapse_stands _ s).trans (staleSource_stands _))
  | unusedFrame =>
    obtain rfl := Host.Outcome.next.inj h
    exact handedOn_stands (take := fun s _ => countUnused s) (fun _ _ => .of_same rfl rfl rfl) s _
  | readLoop =>
    obtain rfl := Host.Outcome.next.inj h
    exact handedOn_stands (answerRequest_stands carryReadLoop_stands) s _
  | readFaults =>
    obtain rfl := Host.Outcome.next.inj h
    exact handedOn_stands (answerRequest_stands fun _ _ => partAnswer_stands _ _ _) s _
  | readPeers =>
    obtain rfl := Host.Outcome.next.inj h
    exact handedOn_stands (answerRequest_stands fun _ _ => partAnswer_stands _ _ _) s _
  | readTrim =>
    obtain rfl := Host.Outcome.next.inj h
    exact handedOn_stands (answerRequest_stands fun _ _ => partAnswer_stands _ _ _) s _
  | startDryout =>
    obtain rfl := Host.Outcome.next.inj h
    exact handedOn_stands (fun s f => takeRequest_stands (carryDryout_stands startProgram_stands f) s f) s _
  | stopDryout =>
    obtain rfl := Host.Outcome.next.inj h
    exact handedOn_stands (fun s f => takeRequest_stands (carryDryout_stands stopProgram_stands f) s f) s _
  | recalibrate =>
    obtain rfl := Host.Outcome.next.inj h
    exact handedOn_stands (answerRequest_stands carryRecalibrate_stands) s _
  | clearFaults =>
    obtain rfl := Host.Outcome.next.inj h
    exact handedOn_stands (answerRequest_stands carryClearFaults_stands) s _
  | alertMask =>
    obtain rfl := Host.Outcome.next.inj h
    exact handedOn_stands (answerRequest_stands carryAlertMask_stands) s _
  | alertEnable =>
    obtain rfl := Host.Outcome.next.inj h
    exact handedOn_stands (answerRequest_stands carryAlertEnable_stands) s _
  | unknownRequest =>
    obtain rfl := Host.Outcome.next.inj h
    exact handedOn_stands (answerRequest_stands fun _ s => .refl s) s _
  | dryoutHour p =>
    obtain rfl := Host.Outcome.next.inj h
    exact .ite ((finishDry_stands s).trans ((elapse_stands (hourLeft (finishDry s) p) _).trans (setInstance_stands _ _ _)))
  | dryoutStepEnd p =>
    obtain rfl := Host.Outcome.next.inj h
    exact .ite ((finishDry_stands s).trans (stepEnd_stands _ _))
  | meterPulse => obtain rfl := Host.Outcome.next.inj h; exact .ite (.of_same rfl rfl rfl)
  | feedbackEdge n a b => obtain rfl := Host.Outcome.next.inj h; exact feedbackEdge_stands s n a b
  | stall n => obtain rfl := Host.Outcome.next.inj h; exact driveEvent_stands (fun s => stallTaken_frame s n) _ s
  | moveTimeout n => obtain rfl := Host.Outcome.next.inj h; exact driveEvent_stands (fun s => timeoutTaken_frame s n) _ s
  | phaseLimitExpiry n =>
    obtain rfl := Host.Outcome.next.inj h
    split
    · exact (elapse_stands _ s).trans (failCalibration_frame _ _ _).stands
    · exact .refl s
  | settlingEnd n => obtain rfl := Host.Outcome.next.inj h; exact driveEvent_stands (fun s => moveCompleted_frame s n) _ s
  | calibrationSettlingEnd n =>
    obtain rfl := Host.Outcome.next.inj h
    exact driveEvent_stands (fun s => calibrationCompleted_frame s n) _ s
  | reversingEnd n => obtain rfl := Host.Outcome.next.inj h; exact driveEvent_stands (fun s => reversingEnded_frame s n) _ s
  | calOpenDeadIntervalEnd n =>
    obtain rfl := Host.Outcome.next.inj h
    exact driveEvent_stands (fun s => putChannel_frame s n _) _ s
  | transmitStart => exact execTransmit_stands (.inl h)
  | arbitrationLost => exact execTransmit_stands (.inr (.inl h))
  | arbitrationWon => exact execTransmit_stands (.inr (.inr (.inl h)))
  | frameSent => exact execTransmit_stands (.inr (.inr (.inr (.inl h))))
  | frameBrokenOff => exact execTransmit_stands (.inr (.inr (.inr (.inr h))))

/-! ### Every step -/

theorem exec_passLaw {i : Instr} {s t : State} (law : PassLaw s) (h : exec i s = .next t) : PassLaw t := by
  cases moves : movesPass i with
  | false => exact law.of_stands (exec_stands moves h)
  | true =>
    cases i with
    | powerOnReset => obtain rfl := Host.Outcome.next.inj h; exact passLaw_of_idle rfl rfl
    | warmReset => obtain rfl := Host.Outcome.next.inj h; exact passLaw_of_idle rfl rfl
    | stationStart =>
      obtain rfl := Host.Outcome.next.inj h
      split
      · exact startStation_law s
      · exact law
    | passTimerExpiry =>
      obtain rfl := Host.Outcome.next.inj h
      split
      · exact beginPass_law ‹_›
      · exact law
    | probeHoldExpiry n =>
      obtain rfl := Host.Outcome.next.inj h
      split
      · rename_i ready
        obtain ⟨-, -, may⟩ := ready
        exact beginPass_law may
      · exact law
    | passClose => exact exec_passClose_law law h
    | _ => cases moves

theorem workStep_law (w : Work) {s : State} (law : PassLaw s) : PassLaw (workStep w s) := by
  cases w with
  | load =>
    refine law.of_stands ?_
    simp only [workStep, loadStep]
    split
    · exact .refl s
    · exact (report_frame _ _).stands.afterSame rfl rfl rfl
  | pass => exact passStep_law law
  | trim => exact law.of_stands (trimStep_stands s)
  | notice => exact law.of_stands (noticeStep_stands s)
  | dryout => exact law.of_stands (dryStep_stands s)
  | alerts => exact law.of_stands (placeAlert_frame s).stands

theorem workSteps_law (w : Work) : ∀ (k : Nat) {s : State}, PassLaw s → PassLaw (times (workStep w) k s)
  | 0, _, law => law
  | k + 1, _, law => workSteps_law w k (workStep_law w law)

/-- The idle step keeps the law. -/
theorem tick_passLaw {s : State} (law : PassLaw s) : PassLaw (tick s) := by
  have queue (s : State) : PassStands s (queueDue s) := by
    rcases queueDue_cases s with ⟨-, e⟩ | ⟨_, -, _, e⟩ <;> rw [e]
    · exact .refl s
    · exact .of_same rfl rfl rfl
  rcases tick_cases s with ⟨-, -, e⟩ | ⟨-, e | ⟨-, e⟩⟩ | ⟨busy, k, -, e⟩ <;> rw [e]
  · exact law.of_stands (elapse_stands 1 s)
  · exact law.of_stands (queue s)
  · exact law.of_stands ((queue _).afterSame rfl rfl rfl)
  · obtain ⟨w, -, e | e⟩ := goOn_cases busy k <;> rw [e]
    · exact piece_law (workSteps_law w k law)
    · exact piece_law (workSteps_law w k (law.of_stands (.of_same rfl rfl rfl)))

/-- A pass keeps every loop present. -/
theorem PassKeeps.isSome {s t : State} (h : PassKeeps s t) (n : Fin 12) : (t.loops.get n).isSome = (s.loops.get n).isSome := by
  cases loop : s.loops.get n with
  | none => rw [h.absent n loop]
  | some l =>
    obtain ⟨_, there, -⟩ := h.present n l loop
    rw [there]
    rfl

end Sys2Proof.Machine

open Sys2Proof Sys2Proof.Machine

/-- Settles O21: the sharing grants at least what it adds, rounding down only lowers the parts, and the law of a pass carries
the sum through the stages and past the other blocks' events. -/
theorem allocationsSumToAtMostTheGrant : Obligations.AllocationsSumToAtMostTheGrant := by
  unfold Obligations.AllocationsSumToAtMostTheGrant
  refine ⟨?_, fun s t law h => ?_⟩
  · intro s left k w _ _ idle t work
    have law : StagesLaw t := passSteps_stagesLaw k (openVisit_stagesLaw ((elapse_engine_work s left).trans idle))
    have present (n : Fin 12) : (t.loops.get n).isSome = (s.loops.get n).isSome := by
      obtain ⟨_, _, _, opened⟩ := openVisit_eq (elapse left s)
      have loops : (openVisit (elapse left s)).loops = (elapse left s).loops := by rw [opened]
      rw [(passSteps_keep k (openVisit (elapse left s))).isSome, loops]
      exact (elapse_stands left s).present n
    simp only [← present]
    exact law.2 w work
  · unfold step at h
    split at h
    · rename_i i rest _
      exact exec_passLaw (s := s.withPending rest) (law.of_stands (.of_same rfl rfl rfl)) h
    · obtain rfl := Host.Outcome.next.inj h
      exact tick_passLaw law

end

section
/-! The source record steps into STALE, and the arbiter and the sequencer follow (R82, R83, R135, R141). -/

namespace Sys2Proof.Machine

open Sys2Proof

/-! ### What the sequencer leaves in the recorder -/

theorem pushMember_recorderGrows (p : Prog) (k : Fin 16) (s : State) (n : Fin 12) :
    RecorderGrows s.recorder (pushMember p k s n).recorder := (visitsLoops_pushMember s p k).grows rfl n

/-- A step of the sequencer adds to the recorder what it reports. -/
theorem dryStep_recorderGrows (s : State) : RecorderGrows s.recorder (dryStep s).recorder := by
  unfold dryStep
  split
  · exact .refl _
  · split
    · exact pushMember_recorderGrows _ _ s _
    · unfold endStart
      dsimp only
      split
      · exact .refl _
      · rw [setDryStage_recorder, setInstance_recorder]; exact .refl _
    · rw [setDryStage_recorder, (withdraw_beside s _ _).1]; exact .refl _
    · unfold endWithdrawals
      dsimp only
      split
      · rw [setInstance_recorder]; exact .refl _
      · rw [setDryStage_recorder, setInstance_recorder]; exact .refl _
    · exact report_grows s _
    · unfold dryReply
      split <;> exact .refl _

theorem finishDry_recorderGrows (s : State) : RecorderGrows s.recorder (finishDry s).recorder :=
  times_frame (R := fun s t => RecorderGrows s.recorder t.recorder) (fun _ => .refl _) .trans dryStep_recorderGrows _ s

theorem beforeHeating_frame (s : State) (after : SourceState) : DryFrame s (beforeHeating s after) := by
  rw [beforeHeating_eq]
  split
  · exact .refl s
  · exact finishDry_frame s

theorem beforeHeating_recorderGrows (s : State) (after : SourceState) :
    RecorderGrows s.recorder (beforeHeating s after).recorder := by
  rw [beforeHeating_eq]
  split
  · exact .refl _
  · exact finishDry_recorderGrows s

/-! ### The record -/

/-- The source record as it becomes STALE: its values are kept (R82). -/
def staleRecord (r : SourceRecord) : SourceRecord := { r with age := ⟨61, 0⟩, validity := .stale }

/-- The fault of a record that becomes STALE (R82). -/
def staleFault (r : SourceRecord) : FaultEvent :=
  ⟨.sourceStale, 9, if r.validity = .never then 1 else 0, ((r.fSrc.getD 0 : Nat) : Int), none⟩

/-- The station whose record has become STALE, with the fault reported: what the arbiter and the sequencer follow. -/
def sourceLost (s : State) : State :=
  let u := beforeHeating s .heating
  report { u with peers := { u.peers with source := staleRecord s.peers.source } } (staleFault s.peers.source)

/-- A record that is not FRESH stands for HEATING (R83). -/
theorem effectiveState_of_stale {s : State} (h : s.peers.source.validity = .stale) : effectiveState s = .heating := by
  unfold effectiveState
  rw [h]

@[simp] theorem effectiveState_elapse (s : State) (d : Nat) : effectiveState (elapse d s) = effectiveState s := by
  simp only [effectiveState, elapse_peers_source_validity, elapse_peers_source_state]

/-- What a fault leaves of the other blocks. -/
theorem FaultFrame.beside {s t : State} (h : FaultFrame s t) : t.peers = s.peers ∧ t.rooms = s.rooms ∧
    t.engine = s.engine ∧ t.meter = s.meter ∧ t.config = s.config ∧ t.operation = s.operation ∧ t.bus.rx = s.bus.rx ∧
    t.bus.reply = s.bus.reply ∧ ∀ p, instanceOf t p = instanceOf s p := by
  obtain ⟨_, _, _, _, rfl⟩ := h
  exact ⟨rfl, rfl, rfl, rfl, rfl, rfl, rfl, rfl, fun p => by cases p <;> rfl⟩

theorem sourceLost_frame (s : State) :
    let u := beforeHeating s .heating
    FaultFrame { u with peers := { u.peers with source := staleRecord s.peers.source } } (sourceLost s) := report_frame _ _

/-- The step into STALE: the source is lost, the arbiter follows, and then the programs. -/
theorem staleSource_eq (s : State) : staleSource s =
    followHeating (followView (sourceLost s) .heating) (effectiveState s) .heating := by
  have lost : effectiveState (sourceLost s) = .heating := by
    obtain ⟨peers, -⟩ := (sourceLost_frame s).beside
    exact effectiveState_of_stale (by rw [peers]; rfl)
  calc staleSource s = followSource (sourceLost s) (effectiveState s) := rfl
    _ = _ := by rw [followSource, lost]

/-- Programs that follow a source seen HEATING report and send nothing as they begin. -/
theorem followHeating_toHeating (s : State) (before : SourceState) (idle : before ≠ .heating → s.operation = none) :
    let t := followHeating s before .heating
    t.bus = s.bus ∧ t.recorder = s.recorder := by
  by_cases was : before = .heating
  · obtain ⟨-, -, bus, recorder⟩ := followHeating_quiet s (.inl was : before = .heating ∨ SourceState.heating ≠ .heating)
    exact ⟨bus, recorder⟩
  · rw [followHeating_enters s was rfl]
    have both := resumePrograms_both (idle was) (.inl rfl)
    exact ⟨both.bus, both.recorder⟩

theorem exec_sourceStale {s : State} (serving : s.loader.state ≠ .loading) (known : s.peers.source.validity ≠ .stale) :
    exec .sourceStale s = .next (staleSource (elapse (sourceLeft s) s)) := by
  simp [exec, execSourceStale, inServiceStation, serving, known]

end Sys2Proof.Machine

open Sys2Proof Sys2Proof.Machine

/-- Settles O31: the record steps once its time has passed, the fault is reported, and the arbiter and the programs follow a
source that is seen HEATING. -/
theorem sourceStepsIntoStale : Obligations.SourceStepsIntoStale := by
  unfold Obligations.SourceStepsIntoStale
  intro s serving known
  let e := elapse (sourceLeft s) s
  let u := beforeHeating e .heating
  let b := sourceLost e
  let c := followView b .heating
  let t := followHeating c (effectiveState s) .heating
  have same : effectiveState e = effectiveState s := effectiveState_elapse s _
  have execs : exec .sourceStale s = .next t := by
    rw [exec_sourceStale serving known, staleSource_eq, same]
  have u_eq : u = if effectiveState s = .heating then e else finishDry e := by
    rw [← same]; exact (beforeHeating_eq e .heating).trans (by simp only [iff_true])
  have u_frame : DryFrame e u := beforeHeating_frame e .heating
  have t_frame : DryFrame { c with cuts := t.cuts } t := followHeating_frame ..
  obtain ⟨t_peers, t_rooms, t_engine, t_meter, -, -, -, -, -, -, -, t_arbiter⟩ := t_frame.beside
  obtain ⟨c_peers, c_rooms, c_engine, c_meter, -, c_config, -, -, -, -, -, c_operation, c_bus, c_recorder⟩ :=
    (followView_grantFrame b .heating).blocks
  obtain ⟨b_peers, b_rooms, b_engine, b_meter, b_config, b_operation, b_rx, b_reply, b_programs⟩ := (sourceLost_frame e).beside
  obtain ⟨-, u_rooms, u_engine, u_meter, -⟩ := u_frame.counted.beside
  have idle (was : effectiveState s ≠ .heating) : c.operation = none := by
    rw [c_operation, b_operation]
    show u.operation = none
    rw [u_eq, if_neg was]
    exact finishDry_operation e
  obtain ⟨t_bus, t_recorder⟩ := followHeating_toHeating c (effectiveState s) idle
  have own (p : Prog) : instanceOf c p = instanceOf u p := by
    rw [(followView_grantFrame b .heating).instanceOf, b_programs]; cases p <;> rfl
  have source : t.peers.source = staleRecord e.peers.source := by rw [t_peers, c_peers, b_peers]
  have recorder : t.recorder = (sourceLost e).recorder := t_recorder.trans c_recorder
  have kept : staleRecord e.peers.source = { s.peers.source with age := ⟨61, 0⟩, validity := .stale } := by
    simp only [staleRecord, e, elapse_peers_source_state, elapse_peers_source_fSrc, elapse_peers_source_fMin,
      elapse_peers_source_setpoint]
  refine ⟨u, t, execs, fun was => by rw [u_eq, if_pos was], fun was => by rw [u_eq, if_neg was], u_frame, fun noWork => ?_,
    source.trans kept, effectiveState_of_stale (by rw [source]; rfl), ?_, ?_, fun empty unmasked => ?_,
    fun p paused was left => ?_, t_rooms.trans (c_rooms.trans (b_rooms.trans u_rooms)),
    t_engine.trans (c_engine.trans (b_engine.trans u_engine)),
    t_meter.trans (c_meter.trans (b_meter.trans (u_meter.trans (elapse_meter s _)))), ?_, ?_⟩
  · rw [u_eq, finishDry_of_none (s := e) ((elapse_operation s _).trans noWork), ite_self]
  · rw [t_arbiter]; exact followView_defrost b .heating
  · rw [recorder, sourceLost, report_kinds]; simp [staleFault]
  · have open_ : (u.recorder.kinds.get (kindIndex .sourceStale)).masked = false := by
      rw [(beforeHeating_recorderGrows e .heating).masked, elapse_recorder]; exact unmasked
    obtain ⟨pointer, record⟩ := report_empty_pointer
      { u with peers := { u.peers with source := staleRecord e.peers.source } } (staleFault e.peers.source) empty open_
    rw [recorder]
    refine ⟨pointer, (congrArg _ record).trans ?_⟩
    simp [staleFault, faultOrigin, e]
  · have exhausted : stepExhausted c p = stepExhausted u p :=
      stepExhausted_congr (c_config.trans b_config) (congrArg DryInstance.step (own p)) (congrArg DryInstance.hours (own p))
    have resumed : Resumed c p t := by
      have enters : t = resumePrograms c := followHeating_enters c was rfl
      rw [enters]
      exact (resumePrograms_both (idle was) (.inl rfl)).programs p
    rw [← own p] at paused ⊢
    exact resumed.runs paused (exhausted.trans left)
  · obtain ⟨_, _, _, _, _, _, _, _, _, frame⟩ := u_frame
    rw [t_bus, c_bus, b_rx]
    show u.bus.rx = s.bus.rx
    rw [frame]; exact elapse_bus_rx s _
  · rw [t_bus, c_bus]; exact b_reply

end

section
/-! The sharing computation case by case, and the spread of a deficit (R85 to R89). -/

namespace Sys2Proof.Machine

open Sys2Proof

/-! ### The spread of a deficit (R88) -/

/-- What a candidate may take beyond its request. -/
def headroom (c : Candidate) : Nat := c.qMax - c.qReq

/-- The additions together: the deficit, or all the headroom that there is. -/
theorem spread_sum : ∀ (d : Nat) (l : List Candidate), ((spread d l).map (·.flow)).sum = min d (l.map headroom).sum
  | d, [] => (Nat.min_zero d).symm
  | d, c :: l => by
    have rest := spread_sum (d - min (headroom c) d) l
    simp only [spread, List.map_cons, List.sum_cons]
    unfold headroom at rest ⊢
    omega

theorem length_spread (d : Nat) (l : List Candidate) : (spread d l).length = l.length := by
  simpa using congrArg List.length (spread_loops d l)

/-- Later candidates share what the earlier ones have left of the deficit. -/
theorem spread_append : ∀ (d : Nat) (l more : List Candidate),
    spread d (l ++ more) = spread d l ++ spread (d - ((spread d l).map (·.flow)).sum) more
  | _, [], _ => rfl
  | d, c :: l, more => by
    simp only [List.cons_append, spread, spread_append _ l more, List.map_cons, List.sum_cons, Nat.sub_sub]

/-- A candidate takes the lower of its headroom and what those before it have left. -/
theorem spread_at (d : Nat) (earlier later : List Candidate) (c : Candidate) :
    (spread d (earlier ++ c :: later))[earlier.length]? = some ⟨c.loop, min (headroom c)
      (d - (((spread d (earlier ++ c :: later)).take earlier.length).map (·.flow)).sum)⟩ := by
  rw [spread_append, ← length_spread d earlier, List.take_left, List.getElem?_append_right (Nat.le_refl _), Nat.sub_self]
  rfl

/-! ### The cases of the share -/

theorem holdsDuty_iff {station : Nat} {peers : List PeerView} {cands : List Candidate} :
    holdsDuty station peers cands = true ↔ cands ≠ [] ∧ ∀ p ∈ peers, p.capable = true → station < p.station := by
  simp only [holdsDuty, Bool.and_eq_true, Bool.not_eq_true', List.all_eq_true, Bool.or_eq_true,
    ← Bool.not_eq_true, List.isEmpty_iff, ne_eq, decide_eq_true_eq, ← imp_iff_not_or]

section
variable (station : Nat) {r fSrc fMin : Nat} {peers : List PeerView} {cands : List Candidate}

/-- More is requested than the source gives: each request is scaled (R86). -/
theorem share_scaling (h : fSrc < requestTotal r peers) : share station r fSrc fMin peers cands =
    ⟨requestTotal r peers, .scaling, r * fSrc / requestTotal r peers, 0, false, none, []⟩ := if_pos h

/-- The requests lie between the source's bounds: they are granted (R86). -/
theorem share_fullGrant (h : requestTotal r peers ≤ fSrc) (k : fMin ≤ requestTotal r peers) :
    share station r fSrc fMin peers cands = ⟨requestTotal r peers, .fullGrant, r, 0, false, none, []⟩ := by
  simp only [share, Nat.not_lt.2 h, Nat.not_lt.2 k, if_false]

/-- The deficit at the duty holder, spread over its candidates (R87, R88). -/
theorem share_duty (h : requestTotal r peers ≤ fSrc) (k : requestTotal r peers < fMin)
    (duty : holdsDuty station peers cands = true) : share station r fSrc fMin peers cands =
      let additions := spread (fMin - requestTotal r peers) cands
      let b := (additions.map (·.flow)).sum
      ⟨requestTotal r peers, .deficit, r + b, b, true, some (fMin - requestTotal r peers), additions⟩ := by
  simp only [share, Nat.not_lt.2 h, k, duty, if_false, if_true]

/-- The deficit at a station without the duty, which adds nothing (R87; assumption 24). -/
theorem share_noDuty (h : requestTotal r peers ≤ fSrc) (k : requestTotal r peers < fMin)
    (other : holdsDuty station peers cands = false) : share station r fSrc fMin peers cands =
      ⟨requestTotal r peers, .deficit, r, 0, false, some (fMin - requestTotal r peers), []⟩ := by
  simp only [share, Nat.not_lt.2 h, k, other, if_false, if_true, Bool.false_eq_true]

/-- A station's own request is a part of the total. -/
theorem le_requestTotal (r : Nat) (peers : List PeerView) : r ≤ requestTotal r peers := Nat.le_add_right _ _

/-- Eight stations at most, each of them with a request in its range. -/
theorem requestTotal_le (own : r ≤ 20000) (seven : peers.length ≤ 7) (each : ∀ p ∈ peers, p.r ≤ 20000) :
    requestTotal r peers ≤ 160000 := by
  have sum : (peers.map (·.r)).sum ≤ (peers.map (·.r)).length • 20000 :=
    List.sum_le_card_nsmul _ _ (by simpa using each)
  rw [List.length_map, smul_eq_mul] at sum
  unfold requestTotal
  omega

theorem share_rTot : (share station r fSrc fMin peers cands).rTot = requestTotal r peers := by
  unfold share
  dsimp only
  split_ifs <;> rfl

/-- A scaled request is not raised. -/
theorem scaled_le (h : fSrc < requestTotal r peers) : r * fSrc / requestTotal r peers ≤ r :=
  Nat.div_le_of_le_mul (by rw [Nat.mul_comm]; exact Nat.mul_le_mul_right r h.le)

/-- Nothing is granted beyond the request but the bypass additions. -/
theorem share_g_le : (share station r fSrc fMin peers cands).g ≤ r + (share station r fSrc fMin peers cands).b := by
  unfold share
  dsimp only
  split_ifs with scaling
  · exact scaled_le scaling
  · exact le_refl _
  · exact le_refl _
  · exact le_refl _

end

end Sys2Proof.Machine

open Sys2Proof Sys2Proof.Machine

/-- Settles O24: the share by its cases, and the deficit by how it is spread. -/
theorem sharingGrantsWithinItsBounds : Obligations.SharingGrantsWithinItsBounds := by
  unfold Obligations.SharingGrantsWithinItsBounds
  intro station r fSrc fMin peers cands
  dsimp only
  rw [← holdsDuty_iff (station := station), ← requestTotal]
  have own := le_requestTotal r peers
  obtain ⟨added, -⟩ := share_grant station r fSrc fMin peers cands
  refine ⟨share_rTot station, requestTotal_le, share_g_le station, added, fun scaling => ?_, fun low high => ?_,
    fun low deficit => ?_⟩
  · rw [share_scaling station scaling]
    exact ⟨rfl, rfl, rfl, rfl, rfl, Nat.div_mul_le_self _ _⟩
  · rw [share_fullGrant station low high]
    exact ⟨rfl, rfl, rfl, rfl, rfl⟩
  · cases duty : holdsDuty station peers cands with
    | false =>
      rw [share_noDuty station low deficit duty]
      exact ⟨rfl, rfl, Nat.zero_le _, rfl, by dsimp only; omega, by simp, fun _ => ⟨rfl, rfl⟩, fun holds => by cases holds⟩
    | true =>
      have sum := spread_sum (fMin - requestTotal r peers) cands
      rw [share_duty station low deficit duty]
      refine ⟨rfl, rfl, ?_, rfl, ?_, by simp, fun other => absurd rfl other, fun _ => ⟨sum, spread_loops _ _, ?_⟩⟩
      · dsimp only; omega
      · dsimp only; omega
      · rintro earlier c later rfl
        exact spread_at _ earlier later c

end

section
/-! A STATION report by its checks (R77, R78). -/

namespace Sys2Proof.Machine

open Sys2Proof

/-! ### The table of peer records -/

/-- The table holds the record put into it and records that it held before. -/
theorem mem_putPeer {p q : Peer} : ∀ {l : List Peer}, q ∈ putPeer p l → q = p ∨ q ∈ l
  | [], h => .inl (List.mem_singleton.1 h)
  | x :: rest, h => by
    unfold putPeer at h
    split_ifs at h
    · exact (List.mem_cons.1 h).imp_right (List.mem_cons_of_mem x)
    · exact List.mem_cons.1 h
    · rcases List.mem_cons.1 h with rfl | h
      · exact .inr List.mem_cons_self
      · exact (mem_putPeer h).imp_right (List.mem_cons_of_mem x)

/-- The table stays in station-number order (R77). -/
theorem putPeer_ordered (p : Peer) : ∀ {l : List Peer}, (l.map (·.station)).Pairwise (· < ·) →
    ((putPeer p l).map (·.station)).Pairwise (· < ·)
  | [], _ => List.pairwise_singleton _ _
  | q :: rest, order => by
    obtain ⟨above, order⟩ := List.pairwise_cons.1 (List.map_cons ▸ order)
    unfold putPeer
    split_ifs with same before
    · exact List.pairwise_cons.2 ⟨fun n mem => same.symm.trans_lt (above n mem), order⟩
    · refine List.pairwise_cons.2 ⟨fun n mem => ?_, List.pairwise_cons.2 ⟨above, order⟩⟩
      rcases List.mem_cons.1 mem with rfl | mem
      · exact before
      · exact lt_trans before (above n mem)
    · refine List.pairwise_cons.2 ⟨fun n mem => ?_, putPeer_ordered p order⟩
      obtain ⟨x, found, rfl⟩ := List.mem_map.1 mem
      rcases mem_putPeer found with rfl | found
      · exact lt_of_le_of_ne (not_lt.1 before) same
      · exact above _ (List.mem_map_of_mem found)

/-! ### The checks of a report -/

/-- Check 3 of R77: the core values in their ranges, the coded fields defined. -/
def CoreInRange (c : CoreFields) : Prop :=
  c.r ≤ 20000 ∧ c.b ≤ 60000 ∧ c.g ≤ 60000 ∧ c.m ≤ 60000 ∧ c.calling ≤ 12 ∧ c.outOfService ≤ 12 ∧
    c.stationState ≤ 1 ∧ c.sourceState ≤ 3

/-- Every source state code up to 3 is defined. -/
theorem sourceStateOf_defined : ∀ {code : Nat}, code ≤ 3 → ∃ src, sourceStateOf code = some src
  | 0, _ | 1, _ | 2, _ | 3, _ => ⟨_, rfl⟩
  | n + 4, h => absurd h (by omega)

theorem coreOk_of_inRange {c : CoreFields} (h : CoreInRange c) : ∃ src, sourceStateOf c.sourceState = some src ∧
    coreOk c = some ⟨c.r, c.b, c.g, c.m, c.calling, c.outOfService, c.capable, c.duty, decide (c.stationState = 1), src⟩ := by
  obtain ⟨r, b, g, m, calling, out, station, source⟩ := h
  obtain ⟨src, defined⟩ := sourceStateOf_defined source
  refine ⟨src, defined, ?_⟩
  simp only [coreOk, defined]
  exact if_pos ⟨r, b, g, m, calling, out, station⟩

theorem coreOk_of_outOfRange {c : CoreFields} (h : ¬ CoreInRange c) : coreOk c = none := by
  by_cases source : c.sourceState ≤ 3
  · obtain ⟨src, defined⟩ := sourceStateOf_defined source
    simp only [coreOk, defined]
    exact if_neg fun ⟨r, b, g, m, calling, out, station⟩ => h ⟨r, b, g, m, calling, out, station, source⟩
  · rw [coreOk, sourceStateOf_undefined (by omega)]

/-! ### The report -/

theorem exec_stationReport {s : State} {f : Frame} {c : CoreFields} (closed : requestOpen s = false)
    (head : s.bus.rx.head? = some f) (kind : f.kind = 3) (read : readCore f.content = some c) :
    exec .stationReport s = .next (takeStationReport (popped s) f) := by
  have taken : takeHead s .stationReport = some (f, popped s) := by
    rw [takeHead_eq_some, answerOpen_of_closed closed]
    exact ⟨head, handOn_station kind read, rfl⟩
  simp only [exec, execStationReport, taken]

theorem stationNumber_range (s : State) : 1 ≤ stationNumber s ∧ stationNumber s ≤ 8 :=
  ⟨Nat.le_add_left _ _, s.loader.station.isLt⟩

section
variable {s : State} {f : Frame} {c : CoreFields} (read : readCore f.content = some c)
include read

/-- A sender that is no station is counted (check 1 of R77). -/
theorem takeStationReport_foreign (h : f.sender.toNat = 0 ∨ 8 < f.sender.toNat) : takeStationReport s f =
    { s with peers := { s.peers with foreignReports := min 65535 (s.peers.foreignReports + 1) } } := by
  simp only [takeStationReport, read, bump_eq_min]
  exact dif_neg (by omega)

/-- The own number is an address clash (R78). -/
theorem takeStationReport_clash (h : f.sender.toNat = stationNumber s) : takeStationReport s f =
    report s ⟨.addressClash, stationNumber s, c.r, c.g, some f⟩ := by
  simp only [takeStationReport, read, h, stationNumber_range, and_self, dite_true, if_true]
  rfl

/-- A value out of its range is refused (check 3 of R77). -/
theorem takeStationReport_refused (low : 1 ≤ f.sender.toNat) (high : f.sender.toNat ≤ 8)
    (other : f.sender.toNat ≠ stationNumber s) (h : ¬ CoreInRange c) : takeStationReport s f =
    { s with peers := { s.peers with refusedReports := min 65535 (s.peers.refusedReports + 1) } } := by
  simp only [takeStationReport, read, low, high, other, coreOk_of_outOfRange h, and_self, dite_true, if_false, bump_eq_min]

/-- Any other report becomes the sender's record (R77). -/
theorem takeStationReport_taken {station : Fin 8} {core : CoreValues} (sender : f.sender.toNat = station.val + 1)
    (other : f.sender.toNat ≠ stationNumber s) (h : coreOk c = some core) :
    takeStationReport s f = setPeers s (putPeer ⟨station, core, ⟨0, 0⟩, true⟩ s.peers.peers) := by
  have inTable : 1 ≤ station.val + 1 ∧ station.val + 1 ≤ 8 := ⟨Nat.le_add_left _ _, station.isLt⟩
  rw [sender] at other
  simp only [takeStationReport, read, sender, other, h, inTable, and_self, dite_true, if_false, Nat.add_sub_cancel]

end

end Sys2Proof.Machine

open Sys2Proof Sys2Proof.Machine

/-- Settles O28, by the four outcomes of a report. -/
theorem stationReportByItsChecks : Obligations.StationReportByItsChecks := by
  unfold Obligations.StationReportByItsChecks
  intro s f c closed head kind read
  rw [exec_stationReport closed head kind read]
  refine ⟨fun foreign => ?_, fun own => ?_, fun low high other bad => ?_, fun station sender other good => ?_⟩
  · exact congrArg _ (takeStationReport_foreign (s := popped s) read foreign)
  · exact congrArg _ (takeStationReport_clash (s := popped s) read own)
  · exact congrArg _ (takeStationReport_refused (s := popped s) read low high other bad)
  · obtain ⟨src, defined, core⟩ := coreOk_of_inRange good
    refine ⟨_, src, congrArg _ (takeStationReport_taken (s := popped s) read sender other core), defined, rfl, ?_,
      fun k differs => ?_, putPeer_ordered _⟩
    · exact (find_putPeer _ station _).trans (if_pos rfl)
    · exact (find_putPeer _ k _).trans (if_neg differs)

end

section
/-! The ages of peer records: into STALE, and out of the table (R79). -/

namespace Sys2Proof.Machine

open Sys2Proof

/-- The record of a station in a table whose records have been changed, each keeping its station. -/
theorem find_mapPeers {g : Peer → Peer} (own : ∀ q, (g q).station = q.station) (k : Fin 8) (l : List Peer) :
    (l.map g).find? (fun q => q.station == k) = (l.find? fun q => q.station == k).map g := by
  rw [List.find?_map, show (fun q : Peer => q.station == k) ∘ g = fun q => q.station == k from
    funext fun q => congrArg (· == k) (own q)]

/-- Time that passes changes a record's age only (R79). -/
theorem find_elapse {s : State} {k : Fin 8} {p : Peer} (h : s.peers.peers.find? (fun q => q.station == k) = some p)
    (d : Nat) : ∃ age, (elapse d s).peers.peers.find? (fun q => q.station == k) = some { p with age := age } := by
  unfold elapse
  split
  · exact ⟨p.age, h⟩
  · split
    · exact ⟨p.age, h⟩
    · refine ⟨p.age.after (peerLimit p.fresh) d, ?_⟩
      exact (find_mapPeers (g := peerAfter d) (fun _ => rfl) k _).trans (by rw [h]; rfl)

theorem stalePeer_own {station : Fin 8} {p : Peer} (h : p.station = station) :
    stalePeer station p = { p with age := ⟨61, 0⟩, fresh := false } := if_pos h

theorem stalePeer_other {station : Fin 8} {p : Peer} (h : p.station ≠ station) : stalePeer station p = p := if_neg h

theorem stalePeer_station (station : Fin 8) (p : Peer) : (stalePeer station p).station = p.station := by
  unfold stalePeer
  split <;> rfl

/-- The record that is found under a number is that station's. -/
theorem station_of_find {l : List Peer} {k : Fin 8} {p : Peer} (h : l.find? (fun q => q.station == k) = some p) :
    p.station = k := by
  simpa using List.find?_some h

/-- One record becomes STALE, and the others stand. -/
theorem find_stalePeers (station k : Fin 8) (l : List Peer) :
    (l.map (stalePeer station)).find? (fun q => q.station == k) =
      if k = station then (l.find? fun q => q.station == k).map ({ · with age := ⟨61, 0⟩, fresh := false })
      else l.find? fun q => q.station == k := by
  rw [find_mapPeers (stalePeer_station station)]
  cases found : l.find? fun q => q.station == k with
  | none => simp
  | some p =>
    have own := station_of_find found
    split
    · rename_i same
      exact congrArg some (stalePeer_own (own.trans same))
    · rename_i other
      exact congrArg some (stalePeer_other (own.symm ▸ other))

/-- One record is taken out of the table, and the others stand. -/
theorem find_withoutPeer (station k : Fin 8) (l : List Peer) :
    (l.filter fun p => p.station != station).find? (fun q => q.station == k) =
      if k = station then none else l.find? fun q => q.station == k := by
  rw [List.find?_filter]
  split
  · rename_i same
    subst same
    simp
  · rename_i other
    congr 1
    funext q
    by_cases own : q.station = k <;> simp [own, other]

section
variable {s : State} {station : Fin 8} {p : Peer} (h : s.peers.peers.find? (fun q => q.station == station) = some p)
include h

theorem exec_peerStale (fresh : p.fresh = true) : exec (.peerStale station) s =
    let e := elapse (peerLeft s station) s
    .next (setPeers e (e.peers.peers.map (stalePeer station))) := by
  simp [exec, execPeerStale, peerFresh, h, fresh]

theorem exec_peerRemoval (stale : p.fresh = false) : exec (.peerRemoval station) s =
    let e := elapse (peerLeft s station) s
    .next (setPeers e (e.peers.peers.filter fun p => p.station != station)) := by
  simp [exec, execPeerRemoval, peerFresh, h, stale]

end

end Sys2Proof.Machine

open Sys2Proof Sys2Proof.Machine

/-- Settles O29: once the time to its step has passed, the record is marked or taken out. -/
theorem peerRecordsAgeAndGo : Obligations.PeerRecordsAgeAndGo := by
  unfold Obligations.PeerRecordsAgeAndGo
  intro s station p record
  obtain ⟨age, later⟩ := find_elapse record (peerLeft s station)
  refine ⟨fun fresh => ⟨_, exec_peerStale record fresh, rfl, ?_, fun k other => ?_⟩,
    fun stale => ⟨_, exec_peerRemoval record stale, rfl, ?_, fun k other => ?_⟩⟩
  · exact (find_stalePeers station station _).trans (by rw [if_pos rfl, later]; rfl)
  · exact (find_stalePeers station k _).trans (if_neg other)
  · exact (find_withoutPeer station station _).trans (if_pos rfl)
  · exact (find_withoutPeer station k _).trans (if_neg other)

end

section
/-! What is written into a STATION report's core is what is read out of it (section 13.2). -/

namespace Sys2Proof.Machine

open Sys2Proof

/-- A value that fits two bytes is read back from them. -/
theorem readU16_bytes {n : Nat} (h : n < 65536) : readU16 (BitVec.ofNat 8 (n / 256)) (BitVec.ofNat 8 n) = n := by
  simp only [readU16, BitVec.toNat_ofNat]
  omega

/-- Two counts share one byte, the first in its upper half. -/
theorem counts_of_u8 {a b : Nat} (ha : a < 16) (hb : b < 16) :
    (u8 (a * 16 + b)).toNat / 16 = a ∧ (u8 (a * 16 + b)).toNat % 16 = b := by
  simp only [u8, BitVec.toNat_ofNat]
  omega

/-- The last byte of a core holds the two flags, the station state and the source state. -/
theorem flags_of_u8 (capable duty fallback : Bool) (source : SourceState) :
    let flags := u8 ((if capable then 128 else 0) + (if duty then 64 else 0) + (if fallback then 16 else 0) +
      sourceStateCode source)
    flags.getLsbD 7 = capable ∧ flags.getLsbD 6 = duty ∧ flags.toNat / 16 % 4 = (if fallback then 1 else 0) ∧
      flags.toNat % 16 = sourceStateCode source := by
  cases source <;> revert capable duty fallback <;> decide

theorem sourceStateOf_code (source : SourceState) : sourceStateOf (sourceStateCode source) = some source := by
  cases source <;> rfl

/-- A core as it stands on the line, field by field. -/
theorem readCore_coreBytes {c : CoreValues} (more : List Byte) (r : c.r < 65536) (b : c.b < 65536) (g : c.g < 65536)
    (m : c.m < 65536) (calling : c.calling < 16) (out : c.outOfService < 16) :
    readCore (coreBytes c ++ more) = some ⟨c.r, c.b, c.g, c.m, c.calling, c.outOfService, c.capable, c.duty,
      if c.fallback then 1 else 0, sourceStateCode c.source⟩ := by
  obtain ⟨upper, lower⟩ := counts_of_u8 calling out
  obtain ⟨bit7, bit6, station, source⟩ := flags_of_u8 c.capable c.duty c.fallback c.source
  simp only [coreBytes, u16, List.cons_append, List.nil_append, readCore, readU16_bytes, r, b, g, m, upper, lower, bit7,
    bit6, station, source]

end Sys2Proof.Machine

open Sys2Proof Sys2Proof.Machine

/-- Settles O52: each field is read back from its bytes, and values in their ranges pass check 3 (R77). -/
theorem coreValuesReadBackAsWritten : Obligations.CoreValuesReadBackAsWritten := by
  unfold Obligations.CoreValuesReadBackAsWritten
  intro c more r b g m calling out
  refine ⟨rfl, ?_⟩
  rw [readCore_coreBytes more (by omega) (by omega) (by omega) (by omega) (by omega) (by omega)]
  have state : (if c.fallback then 1 else 0) ≤ 1 := by split <;> decide
  simp [coreOk, sourceStateOf_code, r, b, g, m, calling, out, state]

end

section
/-! METER_PULSE and the measurement: the period's pulses, the sample, and the moves of the meter (R97 to R102). -/

namespace Sys2Proof.Machine

open Sys2Proof

/-! ### Pulses (R97, R98) -/

/-- Before the counter's start pulses are not counted. -/
theorem exec_meterPulse_stopped {s : State} (h : s.meter.counting = false) : exec .meterPulse s = .next s := by
  simp [exec, execMeterPulse, h]

theorem exec_meterPulse_counting {s : State} (h : s.meter.counting = true) : exec .meterPulse s =
    .next { s with meter := { s.meter with pulses := (s.meter.pulses + 1) % 65536 } } := by
  simp [exec, execMeterPulse, h]

/-- The period's pulses are the difference of two counts that wrap. -/
theorem periodPulses_eq {m : Meter} (new : m.pulses < 65536) (old : m.old < 65536) :
    periodPulses m = if m.old ≤ m.pulses then m.pulses - m.old else m.pulses + 65536 - m.old := by
  unfold periodPulses
  split <;> omega

/-! ### The sample (R98, R99) -/

theorem measure_unconfigured {m : Meter} (h : m.state = .unconfigured) (p : Nat) : measure m p = ⟨m, none, none⟩ := by
  simp [measure, h]

/-- The meter with its count latched and the period's pulses taken. -/
def latched (m : Meter) : Meter := { m with new := m.pulses, sub := periodPulses m, old := m.pulses }

/-- The meter that an in-window sample leaves to the moves of its state: the flow is the period's, and the volume is added. -/
def inWindow (m : Meter) (pitch : Nat) : Meter :=
  addVolume { latched m with sample := .inWindow, flow := periodFlow (periodPulses m) pitch } (periodPulses m) pitch

/-- The meter that a discarded sample leaves to the moves of its state: flow and volume stand. -/
def discarded (m : Meter) : Meter := { latched m with sample := .discarded }

/-- A measurement latches the count and judges the sample by its flow. -/
theorem measure_eq {m : Meter} {pitch top : Nat} (configured : m.state ≠ .unconfigured) (pitched : m.pitch = some pitch)
    (limited : m.maximum = some top) (p : Nat) : measure m p =
      if periodFlow (periodPulses m) pitch ≤ top then
        windowSample (inWindow m pitch) (periodFlow (periodPulses m) pitch) p
      else discardSample (discarded m) (periodFlow (periodPulses m) pitch) := by
  obtain ⟨_, _, _, _, _, _, _, state, _, _, _, _, _, _⟩ := m
  obtain rfl : _ = some pitch := pitched
  obtain rfl : _ = some top := limited
  cases state with
  | unconfigured => exact absurd rfl configured
  | good | suspect => rfl

/-! ### The moves between GOOD and SUSPECT (R100 to R102) -/

/-- The moves on an in-window sample change the state and the two runs only. -/
theorem windowSample_moves (m : Meter) (flow p : Nat) : ∃ state zeroRun recoveryRun,
    (windowSample m flow p).meter = { m with state := state, zeroRun := zeroRun, recoveryRun := recoveryRun } ∧
    (windowSample m flow p).flow = some flow := by
  unfold windowSample
  split
  · split
    · split <;> exact ⟨_, _, _, rfl, rfl⟩
    · exact ⟨_, _, _, rfl, rfl⟩
  · split
    · exact ⟨_, _, _, rfl, rfl⟩
    · split <;> exact ⟨_, _, _, rfl, rfl⟩
  · exact ⟨_, _, _, rfl, rfl⟩

/-- The moves on a discarded sample change the state and the two runs only. -/
theorem discardSample_moves (m : Meter) (flow : Nat) : ∃ state zeroRun recoveryRun,
    (discardSample m flow).meter = { m with state := state, zeroRun := zeroRun, recoveryRun := recoveryRun } ∧
    (discardSample m flow).flow = none := by
  unfold discardSample
  split <;> exact ⟨_, _, _, rfl, rfl⟩

section
variable {m : Meter} {flow p : Nat}

/-- A jump takes a GOOD meter to SUSPECT with cause 1 (R100). -/
theorem discardSample_good (good : m.state = .good) : discardSample m flow =
    ⟨{ m with state := .suspect, zeroRun := 0, recoveryRun := 0 }, some (1, ((min flow 65535 : Nat) : Int)), none⟩ := by
  simp only [discardSample, good]

theorem discardSample_suspect (suspect : m.state = .suspect) :
    discardSample m flow = ⟨{ m with recoveryRun := 0 }, none, none⟩ := by
  simp only [discardSample, suspect]

/-- The fourth zero sample against a predicted flow takes a GOOD meter to SUSPECT with cause 2 (R101). -/
theorem windowSample_fourthZero (good : m.state = .good) (high : 200 ≤ p) (run : 3 ≤ m.zeroRun) : windowSample m 0 p =
    ⟨{ m with state := .suspect, zeroRun := 0, recoveryRun := 0 }, some (2, (p : Int)), some 0⟩ := by
  simp [windowSample, good, high, run]

theorem windowSample_zero (good : m.state = .good) (high : 200 ≤ p) (run : m.zeroRun < 3) :
    windowSample m 0 p = ⟨{ m with zeroRun := m.zeroRun + 1 }, none, some 0⟩ := by
  simp [windowSample, good, high, Nat.not_le.2 run]

/-- A flow, or a predicted flow below 200, ends a run of zero samples (R101). -/
theorem windowSample_credible (good : m.state = .good) (h : 0 < flow ∨ p < 200) :
    windowSample m flow p = ⟨{ m with zeroRun := 0 }, none, some flow⟩ := by
  have credible : ¬ (flow = 0 ∧ 200 ≤ p) := by omega
  simp only [windowSample, good, if_neg credible]

/-- The second sample of a recovery run takes a SUSPECT meter back to GOOD (R102). -/
theorem windowSample_recovers (suspect : m.state = .suspect) (flows : 0 < flow) (run : 1 ≤ m.recoveryRun) :
    windowSample m flow p = ⟨{ m with state := .good, recoveryRun := 0 }, none, some flow⟩ := by
  simp [windowSample, suspect, Nat.ne_of_gt flows, run]

theorem windowSample_firstFlow (suspect : m.state = .suspect) (flows : 0 < flow) (run : m.recoveryRun = 0) :
    windowSample m flow p = ⟨{ m with recoveryRun := 1 }, none, some flow⟩ := by
  simp [windowSample, suspect, Nat.ne_of_gt flows, run]

theorem windowSample_suspectZero (suspect : m.state = .suspect) :
    windowSample m 0 p = ⟨{ m with recoveryRun := 0 }, none, some 0⟩ := by
  simp [windowSample, suspect]

end

end Sys2Proof.Machine

open Sys2Proof Sys2Proof.Machine

/-- Settles O26: a measurement is an in-window sample or a discarded one, and each moves the meter by its state. -/
theorem pulsesAndMeasurementsMoveTheMeter : Obligations.PulsesAndMeasurementsMoveTheMeter := by
  unfold Obligations.PulsesAndMeasurementsMoveTheMeter
  refine ⟨fun s => ⟨fun counting below => ?_, fun counting full => ?_, exec_meterPulse_stopped⟩,
    fun m p unconfigured => measure_unconfigured unconfigured p, ?_⟩
  · rw [exec_meterPulse_counting counting, Nat.mod_eq_of_lt (by omega)]
  · rw [exec_meterPulse_counting counting, full]
  intro m p pitch top configured pitched limited new old sub flow a
  have pulses : periodPulses m = sub := periodPulses_eq new old
  have whole : a = if flow ≤ top then windowSample (inWindow m pitch) flow p else discardSample (discarded m) flow := by
    have judged := measure_eq configured pitched limited p
    rw [pulses] at judged
    exact judged
  have inside (low : flow ≤ top) : a = windowSample (inWindow m pitch) flow p := whole.trans (if_pos low)
  have outside (high : top < flow) : a = discardSample (discarded m) flow := whole.trans (if_neg (Nat.not_le.2 high))
  have latch : a.meter.new = m.pulses ∧ a.meter.old = m.pulses ∧ a.meter.sub = sub ∧ a.meter.pulses = m.pulses := by
    rcases Nat.lt_or_ge top flow with high | low
    · obtain ⟨_, _, _, meter, -⟩ := discardSample_moves (discarded m) flow
      rw [outside high, meter]
      exact ⟨rfl, rfl, pulses, rfl⟩
    · obtain ⟨_, _, _, meter, -⟩ := windowSample_moves (inWindow m pitch) flow p
      rw [inside low, meter]
      exact ⟨rfl, rfl, pulses, rfl⟩
  obtain ⟨newest, oldest, period, count⟩ := latch
  refine ⟨newest, oldest, period, count, fun low => ?_, fun high => ?_, fun good high => ?_, fun good low zero high run => ?_,
    fun good low zero high run => ?_, fun good low credible => ?_, fun suspect low flows run => ?_,
    fun suspect low flows run => ?_, fun suspect idle => ?_⟩
  · obtain ⟨_, _, _, meter, sample⟩ := windowSample_moves (inWindow m pitch) flow p
    rw [inside low, meter, sample]
    simp [inWindow, addVolume, latched, pulses, flow, periodFlow]
  · obtain ⟨_, _, _, meter, sample⟩ := discardSample_moves (discarded m) flow
    rw [outside high, meter, sample]
    exact ⟨rfl, rfl, rfl, rfl, rfl⟩
  · rw [outside high, discardSample_good (m := discarded m) good]
    exact ⟨rfl, rfl, rfl, rfl⟩
  · rw [inside low, zero, windowSample_fourthZero (m := inWindow m pitch) good high run]
    exact ⟨rfl, rfl, rfl, rfl⟩
  · rw [inside low, zero, windowSample_zero (m := inWindow m pitch) good high run]
    exact ⟨good, rfl, rfl⟩
  · rw [inside low, windowSample_credible (m := inWindow m pitch) good credible]
    exact ⟨good, rfl, rfl⟩
  · rw [inside low, windowSample_recovers (m := inWindow m pitch) suspect flows run]
    exact ⟨rfl, rfl, rfl⟩
  · rw [inside low, windowSample_firstFlow (m := inWindow m pitch) suspect flows run]
    exact ⟨suspect, rfl, rfl⟩
  · rcases Nat.lt_or_ge top flow with high | low
    · rw [outside high, discardSample_suspect (m := discarded m) suspect]
      exact ⟨suspect, rfl, rfl⟩
    · rw [inside low, idle.resolve_left (Nat.not_lt.2 low), windowSample_suspectZero (m := inWindow m pitch) suspect]
      exact ⟨suspect, rfl, rfl⟩

end

section
/-! What the ranges speak of, and the operations that leave all of it as it stands (R99, R107, R110, R150). -/

namespace Sys2Proof.Machine

open Sys2Proof

/-- What the ranges speak of: the trim factor (R107), the receive queue (R150), the bus counters (chapter 10), the volume
remainder (R99) and the position counters (R110). -/
structure RangedValues where
  trim : Nat
  rx : List Frame
  frameCheck : Nat
  overflow : Nat
  unused : Nat
  dropped : Nat
  remainder : Nat
  counter : Fin 12 → Int

/-- The ranged values as a station holds them. -/
def rangedValues (s : State) : RangedValues where
  trim := s.valves.trim
  rx := s.bus.rx
  frameCheck := s.bus.frameCheck
  overflow := s.bus.overflow
  unused := s.bus.unused
  dropped := s.bus.dropped
  remainder := s.meter.remainder
  counter n := (s.channels.get n).counter

/-- Every ranged value stands. -/
def RangesStand (s t : State) : Prop := rangedValues t = rangedValues s

theorem RangesStand.refl (s : State) : RangesStand s s := rfl

theorem RangesStand.trans {s t u : State} (h : RangesStand s t) (k : RangesStand t u) : RangesStand s u := Eq.trans k h

/-- What stands between two stations that differ beside the ranged values. -/
theorem RangesStand.afterSame {s t u : State} (h : RangesStand t u) (same : RangesStand s t) : RangesStand s u := same.trans h

/-- Where valves, bus and meter stand, the position counters are what is left to see to. -/
theorem RangesStand.of_counters {s t : State} (valves : t.valves.trim = s.valves.trim) (bus : t.bus = s.bus)
    (meter : t.meter = s.meter) (counters : ∀ n, (t.channels.get n).counter = (s.channels.get n).counter) :
    RangesStand s t := by
  simp only [RangesStand, rangedValues, valves, bus, meter, counters]

/-! ### Frames -/

theorem FaultFrame.ranges {s t : State} (h : FaultFrame s t) : RangesStand s t := by
  obtain ⟨_, _, _, _, rfl⟩ := h
  rfl

theorem ChainFrame.ranges {s t : State} (h : ChainFrame s t) : RangesStand s t := by
  obtain ⟨_, _, _, _, _, rfl⟩ := h
  rfl

theorem NoticeFrame.ranges {s t : State} (h : NoticeFrame s t) : RangesStand s t := by
  obtain ⟨_, _, _, _, _, _, rfl⟩ := h
  rfl

theorem DryFrame.ranges {s t : State} (h : DryFrame s t) : RangesStand s t := by
  obtain ⟨_, _, _, _, _, _, _, _, _, rfl⟩ := h
  rfl

theorem PassFrame.ranges {s t : State} (h : PassFrame s t) : RangesStand s t := by
  obtain ⟨_, _, _, _, _, _, rfl⟩ := h
  rfl

theorem GrantFrame.ranges {s t : State} (h : GrantFrame s t)
    (counters : ∀ n, (t.channels.get n).counter = (s.channels.get n).counter) : RangesStand s t := by
  obtain ⟨_, _, _, rfl⟩ := h
  exact .of_counters rfl rfl rfl counters

theorem report_ranges (s : State) (e : FaultEvent) : RangesStand s (report s e) := (report_frame s e).ranges

theorem elapse_ranges (d : Nat) (s : State) : RangesStand s (elapse d s) := by
  simp only [RangesStand, rangedValues, elapse_valves, elapse_meter, elapse_bus_rx, elapse_bus_frameCheck,
    elapse_bus_overflow, elapse_bus_unused, elapse_bus_dropped, elapse_channel_counter]

/-! ### Channels and arbiter -/

theorem setChannel_ranges {s : State} {n : Fin 12} {c : Channel} (h : c.counter = (s.channels.get n).counter) :
    RangesStand s (setChannel s n c) := by
  refine .of_counters rfl rfl rfl fun m => ?_
  rw [setChannel_channels, Tab.get_set]
  split
  · rename_i own; rw [h, own]
  · rfl

theorem putChannel_ranges {s : State} {n : Fin 12} {c : Channel} (h : c.counter = (s.channels.get n).counter) :
    RangesStand s (putChannel s n c) := by
  refine (putChannel_grantFrame s n c).ranges fun m => ?_
  by_cases own : n = m
  · subst own; rw [putChannel_get_self, h]
  · rw [putChannel_get_ne s c own]

theorem grants_ranges (s : State) : RangesStand s (grants s) :=
  (grants_grantFrame s).ranges fun n => grantLoop_counter n _ s

theorem freeSlot_ranges (s : State) (n : Fin 12) : RangesStand s (freeSlot s n) :=
  (grants_ranges _).afterSame rfl

theorem settle_ranges (s : State) (n : Fin 12) : RangesStand s (settle s n) := putChannel_ranges (by rfl)

/-- A channel is put with its counter, and its slot is freed. -/
theorem putFree_ranges {s : State} {n : Fin 12} {c : Channel} (h : c.counter = (s.channels.get n).counter) :
    RangesStand s (freeSlot (putChannel s n c) n) := (putChannel_ranges h).trans (freeSlot_ranges _ n)

theorem requestMove_ranges (s : State) (n : Fin 12) : RangesStand s (requestMove s n) := by
  have joined (u : State) : RangesStand u (joinMove u n) := by
    unfold joinMove
    split <;> rfl
  exact ((putChannel_ranges (by rfl)).trans (joined _)).trans (grants_ranges _)

theorem compareTarget_ranges (s : State) (n : Fin 12) : RangesStand s (compareTarget s n) := by
  unfold compareTarget
  dsimp only
  split
  · exact requestMove_ranges s n
  · exact .refl s

theorem requestCalibration_ranges (s : State) (n : Fin 12) (service : Bool) :
    RangesStand s (requestCalibration s n service) := by
  have joined (u : State) : RangesStand u (joinCalibrate u n) := by
    unfold joinCalibrate
    split
    · rfl
    · split <;> rfl
  rcases requestCalibration_cases s n service with e | e | e <;> rw [e]
  · exact .refl s
  · exact setChannel_ranges (by rfl)
  · exact ((putChannel_ranges (by rfl)).trans (joined _)).trans (grants_ranges _)

theorem takeTarget_ranges (s : State) (n : Fin 12) (x : Nat) : RangesStand s (takeTarget s n x) := by
  refine (takeTarget_grantFrame s n x).ranges fun m => ?_
  by_cases own : m = n
  · obtain ⟨-, counter, -⟩ := takeTarget_own s n x
    rw [own, counter]
  · rw [takeTarget_channel_of_ne x own]

theorem dropMove_ranges (s : State) (n : Fin 12) : RangesStand s (dropMove s n) := putFree_ranges (by rfl)

theorem disable_ranges (s : State) (n : Fin 12) : RangesStand s (disable s n) :=
  RangesStand.trans (putChannel_ranges (by rfl)) ((freeSlot_ranges _ n).afterSame rfl)

theorem feedbackError_ranges (s : State) (n : Fin 12) (cause : Int) (count : Nat) :
    RangesStand s (feedbackError s n cause count) :=
  ((report_ranges s _).trans (dropMove_ranges _ n)).trans (requestCalibration_ranges _ n false)

theorem failCalibration_ranges (s : State) (n : Fin 12) (cause : Int) : RangesStand s (failCalibration s n cause) :=
  (report_ranges s _).trans (disable_ranges _ n)

theorem report_channels (s : State) (e : FaultEvent) : (report s e).channels = s.channels := (report_frame s e).work.channels

theorem blockedStall_ranges (s : State) (n : Fin 12) : RangesStand s (blockedStall s n) := by
  have rested (c : Channel) (h : c.counter = (s.channels.get n).counter) (e : FaultEvent) :
      RangesStand s (freeSlot (putChannel (report s e) n c) n) :=
    (report_ranges s e).trans (putFree_ranges (by rw [report_channels]; exact h))
  unfold blockedStall
  dsimp only
  split
  · split
    · exact (rested _ (by rfl) _).trans (requestCalibration_ranges _ n false)
    · exact rested _ (by rfl) _
  · exact (rested _ (by rfl) _).trans (disable_ranges _ n)

theorem calibrationStroke_ranges (s : State) (n : Fin 12) : RangesStand s (calibrationStroke s n) := by
  unfold calibrationStroke
  dsimp only
  split
  · exact putChannel_ranges (by rfl)
  · exact failCalibration_ranges s n 3

/-- What a channel judges at an edge moves no counter: the edge has moved it. -/
theorem judgeChannel_ranges (s : State) (n : Fin 12) : RangesStand s (judgeChannel s n) := by
  have driving : RangesStand s (match (s.channels.get n).move with
      | some m =>
        if 4 ≤ m.illegal then feedbackError s n 1 m.illegal
        else if 9 ≤ m.against then feedbackError s n 3 m.against
        else if arrived (s.channels.get n) then settle s n
        else s
      | none => s) := by
    split
    · split
      · exact feedbackError_ranges s n 1 _
      · split
        · exact feedbackError_ranges s n 3 _
        · split
          · exact settle_ranges s n
          · exact .refl s
    · exact .refl s
  have resting (c : Bool) (e : FaultEvent) :
      RangesStand s (if c then requestCalibration (report s e) n false else s) := by
    split
    · exact (report_ranges s e).trans (requestCalibration_ranges _ n false)
    · exact .refl s
  unfold judgeChannel
  dsimp only
  split
  · exact driving
  · exact driving
  · exact resting _ _
  · exact resting _ _
  all_goals exact .refl s

theorem timeoutTaken_ranges (s : State) (n : Fin 12) : RangesStand s (timeoutTaken s n) :=
  ((report_ranges s _).trans (dropMove_ranges _ n)).trans (requestCalibration_ranges _ n false)

theorem moveCompleted_ranges (s : State) (n : Fin 12) : RangesStand s (moveCompleted s n) := by
  unfold moveCompleted
  dsimp only
  split
  · exact (putFree_ranges (by rfl)).trans (requestCalibration_ranges _ n false)
  · exact (putFree_ranges (by rfl)).trans (compareTarget_ranges _ n)

theorem calibrationCompleted_ranges (s : State) (n : Fin 12) : RangesStand s (calibrationCompleted s n) :=
  (putFree_ranges (by rfl)).trans (compareTarget_ranges _ n)

theorem reversingEnded_ranges (s : State) (n : Fin 12) : RangesStand s (reversingEnded s n) := by
  unfold reversingEnded
  dsimp only
  split
  · exact putChannel_ranges (by rfl)
  · exact settle_ranges s n

/-! ### The swap -/

theorem swapChannel_ranges (s : State) (n : Fin 12) : RangesStand s (swapChannel s n) := by
  rw [swapChannel_eq]
  cases targetFor (s.engine.buffer.get n) (s.channels.get n) with
  | none => exact .refl s
  | some x => exact takeTarget_ranges s n x

theorem takeRequests_ranges (s : State) (l : List (Fin 12)) : RangesStand s (takeRequests s l) := by
  unfold takeRequests
  split
  · exact .refl s
  · exact requestMove_ranges s _
  · exact foldl_frame RangesStand.refl RangesStand.trans requestMove_ranges _ (drawn s)

theorem swapTargets_ranges (s : State) : RangesStand s (swapTargets s) := by
  have swapped : RangesStand s ((List.finRange 12).foldl swapChannel s) :=
    foldl_frame RangesStand.refl RangesStand.trans swapChannel_ranges _ s
  unfold swapTargets
  dsimp only
  generalize (List.finRange 12).foldl swapChannel s = swap at swapped ⊢
  exact swapped.trans ((takeRequests_ranges (emptyBuffer swap) _).afterSame rfl)

theorem closeSwap_ranges (s : State) : RangesStand s (closeSwap s) := by
  have filled : RangesStand s (fillFallback s) := (fillFallback_frame s).ranges
  unfold closeSwap
  dsimp only
  split
  · exact filled
  · exact filled.trans (swapTargets_ranges _)

/-! ### The source record -/

theorem followView_ranges (s : State) (st : SourceState) : RangesStand s (followView s st) := by
  unfold followView
  dsimp only
  split
  · exact (grants_ranges _).afterSame rfl
  · rfl

theorem followHeating_ranges (s : State) (before after : SourceState) : RangesStand s (followHeating s before after) := by
  unfold followHeating
  split
  · exact ((pauseProgram_frame s .one).trans (pauseProgram_frame _ .two)).ranges
  · split
    · exact (resumePrograms_frame s).ranges
    · exact .refl s

theorem followSource_ranges (s : State) (before : SourceState) : RangesStand s (followSource s before) :=
  (followView_ranges s _).trans (followHeating_ranges _ _ _)

theorem takeSourceReport_ranges (s : State) (f : Frame) : RangesStand s (takeSourceReport s f) := by
  unfold takeSourceReport
  split
  · exact .refl s
  · split
    · rfl
    · split
      · exact report_ranges s _
      · rename_i st _
        exact (beforeHeating_frame s st).ranges.trans
          ((followSource_ranges _ (effectiveState s)).afterSame rfl)

theorem staleSource_ranges (s : State) : RangesStand s (staleSource s) :=
  (beforeHeating_frame s .heating).ranges.trans
    (((report_ranges _ _).trans (followSource_ranges _ _)).afterSame rfl)

/-! ### Reports of rooms and stations, samples, and what requests carry out -/

theorem takeRoomReport_ranges (s : State) (f : Frame) : RangesStand s (takeRoomReport s f) := by
  unfold takeRoomReport
  dsimp only
  split
  · rfl
  · split
    · rfl
    · split
      · rfl
      · rfl
      · split
        · rfl
        · split <;> rfl

theorem ageRoom_ranges (s : State) (room secs : Nat) (st : RoomState) : RangesStand s (ageRoom s room secs st) := by
  unfold ageRoom
  split <;> rfl

theorem orphanRoom_ranges (s : State) (room : Nat) (never : Bool) : RangesStand s (orphanRoom s room never) :=
  (ageRoom_ranges s room 901 .orphan).trans (report_ranges _ _)

theorem takeStationReport_ranges (s : State) (f : Frame) : RangesStand s (takeStationReport s f) := by
  unfold takeStationReport
  dsimp only
  split
  · rfl
  · split
    · split
      · exact report_ranges s _
      · split <;> rfl
    · rfl

theorem takeSample_ranges (s : State) (n : Fin 14) (code : Nat) : RangesStand s (takeSample s n code) := by
  unfold takeSample
  dsimp only
  split
  · exact (report_ranges _ _).afterSame rfl
  · rfl

theorem partAnswer_ranges (parts : List (List Byte)) (asked : Option Byte) (s : State) :
    RangesStand s (partAnswer parts asked s).1 := by
  unfold partAnswer
  dsimp only
  split
  · split <;> rfl
  · rfl

theorem carryReadLoop_ranges (args : List Byte) (s : State) : RangesStand s (carryReadLoop args s).1 := by
  unfold carryReadLoop
  split
  · rfl
  · split
    · exact partAnswer_ranges _ _ s
    · rfl
    · rfl

theorem carryRecalibrate_ranges (args : List Byte) (s : State) : RangesStand s (carryRecalibrate args s).1 := by
  unfold carryRecalibrate
  split
  · rfl
  · split
    · split
      · rfl
      · exact foldl_frame RangesStand.refl RangesStand.trans (fun s n => requestCalibration_ranges s n true) _ s
    · split
      · rfl
      · split
        · exact requestCalibration_ranges s _ true
        · rfl

theorem carryClearFaults_ranges (args : List Byte) (s : State) : RangesStand s (carryClearFaults args s).1 := by
  unfold carryClearFaults
  split <;> rfl

theorem carryAlertMask_ranges (args : List Byte) (s : State) : RangesStand s (carryAlertMask args s).1 := by
  have mask (slot : Fin 4) (on : Bool) : RangesStand s (maskSlot s slot on) := by
    unfold maskSlot
    dsimp only
    split
    · rfl
    · split
      · exact (raiseAlerts_frame _ _).ranges.afterSame rfl
      · rfl
  unfold carryAlertMask
  split
  · split
    · exact mask _ _
    · rfl
  · rfl

theorem carryAlertEnable_ranges (args : List Byte) (s : State) : RangesStand s (carryAlertEnable args s).1 := by
  unfold carryAlertEnable
  split <;> rfl

theorem carryDryout_ranges {operation : State → Prog → Frame → State} (h : ∀ s p f, RangesStand s (operation s p f))
    (f : Frame) (code : Byte) (args : List Byte) (s : State) : RangesStand s (carryDryout operation f code args s) := by
  unfold carryDryout
  split
  · exact (sendReply_frame s _ _ _).ranges
  · exact (finishDry_frame s).ranges.trans (h _ _ f)

/-! ### Reports sent, and the transmitter -/

theorem sendReport_ranges (s : State) : RangesStand s (sendReport s) := rfl

theorem extraReport_ranges (s : State) : RangesStand s (extraReport s) := by
  unfold extraReport
  split
  · split
    · exact sendReport_ranges s
    · split
      · exact sendReport_ranges s
      · rfl
  · rfl

theorem setTxFrame_ranges (s : State) (slot : TxSlot) (f : Option Frame) :
    RangesStand s { s with bus := setTxFrame s.bus slot f } := by
  cases slot <;> rfl

theorem execTransmit_ranges {s t : State} : (execTransmitStart s = .next t ∨ execArbitrationLost s = .next t ∨
    execArbitrationWon s = .next t ∨ execFrameSent s = .next t ∨ execFrameBrokenOff s = .next t) → RangesStand s t := by
  rintro (h | h | h | h | h) <;> obtain rfl := Host.Outcome.next.inj h
  · split <;> rfl
  · split <;> rfl
  · split
    · split
      · exact setTxFrame_ranges s _ _
      · rfl
    · rfl
  · split <;> rfl
  · split
    · dsimp only
      split
      · rfl
      · exact setTxFrame_ranges s _ _
    · rfl

end Sys2Proof.Machine
end

section
/-! The ranges along every step (R99, R107, R110, R150). -/

namespace Sys2Proof.Machine

open Sys2Proof

/-- The ranges, where they hold before, hold after. -/
def KeepsRanges (s t : State) : Prop := RangeLaw s → RangeLaw t

theorem KeepsRanges.refl (s : State) : KeepsRanges s s := id

theorem KeepsRanges.trans {s t u : State} (h : KeepsRanges s t) (k : KeepsRanges t u) : KeepsRanges s u := k ∘ h

theorem KeepsRanges.ite {c : Prop} [Decidable c] {s t : State} (h : KeepsRanges s t) :
    KeepsRanges s (if c then t else s) := by
  split
  · exact h
  · exact .refl s

/-- Values that stand keep their ranges. -/
theorem RangesStand.keeps {s t : State} (h : RangesStand s t) : KeepsRanges s t := by
  intro law
  obtain ⟨trim, rx, frameCheck, overflow, unused, dropped, remainder, counter⟩ := RangedValues.mk.inj h
  simpa only [RangeLaw, trim, rx, frameCheck, overflow, unused, dropped, remainder, fun n => congrFun counter n] using law

theorem KeepsRanges.afterSame {s t u : State} (h : KeepsRanges t u) (same : RangesStand s t) : KeepsRanges s u :=
  same.keeps.trans h

theorem bump_le (cap n : Nat) : bump cap n ≤ cap := by rw [bump_eq_min]; exact min_le_left _ _

/-! ### The bus: the receive queue and the counters (R150, R156) -/

theorem popped_keepsRanges (s : State) : KeepsRanges s (popped s) := by
  rintro ⟨trim, rx, counters, remainder, positions⟩
  have shorter : s.bus.rx.tail.length ≤ 8 := by rw [List.length_tail]; omega
  exact ⟨trim, shorter, counters, remainder, positions⟩

theorem countUnused_keepsRanges (s : State) : KeepsRanges s (countUnused s) := by
  rintro ⟨trim, rx, ⟨frameCheck, overflow, -, dropped⟩, beside⟩
  exact ⟨trim, rx, ⟨frameCheck, overflow, bump_le _ _, dropped⟩, beside⟩

theorem countDropped_keepsRanges (s : State) : KeepsRanges s (countDropped s) := by
  rintro ⟨trim, rx, ⟨frameCheck, overflow, unused, -⟩, beside⟩
  exact ⟨trim, rx, ⟨frameCheck, overflow, unused, bump_le _ _⟩, beside⟩

/-- A frame joins a queue of fewer than 8 only; otherwise a counter that stops at its cap rises (R149, R150). -/
theorem receive_keepsRanges (s : State) (f : RxFrame) : KeepsRanges s (receive s f) := by
  rintro ⟨trim, rx, ⟨frameCheck, overflow, unused, dropped⟩, beside⟩
  unfold receive
  dsimp only
  split
  · exact (report_ranges _ _).keeps ⟨trim, rx, ⟨bump_le _ _, overflow, unused, dropped⟩, beside⟩
  · split
    · rename_i room
      have fits : (s.bus.rx ++ [rxToFrame f]).length ≤ 8 := by rw [List.length_append]; exact room
      exact ⟨trim, fits, ⟨frameCheck, overflow, unused, dropped⟩, beside⟩
    · exact (report_ranges _ _).keeps ⟨trim, rx, ⟨frameCheck, bump_le _ _, unused, dropped⟩, beside⟩

/-- What takes a head frame: the request before it is answered, and the frame leaves the queue. -/
theorem handedOn_keepsRanges {take : State → Frame → State} (h : ∀ s f, KeepsRanges s (take s f)) (s : State)
    (c : Instr) : KeepsRanges s (match takeHead s c with
      | some (f, s1) => take s1 f
      | none => s) := by
  split
  · rename_i taken
    obtain ⟨-, -, rfl⟩ := takeHead_eq_some.1 taken
    have answered : KeepsRanges s (answerOpen s) := .ite (finishDry_frame s).ranges.keeps
    exact (answered.trans (popped_keepsRanges _)).trans (h _ _)
  · exact .refl s

theorem takeRequest_keepsRanges {carry : Byte → List Byte → State → State}
    (h : ∀ code args s, RangesStand s (carry code args s)) (s : State) (f : Frame) :
    KeepsRanges s (takeRequest s f carry) := by
  unfold takeRequest
  split
  · split
    · exact countUnused_keepsRanges s
    · split
      · exact countUnused_keepsRanges s
      · split
        · exact countDropped_keepsRanges s
        · exact (h _ _ s).keeps
  · exact .refl s

theorem answerRequest_keepsRanges {carry : List Byte → State → State × Answer}
    (h : ∀ args s, RangesStand s (carry args s).1) (s : State) (f : Frame) : KeepsRanges s (answerRequest s f carry) :=
  takeRequest_keepsRanges (fun _ args s => (h args s).trans (sendReply_frame _ _ _ _).ranges) s f

/-! ### The trim update: the volume remainder and the trim factor (R99, R106, R107) -/

/-- A remainder stands, or is what a thousand leaves. -/
theorem measure_remainder {m : Meter} (h : m.remainder < 1000) (p : Nat) : (measure m p).meter.remainder < 1000 := by
  unfold measure
  split
  · exact h
  · dsimp only
    split
    · obtain ⟨_, _, _, meter, -⟩ := windowSample_moves (addVolume _ _ _) (periodFlow (periodPulses m) _) p
      rw [meter]
      exact Nat.mod_lt _ (by decide)
    · obtain ⟨_, _, _, meter, -⟩ := discardSample_moves { m with
        new := m.pulses, sub := periodPulses m, old := m.pulses, sample := .discarded } (periodFlow (periodPulses m) _)
      rw [meter]
      exact h
  · exact h

theorem nextTrim_range (c target : Nat) : 700 ≤ nextTrim c target ∧ nextTrim c target ≤ 1300 := by
  unfold nextTrim
  rw [clampInt_eq (by decide)]
  omega

theorem trimStep_keepsRanges (s : State) : KeepsRanges s (trimStep s) := by
  rintro ⟨trim, rx, counters, remainder, positions⟩
  unfold trimStep
  split
  · exact ⟨trim, rx, counters, remainder, positions⟩
  · exact ⟨trim, rx, counters, remainder, positions⟩
  · have measured := measure_remainder remainder s.valves.lastP
    unfold measureTrim
    dsimp only
    split
    · exact (report_ranges _ _).keeps ⟨trim, rx, counters, measured, positions⟩
    · exact ⟨trim, rx, counters, measured, positions⟩
  · unfold judgeTrim
    dsimp only
    split
    · exact ⟨nextTrim_range _ _, rx, counters, remainder, positions⟩
    · exact ⟨trim, rx, counters, remainder, positions⟩

theorem trimSteps_keepRanges (k : Nat) (s : State) : KeepsRanges s (trimSteps k s) :=
  times_frame .refl .trans trimStep_keepsRanges k s

theorem trimPiece_keepsRanges (k : Nat) (s : State) : KeepsRanges s (piece trimStep k s) :=
  (trimSteps_keepRanges k s).trans (RangesStand.keeps rfl)

/-! ### The pass (R46, R71) -/

theorem beginPass_keepsRanges (s : State) : KeepsRanges s (beginPass s) := by
  have reading (s : State) : RangesStand s (takeReading s) := by
    unfold takeReading
    dsimp only
    split
    · exact (report_ranges _ _).afterSame rfl
    · rfl
  have opening (s : State) : RangesStand s (openVisit s) := (reading _).afterSame rfl
  exact (trimSteps_keepRanges 3 s).trans
    (((elapse_ranges _ _).trans (opening _)).trans (passPiece_frame _ _).ranges).keeps

theorem closePass_keepsRanges (s : State) (w : PassResult) : KeepsRanges s (closePass s w) := by
  have closed : RangesStand s (beginTrim (handResults (closeSwap s) w (effectiveState s))) := closeSwap_ranges s
  exact ((closed.keeps.trans (trimPiece_keepsRanges _ _)).trans (extraReport_ranges _).keeps).trans
    (trimPiece_keepsRanges _ _)

theorem execPassClose_keepsRanges {s t : State} (h : execPassClose s = .next t) : KeepsRanges s t := by
  obtain rfl := Host.Outcome.next.inj h
  have stages := (passSteps_frame (stepsLeft s) s).ranges.keeps
  split
  · exact stages.trans (closePass_keepsRanges _ _)
  · exact stages

/-! ### The position counters (R110, R117, R123) -/

/-- A channel whose counter is in range, if the one before it was, keeps the ranges. -/
theorem setChannel_keepsRanges {s : State} {n : Fin 12} {c : Channel}
    (h : -1024 ≤ (s.channels.get n).counter ∧ (s.channels.get n).counter ≤ 5119 → -1024 ≤ c.counter ∧ c.counter ≤ 5119) :
    KeepsRanges s (setChannel s n c) := by
  rintro ⟨trim, rx, counters, remainder, positions⟩
  refine ⟨trim, rx, counters, remainder, fun m => ?_⟩
  rw [setChannel_channels, Tab.get_set]
  split
  · exact h (positions n)
  · exact positions m

theorem putChannel_keepsRanges {s : State} {n : Fin 12} {c : Channel} (h : -1024 ≤ c.counter ∧ c.counter ≤ 5119) :
    KeepsRanges s (putChannel s n c) := by
  have set : RangesStand (setChannel s n c) (putChannel s n c) := by
    obtain ⟨_, _, _, e⟩ := putChannel_grantFrame s n c
    have channels : (putChannel s n c).channels = s.channels.set n c := rfl
    rw [e] at channels ⊢
    exact .of_counters rfl rfl rfl fun m => by rw [setChannel_channels, ← channels]
  exact (setChannel_keepsRanges fun _ => h).trans set.keeps

/-- The seat is at 0, which is in range (R117, R123). -/
theorem seat_inRange : (-1024 : Int) ≤ 0 ∧ (0 : Int) ≤ 5119 := by decide

theorem seatFound_keepsRanges (s : State) (n : Fin 12) : KeepsRanges s (seatFound s n) := by
  have seat : KeepsRanges s (setChannel s n { s.channels.get n with
      seatError := some (s.channels.get n).counter, counter := 0 }) :=
    setChannel_keepsRanges fun _ => seat_inRange
  exact seat.trans (settle_ranges _ n).keeps

/-- A legal edge steps the counter within its limits, an illegal one leaves it (R110). -/
theorem feedbackEdge_keepsRanges (s : State) (n : Fin 12) (a b : Bool) : KeepsRanges s (feedbackEdge s n a b) := by
  have legal (c : Channel) (d : Direction) : -1024 ≤ (legalEdge c d).counter ∧ (legalEdge c d).counter ≤ 5119 := by
    unfold legalEdge
    dsimp only
    rw [clampInt_eq (by decide)]
    omega
  unfold feedbackEdge
  dsimp only
  split
  · exact .refl s
  · refine KeepsRanges.trans ?_ (judgeChannel_ranges _ n).keeps
    exact (setChannel_keepsRanges fun _ => legal _ _).afterSame rfl
  · refine RangesStand.keeps (RangesStand.trans ?_ (judgeChannel_ranges _ n))
    exact (setChannel_ranges (by rfl)).afterSame rfl

theorem stallTaken_keepsRanges (s : State) (n : Fin 12) : KeepsRanges s (stallTaken s n) := by
  unfold stallTaken
  dsimp only
  split
  · split
    · exact seatFound_keepsRanges s n
    · exact (blockedStall_ranges s n).keeps
  · exact (blockedStall_ranges s n).keeps
  · exact putChannel_keepsRanges seat_inRange
  · exact (calibrationStroke_ranges s n).keeps
  all_goals exact .refl s

/-- The end of one of a channel's timers: time passes, and the channel's own event follows. -/
theorem driveEvent_keepsRanges {c : Prop} [Decidable c] {taken : State → State} (h : ∀ s, KeepsRanges s (taken s)) (d : Nat)
    (s : State) : KeepsRanges s (if c then taken (elapse d s) else s) := .ite ((elapse_ranges d s).keeps.trans (h _))

/-! ### Resets and start (R165, R170, R171) -/

/-- After a reset the queue is empty, and the counters are at 0. -/
theorem busReset_inRange : Bus.reset.rx.length ≤ 8 ∧ Bus.reset.frameCheck ≤ 65535 ∧ Bus.reset.overflow ≤ 65535 ∧
    Bus.reset.unused ≤ 65535 ∧ Bus.reset.dropped ≤ 65535 := by decide

theorem warmReset_keepsRanges (straps : BitVec 3) (memory : Option (List Word16)) (s : State) :
    KeepsRanges s (warmReset straps memory s) := by
  rintro ⟨trim, -, -, remainder, positions⟩
  obtain ⟨rx, counters⟩ := busReset_inRange
  refine ⟨trim, rx, counters, remainder, fun n => ?_⟩
  have channel : (warmReset straps memory s).channels.get n = warmChannel s n := Tab.get_tabulate _ n
  rw [channel]
  exact positions n

/-- The start leaves factor, remainder and position counters, and begins with an empty queue and counters of 0. -/
theorem startBlocks_keepsRanges (s : State) (l : Loaded) : KeepsRanges s (startBlocks s l) := by
  rintro ⟨trim, -, -, remainder, positions⟩
  obtain ⟨rx, counters⟩ := busReset_inRange
  refine ⟨trim, rx, counters, remainder, fun n => ?_⟩
  simp only [startBlocks, Tab.get_tabulate, startChannel]
  exact positions n

theorem startStation_keepsRanges (s : State) : KeepsRanges s (startStation s) := by
  have broughtUp : KeepsRanges s (broughtUp s) :=
    (reportAll_frame s _).ranges.keeps.trans (startBlocks_keepsRanges _ _)
  have asked : RangesStand (restarted s) (startStation s) := by
    rw [startStation_eq]
    exact foldl_frame .refl .trans (fun s n => by
      unfold startCalibration
      split
      · exact .refl s
      · exact requestCalibration_ranges s n false) _ _
  exact (broughtUp.trans (restarted_frame s).ranges.keeps).trans asked.keeps

/-! ### Every command and the idle step -/

theorem execModeNotice_ranges {s t : State} (h : execModeNotice s = .next t) : RangesStand s t := by
  obtain rfl := Host.Outcome.next.inj h
  split
  · exact .refl s
  · rename_i notice later _
    have before : RangesStand s (finishNotice { s with rooms := { s.rooms with notices := later } }) :=
      (finishNotice_frame _).ranges.afterSame rfl
    exact before.trans ((noticeSteps_frame _ (beginNotice _ notice)).ranges.afterSame rfl)

/-- Every command keeps the ranges. -/
theorem exec_keepsRanges {i : Instr} {s t : State} (h : exec i s = .next t) : KeepsRanges s t := by
  cases i with
  | powerOnReset straps memory =>
    obtain rfl := Host.Outcome.next.inj h
    have reset : RangesStand State.reset (powerOn straps memory s) := rfl
    exact fun _ => reset.keeps rangeLaw_reset
  | warmReset => obtain rfl := Host.Outcome.next.inj h; exact warmReset_keepsRanges _ _ s
  | stationStart => obtain rfl := Host.Outcome.next.inj h; exact .ite (startStation_keepsRanges s)
  | passTimerExpiry => obtain rfl := Host.Outcome.next.inj h; exact .ite (beginPass_keepsRanges s)
  | probeHoldExpiry => obtain rfl := Host.Outcome.next.inj h; exact .ite (beginPass_keepsRanges s)
  | passClose => exact execPassClose_keepsRanges h
  | extraReportDue =>
    obtain rfl := Host.Outcome.next.inj h
    exact .ite ((elapse_ranges _ s).trans (sendReport_ranges _)).keeps
  | regularReport =>
    obtain rfl := Host.Outcome.next.inj h
    exact .ite ((elapse_ranges (reportLeft s) s).trans (sendReport_ranges _)).keeps
  | scanRound => obtain rfl := Host.Outcome.next.inj h; exact .ite (elapse_ranges (scanLeft s) s).keeps
  | sampleEvent n code =>
    obtain rfl := Host.Outcome.next.inj h
    split
    · exact .ite ((takeSample_ranges _ n _).keeps.afterSame rfl)
    · exact .refl s
  | frameReceived f => obtain rfl := Host.Outcome.next.inj h; exact .ite (receive_keepsRanges s f)
  | roomReport =>
    obtain rfl := Host.Outcome.next.inj h
    exact handedOn_keepsRanges (fun s f => (takeRoomReport_ranges s f).keeps) s _
  | modeNotice => exact (execModeNotice_ranges h).keeps
  | boostTimerExpiry n =>
    obtain rfl := Host.Outcome.next.inj h
    exact .ite ((elapse_ranges _ s).trans (withdraw_frame _ n .boost).ranges).keeps
  | roomEntersHeld room =>
    obtain rfl := Host.Outcome.next.inj h
    exact .ite ((elapse_ranges _ s).trans (ageRoom_ranges _ _ _ _)).keeps
  | roomStale room =>
    obtain rfl := Host.Outcome.next.inj h
    split
    · exact ((elapse_ranges _ s).trans (orphanRoom_ranges _ _ _)).keeps
    · exact ((elapse_ranges _ s).trans (orphanRoom_ranges _ _ _)).keeps
    · exact .refl s
  | stationReport =>
    obtain rfl := Host.Outcome.next.inj h
    exact handedOn_keepsRanges (fun s f => (takeStationReport_ranges s f).keeps) s _
  | peerStale n => obtain rfl := Host.Outcome.next.inj h; exact .ite (elapse_ranges (peerLeft s n) s).keeps
  | peerRemoval n => obtain rfl := Host.Outcome.next.inj h; exact .ite (elapse_ranges (peerLeft s n) s).keeps
  | sourceReport =>
    obtain rfl := Host.Outcome.next.inj h
    exact handedOn_keepsRanges (fun s f => (takeSourceReport_ranges s f).keeps) s _
  | sourceStale =>
    obtain rfl := Host.Outcome.next.inj h
    exact .ite ((elapse_ranges _ s).trans (staleSource_ranges _)).keeps
  | unusedFrame =>
    obtain rfl := Host.Outcome.next.inj h
    exact handedOn_keepsRanges (take := fun s _ => countUnused s) (fun s _ => countUnused_keepsRanges s) s _
  | readLoop =>
    obtain rfl := Host.Outcome.next.inj h
    exact handedOn_keepsRanges (answerRequest_keepsRanges carryReadLoop_ranges) s _
  | readFaults =>
    obtain rfl := Host.Outcome.next.inj h
    exact handedOn_keepsRanges (answerRequest_keepsRanges fun _ _ => partAnswer_ranges _ _ _) s _
  | readPeers =>
    obtain rfl := Host.Outcome.next.inj h
    exact handedOn_keepsRanges (answerRequest_keepsRanges fun _ _ => partAnswer_ranges _ _ _) s _
  | readTrim =>
    obtain rfl := Host.Outcome.next.inj h
    exact handedOn_keepsRanges (answerRequest_keepsRanges fun _ _ => partAnswer_ranges _ _ _) s _
  | startDryout =>
    obtain rfl := Host.Outcome.next.inj h
    exact handedOn_keepsRanges (fun s f => takeRequest_keepsRanges
      (carryDryout_ranges (fun s p f => (startProgram_frame s p f).ranges) f) s f) s _
  | stopDryout =>
    obtain rfl := Host.Outcome.next.inj h
    exact handedOn_keepsRanges (fun s f => takeRequest_keepsRanges
      (carryDryout_ranges (fun s p f => (stopProgram_frame s p f).ranges) f) s f) s _
  | recalibrate =>
    obtain rfl := Host.Outcome.next.inj h
    exact handedOn_keepsRanges (answerRequest_keepsRanges carryRecalibrate_ranges) s _
  | clearFaults =>
    obtain rfl := Host.Outcome.next.inj h
    exact handedOn_keepsRanges (answerRequest_keepsRanges carryClearFaults_ranges) s _
  | alertMask =>
    obtain rfl := Host.Outcome.next.inj h
    exact handedOn_keepsRanges (answerRequest_keepsRanges carryAlertMask_ranges) s _
  | alertEnable =>
    obtain rfl := Host.Outcome.next.inj h
    exact handedOn_keepsRanges (answerRequest_keepsRanges carryAlertEnable_ranges) s _
  | unknownRequest =>
    obtain rfl := Host.Outcome.next.inj h
    exact handedOn_keepsRanges (answerRequest_keepsRanges fun _ s => .refl s) s _
  | dryoutHour p =>
    obtain rfl := Host.Outcome.next.inj h
    exact .ite (((finishDry_frame s).ranges.trans (elapse_ranges (hourLeft (finishDry s) p) _)).trans
      (setInstance_frame _ _ _).ranges).keeps
  | dryoutStepEnd p =>
    obtain rfl := Host.Outcome.next.inj h
    exact .ite ((finishDry_frame s).ranges.trans (stepEnd_frame _ p).ranges).keeps
  | meterPulse => obtain rfl := Host.Outcome.next.inj h; exact .ite (RangesStand.keeps rfl)
  | feedbackEdge n a b => obtain rfl := Host.Outcome.next.inj h; exact feedbackEdge_keepsRanges s n a b
  | stall n =>
    obtain rfl := Host.Outcome.next.inj h
    exact driveEvent_keepsRanges (fun s => stallTaken_keepsRanges s n) _ s
  | moveTimeout n =>
    obtain rfl := Host.Outcome.next.inj h
    exact driveEvent_keepsRanges (fun s => (timeoutTaken_ranges s n).keeps) _ s
  | phaseLimitExpiry n =>
    obtain rfl := Host.Outcome.next.inj h
    split
    · exact ((elapse_ranges _ s).trans (failCalibration_ranges _ n _)).keeps
    · exact .refl s
  | settlingEnd n =>
    obtain rfl := Host.Outcome.next.inj h
    exact driveEvent_keepsRanges (fun s => (moveCompleted_ranges s n).keeps) _ s
  | calibrationSettlingEnd n =>
    obtain rfl := Host.Outcome.next.inj h
    exact driveEvent_keepsRanges (fun s => (calibrationCompleted_ranges s n).keeps) _ s
  | reversingEnd n =>
    obtain rfl := Host.Outcome.next.inj h
    exact driveEvent_keepsRanges (fun s => (reversingEnded_ranges s n).keeps) _ s
  | calOpenDeadIntervalEnd n =>
    obtain rfl := Host.Outcome.next.inj h
    exact driveEvent_keepsRanges (taken := fun s => calOpenDriven s n) (fun s => (putChannel_ranges (by rfl)).keeps) _ s
  | transmitStart => exact (execTransmit_ranges (.inl h)).keeps
  | arbitrationLost => exact (execTransmit_ranges (.inr (.inl h))).keeps
  | arbitrationWon => exact (execTransmit_ranges (.inr (.inr (.inl h)))).keeps
  | frameSent => exact (execTransmit_ranges (.inr (.inr (.inr (.inl h))))).keeps
  | frameBrokenOff => exact (execTransmit_ranges (.inr (.inr (.inr (.inr h))))).keeps

theorem workStep_keepsRanges (w : Work) (s : State) : KeepsRanges s (workStep w s) := by
  cases w with
  | load =>
    simp only [workStep, loadStep]
    split
    · exact .refl s
    · refine RangesStand.keeps ?_
      exact (report_ranges _ _).afterSame rfl
  | pass => exact (passStep_frame s).ranges.keeps
  | trim => exact trimStep_keepsRanges s
  | notice => exact (noticeStep_frame s).ranges.keeps
  | dryout => exact (dryStep_frame s).ranges.keeps
  | alerts => exact (placeAlert_frame s).ranges.keeps

/-- The idle step keeps the ranges. -/
theorem tick_keepsRanges (s : State) : KeepsRanges s (tick s) := by
  have queue (s : State) : RangesStand s (queueDue s) := by
    rcases queueDue_cases s with ⟨-, e⟩ | ⟨_, -, _, e⟩ <;> rw [e]
    · exact .refl s
    · rfl
  have work (w : Work) (k : Nat) (s : State) : KeepsRanges s (piece (workStep w) k s) :=
    (times_frame .refl .trans (workStep_keepsRanges w) k s).trans (RangesStand.keeps rfl)
  rcases tick_cases s with ⟨-, -, e⟩ | ⟨-, e | ⟨-, e⟩⟩ | ⟨busy, k, -, e⟩ <;> rw [e]
  · exact (elapse_ranges 1 s).keeps
  · exact (queue s).keeps
  · exact (queue { s with cuts := s.cuts + 1 }).keeps
  · obtain ⟨w, -, draws, e⟩ := goOn_piece busy k
    rw [e]
    exact work w k { s with draws := draws }

end Sys2Proof.Machine

open Sys2Proof Sys2Proof.Machine

/-- Settles O59: a step is a command or the idle step; what moves a ranged value holds it in its range, and all else leaves
it. -/
theorem everyStepKeepsTheRanges : Obligations.EveryStepKeepsTheRanges := by
  unfold Obligations.EveryStepKeepsTheRanges
  intro s t law h
  unfold step at h
  split at h
  · rename_i i rest _
    exact exec_keepsRanges (s := s.withPending rest) h law
  · obtain rfl := Host.Outcome.next.inj h
    exact tick_keepsRanges s law

end

section
/-! The trim update: the predicted flow, the measurement with its fault, and the judgment (R96, R100, R103 to R107). -/

namespace Sys2Proof.Machine

open Sys2Proof

/-! ### The predicted flow (R96, R104) -/

/-- A position share is the counter's part of the stroke, clamped (R96). -/
theorem positionShare_eq {c : Channel} {stroke : Nat} (h : c.stroke = some stroke) :
    (positionShare c : Int) = max 0 (min 1000 ((c.counter * 1000).tdiv stroke)) := by
  simp only [positionShare, h, clampInt_eq (show (0 : Int) ≤ 1000 by decide)]
  exact Int.toNat_of_nonneg (le_max_left _ _)

section
variable {s : State} {n : Fin 12} {l : Loop}

theorem flowTerm_absent (h : s.loops.get n = none) : flowTerm s n = 0 := by simp only [flowTerm, h]

theorem flowTerm_invalid (h : s.loops.get n = some l) (invalid : validTable s l.info.valveType = none) :
    flowTerm s n = 0 := by
  simp only [flowTerm, h, invalid]

/-- A present loop with a valid table and a usable channel has the trimmed flow times the fraction at its position. -/
theorem flowTerm_valid {v : ValveTable} (h : s.loops.get n = some l) (valid : validTable s l.info.valveType = some v) :
    flowTerm s n = if (s.channels.get n).calibrated = true ∧ (s.channels.get n).state ≠ .disabled then
      l.info.qFull * s.valves.trim / 1000 * fractionAt v (positionShare (s.channels.get n)) / 1000 else 0 := by
  simp only [flowTerm, h, valid, channelUsable_iff, trimmedFlow]

end

/-! ### The fault of a measurement (R100, R101) -/

/-- The METER_FAULT of a cause with its value. -/
def meterFault (s : State) (cause value : Int) : FaultEvent := ⟨.meterFault, stationNumber s, cause, value, none⟩

/-- A report of a station whose recorder, bus and loader are the same leaves the same of the fault. -/
theorem FaultMade.of_report {s t : State} {cause value : Int}
    (recorder : t.recorder = (report s (meterFault s cause value)).recorder)
    (bus : t.bus = (report s (meterFault s cause value)).bus) : FaultMade s (some (cause, value)) t := by
  refine ⟨nofun, fun cause' value' same => ?_⟩
  obtain ⟨rfl, rfl⟩ := Prod.mk.inj (Option.some.inj same)
  refine ⟨recorder, bus, ?_, fun empty unmasked => ?_⟩
  · rw [recorder, report_kinds]
    simp [meterFault]
  · obtain ⟨pointer, record⟩ := report_empty_pointer s (meterFault s cause value) empty unmasked
    rw [recorder, pointer, record]
    exact ⟨rfl, rfl⟩

/-- The station when its measurement has been made, before a fault of it is reported. -/
def measured (s : State) : State :=
  let a := measure s.meter s.valves.lastP
  { s with meter := a.meter, valves := { s.valves with update := some (.judge a.meter.state a.flow) } }

theorem measureTrim_faultless {s : State} (h : (measure s.meter s.valves.lastP).fault = none) :
    measureTrim s = measured s := by
  simp only [measureTrim, h, measured]

theorem measureTrim_faulty {s : State} {cause value : Int}
    (h : (measure s.meter s.valves.lastP).fault = some (cause, value)) :
    measureTrim s = report (measured s) (meterFault s cause value) := by
  simp only [measureTrim, h]
  rfl

/-- The measurement with the last P: what it makes of the meter, and what it returns to the judgment. -/
theorem measureTrim_measured (s : State) : (measureTrim s).meter = (measured s).meter ∧
    (measureTrim s).valves = (measured s).valves ∧ (measureTrim s).channels = s.channels := by
  cases fault : (measure s.meter s.valves.lastP).fault with
  | none =>
    rw [measureTrim_faultless fault]
    exact ⟨rfl, rfl, rfl⟩
  | some made =>
    obtain ⟨_, _, _, _, frame⟩ := report_frame (measured s) (meterFault s made.1 made.2)
    rw [measureTrim_faulty fault, frame]
    exact ⟨rfl, rfl, rfl⟩

/-- A fault that the measurement makes is reported as by any station with this recorder, bus and loader. -/
theorem measureTrim_fault {b s : State} (recorder : s.recorder = b.recorder) (bus : s.bus = b.bus)
    (loader : s.loader = b.loader) : FaultMade b (measure s.meter s.valves.lastP).fault (measureTrim s) := by
  cases fault : (measure s.meter s.valves.lastP).fault with
  | none =>
    rw [measureTrim_faultless fault]
    exact ⟨fun _ => ⟨recorder, bus⟩, nofun⟩
  | some made =>
    have same : meterFault s made.1 made.2 = meterFault b made.1 made.2 := by
      simp only [meterFault, stationNumber, loader]
    rw [measureTrim_faulty fault, same]
    exact .of_report (report_recorder_congr (s := measured s) recorder _)
      (report_bus_congr (s := measured s) recorder bus loader _)

/-! ### The judgment (R105, R106) -/

/-- A channel in one of the states of R105, which the activity flag takes up after the judgment. -/
theorem anyActive_iff (s : State) : anyActive s = true ↔ ∃ n, (s.channels.get n).state ∈ ([.queued, .drivingOpen,
    .drivingClose, .reversing, .settling, .calClose, .calOpen] : List ChannelState) := by
  have active (x : ChannelState) : activeState x = true ↔ x ∈ ([.queued, .drivingOpen, .drivingClose, .reversing,
      .settling, .calClose, .calOpen] : List ChannelState) := by cases x <;> decide
  simp only [anyActive, List.any_eq_true, ← active]
  constructor
  · rintro ⟨c, mem, set⟩
    obtain ⟨i, bound, rfl⟩ := List.getElem_of_mem mem
    exact ⟨⟨i, by rw [← s.channels.size]; exact bound⟩, set⟩
  · rintro ⟨n, set⟩
    exact ⟨_, List.getElem_mem _, set⟩

section
variable {state : MeterState} {flow : Option Nat} {p : Nat}

theorem judge_notQuiet : judge true state flow p = .notQuiet := rfl

theorem judge_meterNotGood (h : state ≠ .good) : judge false state flow p = .meterNotGood := by simp [judge, h]

theorem judge_noSample (h : flow = none ∨ flow = some 0) : judge false .good flow p = .noSample := by
  rcases h with rfl | rfl <;> rfl

theorem judge_lowFlow {m : Nat} (low : p < 200) : judge false .good (some (m + 1)) p = .lowFlow := by simp [judge, low]

theorem judge_updated {m : Nat} (high : 200 ≤ p) : judge false .good (some (m + 1)) p = .updated := by
  simp [judge, Nat.not_lt.2 high]

end

theorem nextTrim_eq (c target : Nat) :
    (nextTrim c target : Int) = max 700 (min 1300 ((c : Int) + ((target : Int) - c).tdiv 8)) := by
  rw [nextTrim, clampInt_eq (by decide)]
  exact Int.toNat_of_nonneg (by omega)

/-- A judgment but UPDATED lets the factor stand and keeps no target. -/
theorem judgeTrim_stands {s : State} {state : MeterState} {flow : Option Nat}
    (h : judge s.valves.activity state flow s.valves.lastP ≠ .updated) : (judgeTrim s state flow).valves = { s.valves with
      lastJudgment := judge s.valves.activity state flow s.valves.lastP
      activity := anyActive s
      update := none
      lastTarget := none } := if_neg h

/-- UPDATED moves the factor toward its target (R106). -/
theorem judgeTrim_updated {s : State} {state : MeterState} {flow : Option Nat}
    (h : judge s.valves.activity state flow s.valves.lastP = .updated) : (judgeTrim s state flow).valves = { s.valves with
      trim := nextTrim s.valves.trim (s.valves.trim * flow.getD 0 / s.valves.lastP)
      lastJudgment := .updated
      activity := anyActive s
      update := none
      lastTarget := some (s.valves.trim * flow.getD 0 / s.valves.lastP) } := by
  simp only [judgeTrim, h, if_true]

/-- The fields that step 3 writes whatever it judges. -/
theorem judgeTrim_beside (s : State) (state : MeterState) (flow : Option Nat) :
    let v := (judgeTrim s state flow).valves
    v.tables = s.valves.tables ∧ v.lastP = s.valves.lastP ∧ v.update = none ∧ v.activity = anyActive s ∧
      v.lastJudgment = judge s.valves.activity state flow s.valves.lastP := by
  by_cases h : judge s.valves.activity state flow s.valves.lastP = .updated
  · rw [judgeTrim_updated h, h]
    exact ⟨rfl, rfl, rfl, rfl, rfl⟩
  · rw [judgeTrim_stands h]
    exact ⟨rfl, rfl, rfl, rfl, rfl⟩

/-- Step 3, by the first failing condition. -/
theorem judgeTrim_judged (s : State) (state : MeterState) (flow : Option Nat) :
    Judged s s.valves.lastP state flow (judgeTrim s state flow).valves := by
  obtain ⟨tables, lastP, update, activity, judged⟩ := judgeTrim_beside s state flow
  refine ⟨tables, lastP, update, fun busy => ?_, fun quiet bad => ?_, fun quiet good none_ => ?_,
    fun m quiet good some_ low => ?_, fun other => ?_, fun m quiet good some_ high => ?_, ?_⟩
  · rw [judged, Bool.eq_true_of_not_eq_false busy, judge_notQuiet]
  · rw [judged, quiet, judge_meterNotGood bad]
  · rw [judged, quiet, good, judge_noSample none_]
  · rw [judged, quiet, good, some_, judge_lowFlow low]
  · rw [judgeTrim_stands (judged ▸ other)]
    exact ⟨rfl, rfl⟩
  · have updated : judge s.valves.activity state flow s.valves.lastP = .updated := by
      rw [quiet, good, some_, judge_updated high]
    rw [judgeTrim_updated updated, some_]
    exact ⟨rfl, rfl, nextTrim_eq _ _⟩
  · rw [activity]
    exact anyActive_iff s

/-! ### The update as a whole (R103) -/

theorem trimStep_predict {s : State} (h : s.valves.update = some .predict) :
    trimStep s = { s with valves := { s.valves with lastP := predictedFlow s, update := some .measure } } := by
  simp only [trimStep, h, predictTrim]

theorem trimStep_measure {s : State} (h : s.valves.update = some .measure) : trimStep s = measureTrim s := by
  simp only [trimStep, h]

theorem trimStep_judge {s : State} {state : MeterState} {flow : Option Nat}
    (h : s.valves.update = some (.judge state flow)) : trimStep s = judgeTrim s state flow := by
  simp only [trimStep, h]

/-- The station that step 2 finds, with `p` the last P. -/
def predicted (s : State) (p : Nat) : State := { s with valves := { s.valves with lastP := p, update := some .measure } }

/-- The station after step 3, with `p` the last P. -/
def updated (s : State) (p : Nat) : State :=
  let a := measure s.meter p
  judgeTrim (measureTrim (predicted s p)) a.meter.state a.flow

/-- Three steps make a whole update: the predicted flow, the measurement, the judgment. -/
theorem trimSteps_whole (s : State) : trimSteps 3 (beginTrim s) = updated s (predictedFlow s) := by
  obtain ⟨-, valves, -⟩ := measureTrim_measured (predicted s (predictedFlow s))
  have first : trimStep (beginTrim s) = predicted s (predictedFlow s) := trimStep_predict rfl
  have second : trimStep (predicted s (predictedFlow s)) = measureTrim (predicted s (predictedFlow s)) :=
    trimStep_measure rfl
  have third := trimStep_judge (congrArg ValveTables.update valves)
  calc trimSteps 3 (beginTrim s) = trimStep (trimStep (trimStep (beginTrim s))) := rfl
    _ = trimStep (measureTrim (predicted s (predictedFlow s))) := by rw [first, second]
    _ = updated s (predictedFlow s) := third

/-- A judgment is read off factor, tables, activity flag and channels. -/
theorem Judged.of_same {b s : State} {p : Nat} {state : MeterState} {flow : Option Nat} {v : ValveTables}
    (h : Judged s p state flow v) (trim : s.valves.trim = b.valves.trim) (tables : s.valves.tables = b.valves.tables)
    (activity : s.valves.activity = b.valves.activity) (channels : s.channels = b.channels) : Judged b p state flow v := by
  simpa only [Judged, trim, tables, activity, channels] using h

/-- What a whole update makes of meter, recorder, bus and valve tables. -/
theorem updated_made (s : State) (p : Nat) :
    let a := measure s.meter p
    (updated s p).meter = a.meter ∧ FaultMade s a.fault (updated s p) ∧
      Judged s p a.meter.state a.flow (updated s p).valves := by
  intro a
  obtain ⟨meter, valves, channels⟩ := measureTrim_measured (predicted s p)
  have fault : FaultMade s a.fault (measureTrim (predicted s p)) := measureTrim_fault (s := predicted s p) rfl rfl rfl
  have judged := judgeTrim_judged (measureTrim (predicted s p)) a.meter.state a.flow
  rw [valves] at judged
  exact ⟨meter, fault, judged.of_same (by rw [valves]; rfl) (by rw [valves]; rfl) (by rw [valves]; rfl) channels⟩

end Sys2Proof.Machine

open Sys2Proof Sys2Proof.Machine

/-- Settles O27: each step by its equation, and the whole update by the three steps one after the other. -/
theorem trimMovesOneEighthWhenThePeriodQualifies : Obligations.TrimMovesOneEighthWhenThePeriodQualifies := by
  unfold Obligations.TrimMovesOneEighthWhenThePeriodQualifies
  refine ⟨fun c stroke => positionShare_eq, fun s => ?_, fun s => trimStep_predict, fun s found => ?_,
    fun s state flow found => ?_, fun s ended => trimSteps_of_none ended 1, fun s => ?_⟩
  · refine congrArg List.sum (List.map_congr_left fun n _ => ?_)
    cases present : s.loops.get n with
    | none => exact flowTerm_absent present
    | some l =>
      dsimp only
      cases valid : validTable s l.info.valveType with
      | none => exact flowTerm_invalid present valid
      | some v => exact flowTerm_valid present valid
  · intro a t
    have made : t = measureTrim s := trimStep_measure found
    obtain ⟨meter, valves, -⟩ := measureTrim_measured s
    refine ⟨trimStep_frame s, ?_⟩
    rw [made]
    exact ⟨meter, valves, measureTrim_fault rfl rfl rfl⟩
  · intro t
    have made : t = judgeTrim s state flow := trimStep_judge found
    rw [made]
    exact ⟨rfl, judgeTrim_judged s state flow⟩
  · intro p a t
    have made : t = updated s p := trimSteps_whole s
    have begun : TrimFrame s (beginTrim s) := ⟨_, _, _, _, _, _, rfl⟩
    refine ⟨begun.trans (trimSteps_frame 3 _), ?_⟩
    rw [made]
    exact updated_made s p

end

section
/-! What the arbiter's own operations make of queue and slots, and that each keeps their law (R129, R130, R131, R133, R134). -/

namespace Sys2Proof.Machine

open Sys2Proof

/-! ### The next grant -/

/-- A grant goes to a free slot and to an entry that may start. -/
theorem nextGrant_eq_some {a : Arbiter} {i : Fin 3} {e : DriveEntry} (h : nextGrant a = some (i, e)) :
    a.slots.get i = none ∧ e ∈ a.queue ∧ mayStart a e = true := by
  unfold nextGrant at h
  split at h
  · rename_i free oldest
    obtain ⟨rfl, rfl⟩ := Prod.mk.inj (Option.some.inj h)
    have empty := List.find?_some free
    exact ⟨Option.isNone_iff_eq_none.1 empty, List.mem_of_find?_eq_some oldest, List.find?_some oldest⟩
  · cases h

/-! ### Who waits and who holds a slot after each change -/

/-- The arbiter after a channel without entry and slot has joined the tail. -/
def withEntry (a : Arbiter) (n : Fin 12) (k : OpKind) : Arbiter := { a with queue := a.queue ++ [⟨n, k⟩] }

/-- The arbiter after a channel's entry has become a calibration, in its place. -/
def recast (a : Arbiter) (n : Fin 12) : Arbiter :=
  { a with queue := a.queue.map fun e => if e.channel = n then ⟨n, .calibrate⟩ else e }

/-- The arbiter after a channel's entry has gone. -/
def withoutEntry (a : Arbiter) (n : Fin 12) : Arbiter := { a with queue := a.queue.filter fun e => e.channel != n }

theorem unqueued_withEntry {a : Arbiter} {n m : Fin 12} {k : OpKind} :
    unqueued (withEntry a n k) m ↔ n ≠ m ∧ unqueued a m := by
  simp only [unqueued, withEntry, List.mem_append, List.mem_singleton]
  constructor
  · exact fun h => ⟨h _ (.inr rfl), fun e mem => h e (.inl mem)⟩
  · rintro ⟨ne, h⟩ e (mem | rfl)
    · exact h e mem
    · exact ne

theorem unqueued_recast {a : Arbiter} {n m : Fin 12} : unqueued (recast a n) m ↔ unqueued a m := by
  have same (e : DriveEntry) : (if e.channel = n then DriveEntry.mk n .calibrate else e).channel = e.channel := by
    split
    · exact (‹e.channel = n›).symm
    · rfl
  simp only [unqueued, recast, List.forall_mem_map, same]

theorem unqueued_withoutEntry {a : Arbiter} {n m : Fin 12} : unqueued (withoutEntry a n) m ↔ n = m ∨ unqueued a m := by
  simp only [unqueued, withoutEntry, List.mem_filter, bne_iff_ne]
  constructor
  · intro h
    refine or_iff_not_imp_left.2 fun ne e mem own => ?_
    exact h e ⟨mem, fun own' => ne (own'.symm.trans own)⟩ own
  · rintro (rfl | h) e ⟨mem, ne⟩
    · exact ne
    · exact h e mem

theorem ArbiterLaw.queue_nodup {a : Arbiter} (law : ArbiterLaw a) : a.queue.Nodup := by
  obtain ⟨distinct, -⟩ := law
  exact distinct.of_map _

/-- One entry per channel: the entry granted is the channel's only one. -/
theorem unqueued_granted {a : Arbiter} (law : ArbiterLaw a) {e : DriveEntry} (mem : e ∈ a.queue) {i : Fin 3} {m : Fin 12} :
    unqueued (granted a i e) m ↔ e.channel = m ∨ unqueued a m := by
  simp only [unqueued, granted, law.queue_nodup.mem_erase_iff]
  obtain ⟨distinct, -⟩ := law
  constructor
  · intro h
    refine or_iff_not_imp_left.2 fun ne x mem' own => ?_
    exact h x ⟨fun same => ne (same ▸ own), mem'⟩ own
  · rintro (rfl | h) x ⟨ne, mem'⟩
    · exact fun same => ne (List.inj_on_of_nodup_map distinct mem' mem same)
    · exact h x mem'

theorem holdsSlot_granted {a : Arbiter} {i : Fin 3} (free : a.slots.get i = none) {e : DriveEntry} {m : Fin 12} :
    holdsSlot (granted a i e) m ↔ e.channel = m ∨ holdsSlot a m := by
  simp only [holdsSlot, granted, Tab.get_set]
  constructor
  · rintro ⟨j, f, held, own⟩
    split at held
    · cases held; exact .inl own
    · exact .inr ⟨j, f, held, own⟩
  · rintro (own | ⟨j, f, held, own⟩)
    · exact ⟨i, e, by simp, own⟩
    · refine ⟨j, f, ?_, own⟩
      rw [if_neg (by rintro rfl; rw [free] at held; cases held), held]

/-- What a slot holds once a channel's slot is free. -/
theorem slot_released {a : Arbiter} {n : Fin 12} {j : Fin 3} {e : DriveEntry} :
    (released a n).slots.get j = some e ↔ a.slots.get j = some e ∧ e.channel ≠ n := by
  simp only [released, Tab.get_map]
  cases a.slots.get j with
  | none => simp
  | some f =>
    by_cases own : f.channel = n
    · simp only [own, if_true, Option.some.injEq]
      constructor
      · intro h; cases h
      · rintro ⟨rfl, ne⟩; exact absurd own ne
    · simp only [own, if_false, Option.some.injEq]
      constructor
      · rintro rfl; exact ⟨rfl, own⟩
      · exact And.left

theorem holdsSlot_released {a : Arbiter} {n m : Fin 12} : holdsSlot (released a n) m ↔ n ≠ m ∧ holdsSlot a m := by
  simp only [holdsSlot, slot_released]
  constructor
  · rintro ⟨j, e, ⟨held, ne⟩, rfl⟩
    exact ⟨ne.symm, j, e, held, rfl⟩
  · rintro ⟨ne, j, e, held, rfl⟩
    exact ⟨j, e, ⟨held, ne.symm⟩, rfl⟩

/-! ### Each change keeps the law -/

theorem ArbiterLaw.withEntry {a : Arbiter} (law : ArbiterLaw a) {n : Fin 12} (waits : unqueued a n) (free : ¬ holdsSlot a n)
    (k : OpKind) : ArbiterLaw (withEntry a n k) := by
  obtain ⟨distinct, apart, single⟩ := law
  refine ⟨?_, ?_, single⟩
  · simp only [Machine.withEntry, List.map_append, List.map_cons, List.map_nil]
    refine List.nodup_append.2 ⟨distinct, List.nodup_singleton n, ?_⟩
    intro c mem c' mem' same
    obtain ⟨e, here, rfl⟩ := List.mem_map.1 mem
    exact waits e here (same.trans (List.mem_singleton.1 mem'))
  · intro e mem
    rcases List.mem_append.1 mem with mem | mem
    · exact apart e mem
    · rw [List.mem_singleton.1 mem]; exact free

theorem ArbiterLaw.recast {a : Arbiter} (law : ArbiterLaw a) (n : Fin 12) : ArbiterLaw (recast a n) := by
  obtain ⟨distinct, apart, single⟩ := law
  have same (e : DriveEntry) : (if e.channel = n then DriveEntry.mk n .calibrate else e).channel = e.channel := by
    split
    · exact (‹e.channel = n›).symm
    · rfl
  refine ⟨?_, ?_, single⟩
  · simpa only [Machine.recast, List.map_map, Function.comp_def, same] using distinct
  · intro x mem
    obtain ⟨e, here, rfl⟩ := List.mem_map.1 mem
    rw [same]
    exact apart e here

theorem ArbiterLaw.withoutEntry {a : Arbiter} (law : ArbiterLaw a) (n : Fin 12) : ArbiterLaw (withoutEntry a n) := by
  obtain ⟨distinct, apart, single⟩ := law
  refine ⟨distinct.sublist (List.filter_sublist.map _), ?_, single⟩
  exact fun e mem => apart e (List.mem_of_mem_filter mem)

theorem ArbiterLaw.released {a : Arbiter} (law : ArbiterLaw a) (n : Fin 12) : ArbiterLaw (released a n) := by
  obtain ⟨distinct, apart, single⟩ := law
  refine ⟨distinct, fun e mem held => ?_, fun i j e f held held' => ?_⟩
  · obtain ⟨-, held⟩ := holdsSlot_released.1 held
    exact apart e mem held
  · obtain ⟨held, -⟩ := slot_released.1 held
    obtain ⟨held', -⟩ := slot_released.1 held'
    exact single i j e f held held'

theorem ArbiterLaw.granted {a : Arbiter} (law : ArbiterLaw a) {i : Fin 3} {e : DriveEntry} (free : a.slots.get i = none)
    (mem : e ∈ a.queue) : ArbiterLaw (granted a i e) := by
  have waits {x : DriveEntry} (here : x ∈ a.queue.erase e) : e.channel ≠ x.channel := fun same =>
    (unqueued_granted law mem (i := i)).2 (.inl rfl) x here same.symm
  obtain ⟨distinct, apart, single⟩ := law
  have only {j : Fin 3} {f : DriveEntry} (held : a.slots.get j = some f) : f.channel ≠ e.channel := fun same =>
    apart e mem ⟨j, f, held, same⟩
  refine ⟨distinct.sublist (List.erase_sublist.map _), fun x here held => ?_, fun j k f g held held' same => ?_⟩
  · rcases (holdsSlot_granted free).1 held with own | held
    · exact waits here own
    · exact apart x (List.mem_of_mem_erase here) held
  · simp only [Machine.granted, Tab.get_set] at held held'
    split at held <;> split at held'
    · exact (‹i = j›).symm.trans ‹i = k›
    · cases held; exact absurd same.symm (only held')
    · cases held'; exact absurd same (only held)
    · exact single j k f g held held' same

end Sys2Proof.Machine
end

section
/-! The channels bound to queue and slots (Table 7.2): which operations of channels and arbiter keep it. -/

namespace Sys2Proof.Machine

open Sys2Proof

/-- A channel in a state waits exactly while QUEUED, and holds a slot exactly in the states that hold one. -/
def BoundAt (a : Arbiter) (n : Fin 12) (state : ChannelState) : Prop :=
  (¬ unqueued a n ↔ state = .queued) ∧ (holdsSlot a n ↔ slotState state = true)

/-- The arbiter keeps its law and every channel is bound to it. -/
def Bound (s : State) : Prop := ArbiterLaw s.arbiter ∧ ∀ n, BoundAt s.arbiter n (s.channels.get n).state

theorem Bound.waits {s : State} (h : Bound s) {n : Fin 12} (out : (s.channels.get n).state ≠ .queued) :
    unqueued s.arbiter n := by
  obtain ⟨-, bound⟩ := h
  obtain ⟨entries, -⟩ := bound n
  by_contra some_
  exact out (entries.1 some_)

theorem Bound.holds {s : State} (h : Bound s) {n : Fin 12} (out : slotState (s.channels.get n).state = false) :
    ¬ holdsSlot s.arbiter n := by
  obtain ⟨-, bound⟩ := h
  obtain ⟨-, slots⟩ := bound n
  rw [slots, out]
  exact nofun

/-- A change at one channel: bound there afterwards, and elsewhere as before. -/
theorem Bound.of_one {s t : State} (h : Bound s) {n : Fin 12} (law : ArbiterLaw t.arbiter)
    (own : BoundAt t.arbiter n (t.channels.get n).state)
    (others : ∀ m, n ≠ m → (t.channels.get m).state = (s.channels.get m).state ∧
      (unqueued t.arbiter m ↔ unqueued s.arbiter m) ∧ (holdsSlot t.arbiter m ↔ holdsSlot s.arbiter m)) : Bound t := by
  obtain ⟨-, bound⟩ := h
  refine ⟨law, fun m => ?_⟩
  by_cases same : n = m
  · exact same ▸ own
  · obtain ⟨state, entry, slot⟩ := others m same
    rw [BoundAt, state, entry, slot]
    exact bound m

/-- Loader and law of the channels, from one state to the next. -/
def KeepsBound (s t : State) : Prop := t.loader.state = s.loader.state ∧ (Bound s → Bound t)

theorem KeepsBound.refl (s : State) : KeepsBound s s := ⟨rfl, id⟩

theorem KeepsBound.trans {s t u : State} (h : KeepsBound s t) (k : KeepsBound t u) : KeepsBound s u := by
  obtain ⟨loader, bound⟩ := h
  obtain ⟨loader', bound'⟩ := k
  exact ⟨loader'.trans loader, bound' ∘ bound⟩

theorem KeepsBound.ite {c : Prop} [Decidable c] {s t : State} (h : KeepsBound s t) : KeepsBound s (if c then t else s) := by
  split
  · exact h
  · exact .refl s

/-- Loader, arbiter and channel states stand. -/
def DriveStands (s t : State) : Prop := t.loader.state = s.loader.state ∧ t.arbiter = s.arbiter ∧
  ∀ n, (t.channels.get n).state = (s.channels.get n).state

theorem DriveStands.trans {s t u : State} (h : DriveStands s t) (k : DriveStands t u) : DriveStands s u := by
  obtain ⟨loader, arbiter, states⟩ := h
  obtain ⟨loader', arbiter', states'⟩ := k
  exact ⟨loader'.trans loader, arbiter'.trans arbiter, fun n => (states' n).trans (states n)⟩

theorem DriveStands.keepsBound {s t : State} (h : DriveStands s t) : KeepsBound s t := by
  obtain ⟨loader, arbiter, states⟩ := h
  exact ⟨loader, fun bound => by simpa only [Bound, arbiter, states] using bound⟩

theorem DriveStands.of_same {s t : State} (loader : t.loader.state = s.loader.state) (arbiter : t.arbiter = s.arbiter)
    (channels : t.channels = s.channels) : DriveStands s t := ⟨loader, arbiter, fun n => by rw [channels]⟩

theorem KeepsBound.afterSame {s t u : State} (h : KeepsBound t u) (same : DriveStands s t) : KeepsBound s u :=
  same.keepsBound.trans h

theorem ChainFrame.driveStands {s t : State} (h : ChainFrame s t) : DriveStands s t := by
  obtain ⟨_, _, _, _, _, rfl⟩ := h
  exact .of_same rfl rfl rfl

theorem report_driveStands (s : State) (e : FaultEvent) : DriveStands s (report s e) :=
  (report_frame s e).chain.driveStands

theorem elapse_driveStands (d : Nat) (s : State) : DriveStands s (elapse d s) :=
  ⟨by rw [elapse_loader], elapse_arbiter s d, elapse_channel_state s d⟩

theorem GrantFrame.loader {s t : State} (h : GrantFrame s t) : t.loader = s.loader := by
  obtain ⟨_, _, _, rfl⟩ := h
  rfl

theorem DriveFrame.loader {s t : State} (h : DriveFrame s t) : t.loader = s.loader := by
  obtain ⟨_, _, _, _, _, _, _, rfl⟩ := h
  rfl

/-! ### One channel takes a value -/

/-- A channel that stays queued, stays in its slot, or stays out of both is bound as before. -/
theorem Bound.of_channel {s t : State} (h : Bound s) {n : Fin 12} {c : Channel} (arbiter : t.arbiter = s.arbiter)
    (channels : t.channels = s.channels.set n c) (queued : c.state = .queued ↔ (s.channels.get n).state = .queued)
    (slot : slotState c.state = slotState (s.channels.get n).state) : Bound t := by
  have ⟨law, bound⟩ := h
  refine h.of_one (n := n) (arbiter ▸ law) ?_ fun m other => ?_
  · rw [arbiter, channels, Tab.get_set_self, BoundAt, queued, slot]
    exact bound n
  · rw [arbiter, channels, Tab.get_set_ne _ _ other]
    exact ⟨rfl, .rfl, .rfl⟩

theorem not_queued_of_slot {state : ChannelState} (h : slotState state = true) : state ≠ .queued := by
  rintro rfl
  cases h

/-- A channel goes from one state of an operation to another. -/
theorem putChannel_keepsBound {s : State} {n : Fin 12} {c : Channel} (before : slotState (s.channels.get n).state = true)
    (after : slotState c.state = true) : KeepsBound s (putChannel s n c) :=
  ⟨congrArg _ (putChannel_grantFrame s n c).loader, fun h => h.of_channel rfl rfl
    (iff_of_false (not_queued_of_slot after) (not_queued_of_slot before)) (after.trans before.symm)⟩

theorem setChannel_driveStands {s : State} {n : Fin 12} {c : Channel} (h : c.state = (s.channels.get n).state) :
    DriveStands s (setChannel s n c) := by
  refine ⟨rfl, rfl, fun m => ?_⟩
  rw [setChannel_channels, Tab.get_set]
  split
  · rename_i own; rw [h, own]
  · rfl

theorem putChannel_driveStands {s : State} {n : Fin 12} {c : Channel} (h : c.state = (s.channels.get n).state) :
    DriveStands s (putChannel s n c) :=
  (setChannel_driveStands h).trans (.of_same (congrArg _ (putChannel_grantFrame s n c).loader) rfl rfl)

/-- A channel comes to rest and its slot is free. -/
theorem Bound.of_rest {s t : State} (h : Bound s) {n : Fin 12} {c : Channel} (arbiter : t.arbiter = released s.arbiter n)
    (channels : t.channels = s.channels.set n c) (before : slotState (s.channels.get n).state = true)
    (after : c.state = .idle ∨ c.state = .disabled) : Bound t := by
  have ⟨law, _⟩ := h
  have out : unqueued s.arbiter n := h.waits (not_queued_of_slot before)
  refine h.of_one (n := n) (arbiter ▸ law.released n) ?_ fun m other => ?_
  · rw [arbiter, channels, Tab.get_set_self, BoundAt, holdsSlot_released]
    have away : ¬ ¬ unqueued (released s.arbiter n) n := not_not.2 out
    rcases after with e | e <;> rw [e] <;>
      exact ⟨iff_of_false away nofun, iff_of_false (fun held => held.1 rfl) nofun⟩
  · rw [arbiter, channels, Tab.get_set_ne _ _ other, holdsSlot_released]
    exact ⟨rfl, .rfl, and_iff_right other⟩

/-! ### Grants -/

/-- A channel that is granted drives or calibrates in its slot, or comes to rest and frees it (R113, R123). -/
theorem grantTo_cases (s : State) (i : Fin 3) (e : DriveEntry) : ∃ c,
    (grantTo s i e).channels = s.channels.set e.channel c ∧
    (((grantTo s i e).arbiter = granted s.arbiter i e ∧ slotState c.state = true) ∨
      ((grantTo s i e).arbiter = released (granted s.arbiter i e) e.channel ∧ c.state = .idle)) := by
  unfold grantTo
  dsimp only
  split
  · unfold moveGranted
    dsimp only
    split
    · rename_i d _
      refine ⟨_, rfl, .inl ⟨rfl, ?_⟩⟩
      cases d <;> rfl
    · exact ⟨_, rfl, .inr ⟨rfl, rfl⟩⟩
  · exact ⟨_, rfl, .inl ⟨rfl, rfl⟩⟩

theorem grantTo_bound {s : State} (h : Bound s) {i : Fin 3} {e : DriveEntry} (free : s.arbiter.slots.get i = none)
    (mem : e ∈ s.arbiter.queue) : Bound (grantTo s i e) := by
  have ⟨law, _⟩ := h
  have away (m : Fin 12) : unqueued (granted s.arbiter i e) m ↔ e.channel = m ∨ unqueued s.arbiter m := unqueued_granted law mem
  have own : unqueued (granted s.arbiter i e) e.channel := (away _).2 (.inl rfl)
  have law' := law.granted free mem
  obtain ⟨c, channels, ⟨arbiter, state⟩ | ⟨arbiter, state⟩⟩ := grantTo_cases s i e
  · refine h.of_one (n := e.channel) (arbiter ▸ law') ?_ fun m other => ?_
    · rw [arbiter, channels, Tab.get_set_self, BoundAt, holdsSlot_granted free]
      exact ⟨iff_of_false (not_not.2 own) (not_queued_of_slot state), iff_of_true (.inl rfl) state⟩
    · rw [arbiter, channels, Tab.get_set_ne _ _ other, holdsSlot_granted free, away]
      exact ⟨rfl, or_iff_right other, or_iff_right other⟩
  · refine h.of_one (n := e.channel) (arbiter ▸ law'.released _) ?_ fun m other => ?_
    · rw [arbiter, channels, Tab.get_set_self, BoundAt, holdsSlot_released, state]
      exact ⟨iff_of_false (not_not.2 own) nofun, iff_of_false (fun held => held.1 rfl) nofun⟩
    · rw [arbiter, channels, Tab.get_set_ne _ _ other, holdsSlot_released, holdsSlot_granted free, or_iff_right other,
        and_iff_right other]
      exact ⟨rfl, (away m).trans (or_iff_right other), .rfl⟩

theorem grantLoop_bound : ∀ (fuel : Nat) {s : State}, Bound s → Bound (grantLoop fuel s)
  | 0, _, h => h
  | fuel + 1, s, h => by
    unfold grantLoop
    split
    · rename_i next
      obtain ⟨free, mem, -⟩ := nextGrant_eq_some next
      exact grantLoop_bound fuel (grantTo_bound h free mem)
    · exact h

theorem grants_keepsBound (s : State) : KeepsBound s (grants s) :=
  ⟨congrArg _ (grants_grantFrame s).loader, grantLoop_bound _⟩

/-- An operation ends: its channel comes to rest, its slot is freed, and the grants follow (R133, R134). -/
theorem freeSlot_keepsBound {s : State} {n : Fin 12} {c : Channel} (before : slotState (s.channels.get n).state = true)
    (after : c.state = .idle ∨ c.state = .disabled) : KeepsBound s (freeSlot (putChannel s n c) n) := by
  refine KeepsBound.trans ⟨?_, fun h => ?_⟩ (grants_keepsBound _)
  · exact congrArg _ (putChannel_grantFrame s n c).loader
  · exact h.of_rest rfl rfl before after

/-! ### Requests -/

/-- A channel that is out of queue and slots joins the queue. -/
theorem Bound.of_joined {s t : State} (h : Bound s) {n : Fin 12} {c : Channel} {k : OpKind}
    (arbiter : t.arbiter = withEntry s.arbiter n k) (channels : t.channels = s.channels.set n c)
    (waits : unqueued s.arbiter n) (free : ¬ holdsSlot s.arbiter n) (after : c.state = .queued) : Bound t := by
  have ⟨law, _⟩ := h
  refine h.of_one (n := n) (arbiter ▸ law.withEntry waits free k) ?_ fun m other => ?_
  · rw [arbiter, channels, Tab.get_set_self, BoundAt, unqueued_withEntry, after]
    exact ⟨iff_of_true (fun away => away.1 rfl) rfl, iff_of_false free nofun⟩
  · rw [arbiter, channels, Tab.get_set_ne _ _ other, unqueued_withEntry]
    exact ⟨rfl, and_iff_right other, .rfl⟩

theorem joinMove_of_free {s : State} {n : Fin 12} (waits : unqueued s.arbiter n) (free : ¬ holdsSlot s.arbiter n) :
    joinMove s n = { s with arbiter := withEntry s.arbiter n .move } := by
  simp [joinMove, engaged, entryOf_eq_none_iff.2 waits, slotOf_eq_none_iff.2 free, withEntry]

/-- An IDLE channel asks for a move (R112, R130). -/
theorem requestMove_keepsBound {s : State} {n : Fin 12} (idle : (s.channels.get n).state = .idle) :
    KeepsBound s (requestMove s n) := by
  refine ⟨congrArg _ (requestMove_grantFrame s n).loader, fun h => grantLoop_bound _ ?_⟩
  have waits : unqueued s.arbiter n := h.waits (by rw [idle]; exact nofun)
  have free : ¬ holdsSlot s.arbiter n := h.holds (by rw [idle]; rfl)
  rw [joinMove_of_free (s := putChannel s n _) waits free]
  exact h.of_joined rfl rfl waits free rfl

theorem joinCalibrate_of_free {s : State} {n : Fin 12} (waits : unqueued s.arbiter n) (free : ¬ holdsSlot s.arbiter n) :
    joinCalibrate s n = { s with arbiter := withEntry s.arbiter n .calibrate } :=
  joinCalibrate_tail (entryOf_eq_none_iff.2 waits) (slotOf_eq_none_iff.2 free)

theorem joinCalibrate_of_queued {s : State} {n : Fin 12} (waits : ¬ unqueued s.arbiter n) :
    joinCalibrate s n = { s with arbiter := recast s.arbiter n } := by
  have entry : (entryOf s n).isSome = true := Option.isSome_iff_ne_none.2 fun none_ => waits (entryOf_eq_none_iff.1 none_)
  simp [joinCalibrate, entry, recast]

/-- A channel that holds no slot is sent to calibrate: its entry is recast, or it joins the tail (R122, R131). -/
theorem sendCalibrate_keepsBound {s : State} {n : Fin 12} (out : slotState (s.channels.get n).state = false) :
    KeepsBound s (sendCalibrate s n) := by
  refine ⟨congrArg _ (sendCalibrate_grantFrame s n).loader, fun h => grantLoop_bound _ ?_⟩
  have free : ¬ holdsSlot s.arbiter n := h.holds out
  by_cases waits : unqueued s.arbiter n
  · rw [joinCalibrate_of_free (s := putChannel s n _) waits free]
    exact h.of_joined rfl rfl waits free rfl
  · rw [joinCalibrate_of_queued (s := putChannel s n _) waits]
    have ⟨law, _⟩ := h
    refine h.of_one (n := n) (law.recast n) ?_ fun m other => ?_
    · rw [BoundAt, putChannel_get_self, unqueued_recast]
      exact ⟨iff_of_true waits rfl, iff_of_false free nofun⟩
    · rw [unqueued_recast]
      exact ⟨congrArg _ (putChannel_get_ne s _ other), .rfl, .rfl⟩

/-- The cases of a request: none, remembered, or sent to the arbiter by a channel that holds no slot. -/
theorem requestCalibration_outcome (s : State) (n : Fin 12) (service : Bool) :
    requestCalibration s n service = s ∨
    requestCalibration s n service = setChannel s n { s.channels.get n with remembered := true } ∨
    (slotState (s.channels.get n).state = false ∧ requestCalibration s n service = sendCalibrate s n) := by
  cases out : slotState (s.channels.get n).state with
  | false =>
    rcases requestCalibration_cases s n service with e | e | e
    · exact .inl e
    · exact .inr (.inl e)
    · exact .inr (.inr ⟨rfl, e⟩)
  | true =>
    unfold requestCalibration
    split
    · exact .inl rfl
    · dsimp only
      split <;> rename_i state <;> rw [state] at out
      case h_4 | h_5 | h_6 => exact .inr (.inl rfl)
      case h_7 =>
        split
        · split
          · exact .inr (.inl rfl)
          · exact .inl rfl
        · exact .inl rfl
      case h_8 | h_9 => exact .inl rfl
      all_goals cases out

theorem requestCalibration_keepsBound (s : State) (n : Fin 12) (service : Bool) :
    KeepsBound s (requestCalibration s n service) := by
  rcases requestCalibration_outcome s n service with e | e | ⟨out, e⟩ <;> rw [e]
  · exact .refl s
  · exact (setChannel_driveStands (by rfl)).keepsBound
  · exact sendCalibrate_keepsBound out

theorem compareTarget_keepsBound (s : State) (n : Fin 12) : KeepsBound s (compareTarget s n) := by
  unfold compareTarget
  dsimp only
  split
  · rename_i asks
    exact requestMove_keepsBound asks.1
  · exact .refl s

end Sys2Proof.Machine
end

section
/-! The events of the channels, and the swap, keep the channels bound (chapter 7, R71, R112). -/

namespace Sys2Proof.Machine

open Sys2Proof

/-! ### The ends of operations -/

theorem settle_keepsBound {s : State} {n : Fin 12} (held : slotState (s.channels.get n).state = true) :
    KeepsBound s (settle s n) := putChannel_keepsBound held rfl

theorem dropMove_keepsBound {s : State} {n : Fin 12} (held : slotState (s.channels.get n).state = true) :
    KeepsBound s (dropMove s n) := freeSlot_keepsBound held (.inl rfl)

/-- Whatever a channel does, it may be disabled: its entry and its slot go with it (R126, R136). -/
theorem disable_keepsBound (s : State) (n : Fin 12) : KeepsBound s (disable s n) := by
  refine ⟨congrArg _ (disable_frame s n).loader, fun h => grantLoop_bound _ ?_⟩
  have ⟨law, _⟩ := h
  have out : unqueued (withoutEntry s.arbiter n) n := unqueued_withoutEntry.2 (.inl rfl)
  refine h.of_one (n := n) ((law.withoutEntry n).released n) ?_ fun m other => ?_
  · rw [putChannel_get_self]
    exact ⟨iff_of_false (not_not.2 out) nofun, iff_of_false (fun held => (holdsSlot_released.1 held).1 rfl) nofun⟩
  · refine ⟨congrArg _ (putChannel_get_ne s _ other), ?_, ?_⟩
    · exact unqueued_withoutEntry.trans (or_iff_right other)
    · exact holdsSlot_released.trans (and_iff_right other)

/-- A fault is reported, a move is ended, and a calibration requested (R119, R120). -/
theorem endedByFault_keepsBound {s : State} {n : Fin 12} (held : slotState (s.channels.get n).state = true) (e : FaultEvent) :
    KeepsBound s (requestCalibration (dropMove (report s e) n) n false) := by
  have dropped := dropMove_keepsBound (s := report s e) (n := n) (by rw [report_channels]; exact held)
  exact ((dropped.trans (requestCalibration_keepsBound _ n false))).afterSame (report_driveStands s e)

theorem failCalibration_keepsBound (s : State) (n : Fin 12) (cause : Int) : KeepsBound s (failCalibration s n cause) :=
  (disable_keepsBound _ n).afterSame (report_driveStands s _)

theorem seatFound_keepsBound {s : State} {n : Fin 12} (held : slotState (s.channels.get n).state = true) :
    KeepsBound s (seatFound s n) := by
  have seated := setChannel_driveStands (s := s) (n := n)
    (c := { s.channels.get n with seatError := some (s.channels.get n).counter, counter := 0 }) rfl
  have ⟨_, _, state⟩ := seated
  exact (settle_keepsBound (by rw [state]; exact held)).afterSame seated

theorem blockedStall_keepsBound {s : State} {n : Fin 12} (held : slotState (s.channels.get n).state = true) :
    KeepsBound s (blockedStall s n) := by
  have rested (e : FaultEvent) {c : Channel} (idle : c.state = .idle) :
      KeepsBound s (freeSlot (putChannel (report s e) n c) n) :=
    (freeSlot_keepsBound (by rw [report_channels]; exact held) (.inl idle)).afterSame (report_driveStands s e)
  unfold blockedStall
  dsimp only
  split
  · split
    · exact (rested _ (by rfl)).trans (requestCalibration_keepsBound _ n false)
    · exact rested _ (by rfl)
  · exact (rested _ (by rfl)).trans (disable_keepsBound _ n)

theorem calibrationStroke_keepsBound {s : State} {n : Fin 12} (held : slotState (s.channels.get n).state = true) :
    KeepsBound s (calibrationStroke s n) := by
  unfold calibrationStroke
  dsimp only
  split
  · exact putChannel_keepsBound held rfl
  · exact failCalibration_keepsBound s n 3

/-- A stall finds a channel in its slot, or one that no stall ends (R117). -/
theorem stallTaken_keepsBound (s : State) (n : Fin 12) : KeepsBound s (stallTaken s n) := by
  unfold stallTaken
  dsimp only
  split <;> rename_i state
  · split
    · exact seatFound_keepsBound (by rw [state]; rfl)
    · exact blockedStall_keepsBound (by rw [state]; rfl)
  · exact blockedStall_keepsBound (by rw [state]; rfl)
  · exact putChannel_keepsBound (by rw [state]; rfl) rfl
  · exact calibrationStroke_keepsBound (by rw [state]; rfl)
  all_goals exact .refl s

theorem judgeChannel_keepsBound (s : State) (n : Fin 12) : KeepsBound s (judgeChannel s n) := by
  have driving (held : slotState (s.channels.get n).state = true) : KeepsBound s (match (s.channels.get n).move with
      | some m =>
        if 4 ≤ m.illegal then feedbackError s n 1 m.illegal
        else if 9 ≤ m.against then feedbackError s n 3 m.against
        else if arrived (s.channels.get n) then settle s n
        else s
      | none => s) := by
    split
    · split
      · exact endedByFault_keepsBound held _
      · split
        · exact endedByFault_keepsBound held _
        · exact .ite (settle_keepsBound held)
    · exact .refl s
  have resting (c : Bool) (e : FaultEvent) :
      KeepsBound s (if c then requestCalibration (report s e) n false else s) :=
    .ite ((requestCalibration_keepsBound _ n false).afterSame (report_driveStands s e))
  unfold judgeChannel
  dsimp only
  split <;> rename_i state
  · exact driving (by rw [state]; rfl)
  · exact driving (by rw [state]; rfl)
  · exact resting _ _
  · exact resting _ _
  all_goals exact .refl s

theorem moveCompleted_keepsBound {s : State} {n : Fin 12} (held : slotState (s.channels.get n).state = true) :
    KeepsBound s (moveCompleted s n) := by
  unfold moveCompleted
  dsimp only
  split
  · exact (freeSlot_keepsBound held (.inl rfl)).trans (requestCalibration_keepsBound _ n false)
  · exact (freeSlot_keepsBound held (.inl rfl)).trans (compareTarget_keepsBound _ n)

theorem calibrationCompleted_keepsBound {s : State} {n : Fin 12} (held : slotState (s.channels.get n).state = true) :
    KeepsBound s (calibrationCompleted s n) :=
  (freeSlot_keepsBound held (.inl rfl)).trans (compareTarget_keepsBound _ n)

theorem drivingState_slot (d : Direction) : slotState (drivingState d) = true := by cases d <;> rfl

theorem reversingEnded_keepsBound {s : State} {n : Fin 12} (held : slotState (s.channels.get n).state = true) :
    KeepsBound s (reversingEnded s n) := by
  unfold reversingEnded
  dsimp only
  split
  · exact putChannel_keepsBound held (drivingState_slot _)
  · exact settle_keepsBound held

/-! ### The swap (R71, R112) -/

theorem takeTarget_keepsBound (s : State) (n : Fin 12) (x : Nat) : KeepsBound s (takeTarget s n x) := by
  by_cases same : (s.channels.get n).live = some x
  · rw [takeTarget_same same]; exact .refl s
  · by_cases drives : ∃ d m, (s.channels.get n).state = drivingState d ∧ (s.channels.get n).move = some m
    · obtain ⟨d, m, state, move⟩ := drives
      have live : DriveStands s (setChannel s n { s.channels.get n with live := some x }) := setChannel_driveStands rfl
      have held : slotState ((setChannel s n { s.channels.get n with live := some x }).channels.get n).state = true := by
        obtain ⟨-, -, states⟩ := live
        rw [states, state]
        exact drivingState_slot d
      rw [takeTarget_driving same state move]
      refine KeepsBound.afterSame ?_ live
      dsimp only
      split
      · split
        · exact (setChannel_driveStands (by simp)).keepsBound
        · exact putChannel_keepsBound held rfl
      · exact settle_keepsBound held
    · rw [takeTarget_still same fun d m state move => drives ⟨d, m, state, move⟩]
      exact (setChannel_driveStands (by rfl)).keepsBound

theorem swapChannel_keepsBound (s : State) (n : Fin 12) : KeepsBound s (swapChannel s n) := by
  rw [swapChannel_eq]
  cases targetFor (s.engine.buffer.get n) (s.channels.get n) with
  | none => exact .refl s
  | some x => exact takeTarget_keepsBound s n x

theorem requestMove_untouched {n m : Fin 12} (h : m ≠ n) (s : State) : Untouched n s (requestMove s m) := by
  refine Untouched.trans (fun q => ?_) (grants_untouched n _)
  unfold joinMove
  split
  · exact ⟨putChannel_get_ne s _ h, q⟩
  · exact ⟨putChannel_get_ne s _ h, unqueued_withEntry.2 ⟨h, q⟩⟩

/-- IDLE channels ask for their moves, one after the other: none of them is touched by the requests before its own. -/
theorem foldl_requestMove_keepsBound : ∀ (l : List (Fin 12)) (s : State), l.Nodup →
    (∀ n ∈ l, (s.channels.get n).state = .idle) → KeepsBound s (l.foldl requestMove s)
  | [], s, _, _ => .refl s
  | n :: l, s, distinct, idle => by
    obtain ⟨out, distinct⟩ := List.nodup_cons.1 distinct
    obtain ⟨loader, bound⟩ := requestMove_keepsBound (idle n List.mem_cons_self)
    have rest (h : Bound s) : KeepsBound (requestMove s n) (l.foldl requestMove (requestMove s n)) := by
      refine foldl_requestMove_keepsBound l _ distinct fun m mem => ?_
      have here := idle m (List.mem_cons_of_mem n mem)
      obtain ⟨channel, -⟩ := requestMove_untouched (fun e : n = m => out (e ▸ mem)) s (h.waits (n := m) (by rw [here]; exact nofun))
      rw [channel, here]
    have frame : GrantFrame s ((n :: l).foldl requestMove s) := foldl_frame .refl .trans requestMove_grantFrame _ s
    refine ⟨congrArg _ frame.loader, fun h => ?_⟩
    obtain ⟨-, later⟩ := rest h
    exact later (bound h)

theorem swapTargets_keepsBound (s : State) : KeepsBound s (swapTargets s) := by
  have swapped : KeepsBound s ((List.finRange 12).foldl swapChannel s) :=
    foldl_frame .refl .trans swapChannel_keepsBound _ s
  unfold swapTargets
  dsimp only
  generalize (List.finRange 12).foldl swapChannel s = t at swapped ⊢
  obtain ⟨order, draws, perm, e⟩ := takeRequests_eq (emptyBuffer t) (swapRequests s t)
  rw [e]
  refine swapped.trans (KeepsBound.afterSame ?_ (t := { emptyBuffer t with draws := draws }) (.of_same rfl rfl rfl))
  refine foldl_requestMove_keepsBound order _ (perm.nodup_iff.2 ((List.nodup_finRange 12).filter _)) fun n mem => ?_
  obtain ⟨idle, -⟩ := mem_swapRequests.1 (perm.mem_iff.1 mem)
  exact idle

theorem fillFallback_driveStands (s : State) : DriveStands s (fillFallback s) := by
  obtain ⟨_, e⟩ := fillFallback_eq s
  rw [e]
  exact .of_same rfl rfl rfl

theorem closeSwap_keepsBound (s : State) : KeepsBound s (closeSwap s) := by
  refine KeepsBound.afterSame ?_ (fillFallback_driveStands s)
  unfold closeSwap
  dsimp only
  split
  · exact DriveStands.keepsBound (.of_same rfl rfl rfl)
  · exact swapTargets_keepsBound _

/-! ### The view of the source, and RECALIBRATE (R135, R157) -/

/-- The arbiter's view of the source binds no channel. -/
theorem followView_keepsBound (s : State) (st : SourceState) : KeepsBound s (followView s st) := by
  have viewed : KeepsBound s { s with arbiter := { s.arbiter with defrost := st == .defrost } } := ⟨rfl, id⟩
  unfold followView
  dsimp only
  split
  · exact viewed.trans (grants_keepsBound _)
  · exact viewed

theorem carryRecalibrate_keepsBound (args : List Byte) (s : State) : KeepsBound s (carryRecalibrate args s).1 := by
  unfold carryRecalibrate
  split
  · exact .refl s
  · split
    · split
      · exact .refl s
      · exact foldl_frame KeepsBound.refl KeepsBound.trans (fun s n => requestCalibration_keepsBound s n true) _ s
    · split
      · exact .refl s
      · split
        · exact requestCalibration_keepsBound s _ true
        · exact .refl s

theorem startCalibration_keepsBound (s : State) (n : Fin 12) : KeepsBound s (startCalibration s n) := by
  unfold startCalibration
  split
  · exact .refl s
  · exact requestCalibration_keepsBound s n false

end Sys2Proof.Machine
end

section
/-! What leaves channels, queue and slots as they stand, and, before the start, lets nothing begin. -/

namespace Sys2Proof.Machine

open Sys2Proof

/-- No pass timer runs, no work is in progress, and no frame and no notice waits: a station before its start. -/
def NothingRuns (s : State) : Prop :=
  s.engine.timer = none ∧ s.engine.visit = none ∧ s.engine.work = none ∧ s.valves.update = none ∧ s.visiting = none ∧
  s.operation = none ∧ s.bus.rx = [] ∧ s.rooms.notices = []

/-- Before the start nothing runs and every channel rests. -/
def RestsWhileLoading (s : State) : Prop := s.loader.state = .loading →
  NothingRuns s ∧ ∀ n, (s.channels.get n).state = .uncalibrated ∨ (s.channels.get n).state = .idle

theorem driveLaw_iff {s : State} : DriveLaw s ↔ Bound s ∧ RestsWhileLoading s := by
  have waits (n : Fin 12) : (entryOf s n).isSome = true ↔ ¬ unqueued s.arbiter n := by
    rw [← entryOf_eq_none_iff, Option.isSome_iff_ne_none]
  simp only [DriveLaw, Bound, BoundAt, RestsWhileLoading, NothingRuns, waits, forall_and, and_assoc]

/-- Channels, queue and slots stand, and where nothing ran nothing runs. -/
def DriveUnmoved (s t : State) : Prop := DriveStands s t ∧ (NothingRuns s → NothingRuns t)

theorem DriveUnmoved.refl (s : State) : DriveUnmoved s s := ⟨.of_same rfl rfl rfl, id⟩

theorem DriveUnmoved.trans {s t u : State} (h : DriveUnmoved s t) (k : DriveUnmoved t u) : DriveUnmoved s u := by
  obtain ⟨stands, quiet⟩ := h
  obtain ⟨stands', quiet'⟩ := k
  exact ⟨stands.trans stands', quiet' ∘ quiet⟩

theorem DriveUnmoved.ite {c : Prop} [Decidable c] {s t : State} (h : DriveUnmoved s t) :
    DriveUnmoved s (if c then t else s) := by
  split
  · exact h
  · exact .refl s

/-- A change of none of the values that the law reads. -/
theorem DriveUnmoved.of_same {s t : State} (loader : t.loader.state = s.loader.state) (arbiter : t.arbiter = s.arbiter)
    (channels : t.channels = s.channels) (quiet : NothingRuns s → NothingRuns t) : DriveUnmoved s t :=
  ⟨.of_same loader arbiter channels, quiet⟩

theorem DriveUnmoved.afterSame {s t u : State} (h : DriveUnmoved t u) (same : DriveUnmoved s t) : DriveUnmoved s u :=
  same.trans h

/-! ### Frames -/

theorem ChainFrame.driveUnmoved {s t : State} (h : ChainFrame s t) : DriveUnmoved s t := by
  obtain ⟨_, _, _, _, _, rfl⟩ := h
  exact .of_same rfl rfl rfl id

theorem FaultFrame.driveUnmoved {s t : State} (h : FaultFrame s t) : DriveUnmoved s t := h.chain.driveUnmoved

theorem report_driveUnmoved (s : State) (e : FaultEvent) : DriveUnmoved s (report s e) := (report_frame s e).driveUnmoved

theorem NoticeFrame.driveStands {s t : State} (h : NoticeFrame s t) : DriveStands s t := by
  obtain ⟨_, _, _, _, _, _, rfl⟩ := h
  exact .of_same rfl rfl rfl

theorem DryFrame.driveStands {s t : State} (h : DryFrame s t) : DriveStands s t := by
  obtain ⟨_, _, _, _, _, _, _, _, _, rfl⟩ := h
  exact .of_same rfl rfl rfl

theorem PassFrame.driveStands {s t : State} (h : PassFrame s t) : DriveStands s t := by
  obtain ⟨_, _, _, _, _, _, rfl⟩ := h
  exact .of_same rfl rfl rfl

theorem TrimFrame.driveStands {s t : State} (h : TrimFrame s t) : DriveStands s t := by
  obtain ⟨_, _, _, _, _, _, rfl⟩ := h
  exact .of_same rfl rfl rfl

theorem elapse_timer_none {s : State} (d : Nat) (h : s.engine.timer = none) : (elapse d s).engine.timer = none := by
  unfold elapse
  split
  · exact h
  · split
    · exact h
    · simp [h]

/-- Time that passes begins nothing. -/
theorem elapse_driveUnmoved (d : Nat) (s : State) : DriveUnmoved s (elapse d s) := by
  refine ⟨elapse_driveStands d s, ?_⟩
  rintro ⟨timer, quiet⟩
  refine ⟨elapse_timer_none d timer, ?_⟩
  simpa only [elapse_engine_visit, elapse_engine_work, elapse_valves, elapse_visiting, elapse_operation, elapse_bus_rx,
    elapse_rooms_notices] using quiet

/-! ### Rooms, stations, samples, reports and the line -/

theorem takeRoomReport_driveStands (s : State) (f : Frame) : DriveStands s (takeRoomReport s f) := by
  unfold takeRoomReport
  dsimp only
  split
  · exact .of_same rfl rfl rfl
  · split
    · exact .of_same rfl rfl rfl
    · split
      · exact .of_same rfl rfl rfl
      · exact .of_same rfl rfl rfl
      · split
        · exact .of_same rfl rfl rfl
        · split <;> exact .of_same rfl rfl rfl

theorem ageRoom_driveUnmoved (s : State) (room secs : Nat) (st : RoomState) : DriveUnmoved s (ageRoom s room secs st) := by
  unfold ageRoom
  split
  · exact .of_same rfl rfl rfl id
  · exact .refl s

theorem orphanRoom_driveUnmoved (s : State) (room : Nat) (never : Bool) : DriveUnmoved s (orphanRoom s room never) :=
  (ageRoom_driveUnmoved s room 901 .orphan).trans (report_driveUnmoved _ _)

theorem takeStationReport_driveUnmoved (s : State) (f : Frame) : DriveUnmoved s (takeStationReport s f) := by
  unfold takeStationReport
  dsimp only
  split
  · exact .refl s
  · split
    · split
      · exact report_driveUnmoved s _
      · split <;> exact .of_same rfl rfl rfl id
    · exact .of_same rfl rfl rfl id

theorem takeSample_driveUnmoved (s : State) (n : Fin 14) (code : Nat) : DriveUnmoved s (takeSample s n code) := by
  unfold takeSample
  dsimp only
  split
  · exact (report_driveUnmoved _ _).afterSame (.of_same rfl rfl rfl id)
  · exact .of_same rfl rfl rfl id

theorem receive_driveStands (s : State) (f : RxFrame) : DriveStands s (receive s f) := by
  unfold receive
  dsimp only
  split
  · exact (DriveStands.of_same rfl rfl rfl).trans (report_driveStands _ _)
  · split
    · exact .of_same rfl rfl rfl
    · exact (DriveStands.of_same rfl rfl rfl).trans (report_driveStands _ _)

theorem sendReport_driveUnmoved (s : State) : DriveUnmoved s (sendReport s) := .of_same rfl rfl rfl id

theorem extraReport_driveUnmoved (s : State) : DriveUnmoved s (extraReport s) := by
  unfold extraReport
  split
  · split
    · exact sendReport_driveUnmoved s
    · split
      · exact sendReport_driveUnmoved s
      · exact .of_same rfl rfl rfl id
  · exact .refl s

theorem setTxFrame_driveUnmoved (s : State) (slot : TxSlot) (f : Option Frame) :
    DriveUnmoved s { s with bus := setTxFrame s.bus slot f } := by
  cases slot <;> exact .of_same rfl rfl rfl id

theorem setTx_driveUnmoved (s : State) (x : TxState) : DriveUnmoved s (setTx s x) := .of_same rfl rfl rfl id

/-- The transmitter's events touch the bus only, and no frame that waits to be handed on. -/
theorem execTransmit_driveUnmoved {s t : State} : (execTransmitStart s = .next t ∨ execArbitrationLost s = .next t ∨
    execArbitrationWon s = .next t ∨ execFrameSent s = .next t ∨ execFrameBrokenOff s = .next t) → DriveUnmoved s t := by
  rintro (h | h | h | h | h) <;> obtain rfl := Host.Outcome.next.inj h
  · split
    · exact setTx_driveUnmoved s _
    · exact .refl s
  · split
    · exact setTx_driveUnmoved s _
    · exact .refl s
  · split
    · split
      · exact (setTxFrame_driveUnmoved s _ _).trans (setTx_driveUnmoved _ _)
      · exact .refl s
    · exact .refl s
  · split
    · exact setTx_driveUnmoved s _
    · exact .refl s
  · split
    · dsimp only
      split
      · exact setTx_driveUnmoved s _
      · exact (setTxFrame_driveUnmoved s _ _).trans (setTx_driveUnmoved _ _)
    · exact .refl s

/-! ### What requests carry out -/

theorem sendReply_driveStands (s : State) (f : Frame) (code : Byte) (a : Answer) : DriveStands s (sendReply s f code a) :=
  (sendReply_frame s f code a).driveStands

theorem partAnswer_driveStands (parts : List (List Byte)) (asked : Option Byte) (s : State) :
    DriveStands s (partAnswer parts asked s).1 := by
  unfold partAnswer
  dsimp only
  split
  · split <;> exact .of_same rfl rfl rfl
  · exact .of_same rfl rfl rfl

theorem carryReadLoop_driveStands (args : List Byte) (s : State) : DriveStands s (carryReadLoop args s).1 := by
  unfold carryReadLoop
  split
  · exact .of_same rfl rfl rfl
  · split
    · exact partAnswer_driveStands _ _ s
    · exact .of_same rfl rfl rfl
    · exact .of_same rfl rfl rfl

theorem carryClearFaults_driveStands (args : List Byte) (s : State) : DriveStands s (carryClearFaults args s).1 := by
  unfold carryClearFaults
  split <;> exact .of_same rfl rfl rfl

theorem maskSlot_driveStands (s : State) (slot : Fin 4) (on : Bool) : DriveStands s (maskSlot s slot on) := by
  unfold maskSlot
  dsimp only
  split
  · exact .of_same rfl rfl rfl
  · split
    · exact (DriveStands.of_same rfl rfl rfl).trans (raiseAlerts_frame _ _).chain.driveStands
    · exact .of_same rfl rfl rfl

theorem carryAlertMask_driveStands (args : List Byte) (s : State) : DriveStands s (carryAlertMask args s).1 := by
  unfold carryAlertMask
  split
  · split
    · exact maskSlot_driveStands _ _ _
    · exact .of_same rfl rfl rfl
  · exact .of_same rfl rfl rfl

theorem carryAlertEnable_driveStands (args : List Byte) (s : State) : DriveStands s (carryAlertEnable args s).1 := by
  unfold carryAlertEnable
  split <;> exact .of_same rfl rfl rfl

/-- The counter of pieces is no value of the law's. -/
theorem DryFrame.driveStands_counted {s t : State} (h : DryFrame { s with cuts := t.cuts } t) : DriveStands s t :=
  DriveStands.trans (.of_same rfl rfl rfl) h.driveStands

theorem carryDryout_driveStands {operation : State → Prog → Frame → State} (h : ∀ s p f, DriveStands s (operation s p f))
    (f : Frame) (code : Byte) (args : List Byte) (s : State) : DriveStands s (carryDryout operation f code args s) := by
  unfold carryDryout
  split
  · exact sendReply_driveStands s f _ _
  · exact (finishDry_frame s).driveStands.trans (h _ _ f)

theorem takeRequest_keepsBound {carry : Byte → List Byte → State → State}
    (h : ∀ code args s, KeepsBound s (carry code args s)) (s : State) (f : Frame) : KeepsBound s (takeRequest s f carry) := by
  unfold takeRequest
  split
  · split
    · exact DriveStands.keepsBound (.of_same rfl rfl rfl)
    · split
      · exact DriveStands.keepsBound (.of_same rfl rfl rfl)
      · split
        · exact DriveStands.keepsBound (.of_same rfl rfl rfl)
        · exact h _ _ s
  · exact .refl s

theorem answerRequest_keepsBound {carry : List Byte → State → State × Answer}
    (h : ∀ args s, KeepsBound s (carry args s).1) (s : State) (f : Frame) : KeepsBound s (answerRequest s f carry) :=
  takeRequest_keepsBound (fun _ args s => (h args s).trans (sendReply_driveStands _ f _ _).keepsBound) s f

/-! ### The source record -/

theorem followSource_keepsBound (s : State) (before : SourceState) : KeepsBound s (followSource s before) := by
  refine (followView_keepsBound s (effectiveState s)).trans (DriveStands.keepsBound ?_)
  unfold followSource followHeating
  split
  · exact ((pauseProgram_frame _ .one).trans (pauseProgram_frame _ .two)).driveStands
  · split
    · exact (resumePrograms_frame _).driveStands_counted
    · exact .of_same rfl rfl rfl

theorem takeSourceReport_keepsBound (s : State) (f : Frame) : KeepsBound s (takeSourceReport s f) := by
  unfold takeSourceReport
  split
  · exact .refl s
  · split
    · exact DriveStands.keepsBound (.of_same rfl rfl rfl)
    · split
      · exact (report_driveStands s _).keepsBound
      · rename_i st _
        exact ((followSource_keepsBound _ _).afterSame (.of_same rfl rfl rfl)).afterSame (beforeHeating_frame s st).driveStands

theorem staleSource_keepsBound (s : State) : KeepsBound s (staleSource s) :=
  (((followSource_keepsBound _ _).afterSame (report_driveStands _ _)).afterSame (.of_same rfl rfl rfl)).afterSame
    (beforeHeating_frame s .heating).driveStands

end Sys2Proof.Machine
end

section
/-! The law of channels, queue and slots along every step (Table 7.2, R113, R127, R130 to R133). -/

namespace Sys2Proof.Machine

open Sys2Proof

/-- The law, where it holds before, holds after. -/
def KeepsDrive (s t : State) : Prop := DriveLaw s → DriveLaw t

theorem KeepsDrive.refl (s : State) : KeepsDrive s s := id

theorem KeepsDrive.trans {s t u : State} (h : KeepsDrive s t) (k : KeepsDrive t u) : KeepsDrive s u := k ∘ h

theorem KeepsDrive.ite {c : Prop} [Decidable c] {s t : State} (h : c → KeepsDrive s t) :
    KeepsDrive s (if c then t else s) := by
  split
  · exact h ‹_›
  · exact .refl s

theorem DriveUnmoved.keepsDrive {s t : State} (h : DriveUnmoved s t) : KeepsDrive s t := by
  intro law
  obtain ⟨bound, rests⟩ := driveLaw_iff.1 law
  obtain ⟨stands, quiet⟩ := h
  obtain ⟨-, bound'⟩ := stands.keepsBound
  obtain ⟨loader, -, states⟩ := stands
  refine driveLaw_iff.2 ⟨bound' bound, fun loading => ?_⟩
  obtain ⟨nothing, resting⟩ := rests (loader.symm.trans loading)
  exact ⟨quiet nothing, fun n => by rw [states]; exact resting n⟩

/-- After the start what keeps the channels bound keeps the law. -/
theorem KeepsDrive.of_running {s t : State} (running : DriveLaw s → s.loader.state ≠ .loading) (h : KeepsBound s t) :
    KeepsDrive s t := by
  intro law
  obtain ⟨bound, -⟩ := driveLaw_iff.1 law
  obtain ⟨loader, bound'⟩ := h
  exact driveLaw_iff.2 ⟨bound' bound, fun loading => absurd (loader.symm.trans loading) (running law)⟩

/-! ### What shows that the station has started -/

/-- Something runs. -/
theorem DriveLaw.running {s : State} (law : DriveLaw s) (busy : ¬ NothingRuns s) : s.loader.state ≠ .loading := by
  obtain ⟨-, rests⟩ := driveLaw_iff.1 law
  exact fun loading => busy (rests loading).1

/-- A channel waits, drives, calibrates, settles or is disabled. -/
theorem DriveLaw.running_of_state {s : State} (law : DriveLaw s) {n : Fin 12}
    (moves : slotState (s.channels.get n).state = true) : s.loader.state ≠ .loading := by
  obtain ⟨-, rests⟩ := driveLaw_iff.1 law
  intro loading
  obtain ⟨-, resting⟩ := rests loading
  rcases resting n with e | e <;> rw [e] at moves <;> cases moves

theorem running_of_inService {s : State} (h : inServiceStation s = true) : s.loader.state ≠ .loading := by
  simpa [inServiceStation] using h

/-! ### Work of the station's own -/

/-- A step of a work, which is there to be made after the start only. -/
theorem workStep_keepsDrive (w : Work) (s : State) : KeepsDrive s (workStep w s) := by
  cases w with
  | load =>
    simp only [workStep, loadStep]
    split
    · exact .refl s
    · exact DriveUnmoved.keepsDrive ((report_driveUnmoved _ _).afterSame (.of_same rfl rfl rfl id))
  | pass =>
    by_cases none_ : s.engine.visit = none
    · simpa [workStep, passStep, none_] using KeepsDrive.refl s
    · exact .of_running (fun law => law.running fun ⟨_, visit, _⟩ => none_ visit) (passStep_frame s).driveStands.keepsBound
  | trim =>
    by_cases none_ : s.valves.update = none
    · simpa [workStep, trimStep, none_] using KeepsDrive.refl s
    · exact .of_running (fun law => law.running fun ⟨_, _, _, update, _⟩ => none_ update)
        (trimStep_frame s).driveStands.keepsBound
  | notice =>
    by_cases none_ : s.visiting = none
    · simpa [workStep, noticeStep, none_] using KeepsDrive.refl s
    · exact .of_running (fun law => law.running fun ⟨_, _, _, _, visiting, _⟩ => none_ visiting)
        (noticeStep_frame s).driveStands.keepsBound
  | dryout =>
    by_cases none_ : s.operation = none
    · simpa [workStep, dryStep, none_] using KeepsDrive.refl s
    · exact .of_running (fun law => law.running fun ⟨_, _, _, _, _, operation, _⟩ => none_ operation)
        (dryStep_frame s).driveStands.keepsBound
  | alerts => exact (placeAlert_frame s).driveUnmoved.keepsDrive

/-! ### The pass -/

theorem freePiece_driveStands {step : State → State} (h : ∀ s, DriveStands s (step s)) (s : State) :
    DriveStands s (freePiece step s) :=
  (times_frame (R := DriveStands) (fun _ => .of_same rfl rfl rfl) .trans h (Config.freeCut s.cuts) s).trans
    (.of_same rfl rfl rfl)

theorem beginPass_driveStands (s : State) : DriveStands s (beginPass s) := by
  have opening (s : State) : DriveStands s (openVisit s) := by
    have reading (s : State) : DriveStands s (takeReading s) := by
      unfold takeReading
      dsimp only
      split
      · exact (DriveStands.of_same rfl rfl rfl).trans (report_driveStands _ _)
      · exact .of_same rfl rfl rfl
    exact DriveStands.trans (.of_same rfl rfl rfl) (reading _)
  exact ((finishTrim_frame s).driveStands.trans (elapse_driveStands _ _)).trans
    ((opening _).trans (freePiece_driveStands (fun s => (passStep_frame s).driveStands) _))

theorem closePass_keepsBound (s : State) (w : PassResult) : KeepsBound s (closePass s w) := by
  have trims (s : State) : DriveStands s (freePiece trimStep s) := freePiece_driveStands (fun s => (trimStep_frame s).driveStands) s
  have closed : KeepsBound s (beginTrim (handResults (closeSwap s) w (effectiveState s))) :=
    (closeSwap_keepsBound s).trans (DriveStands.keepsBound (.of_same rfl rfl rfl))
  have compared (s : State) : DriveStands s (extraReport s) := by
    obtain ⟨stands, -⟩ := extraReport_driveUnmoved s
    exact stands
  exact closed.trans (((trims _).trans (compared _)).trans (trims _)).keepsBound

theorem execPassClose_keepsDrive {s t : State} (h : execPassClose s = .next t) : KeepsDrive s t := by
  obtain rfl := Host.Outcome.next.inj h
  by_cases idle : s.engine.visit = none ∧ s.engine.work = none
  · obtain ⟨visit, work⟩ := idle
    rw [passSteps_of_none visit, work]
    exact .refl s
  · have running (law : DriveLaw s) : s.loader.state ≠ .loading :=
      law.running fun ⟨_, visit, work, _⟩ => idle ⟨visit, work⟩
    have stages : KeepsBound s (passSteps (stepsLeft s) s) := (passSteps_frame _ s).driveStands.keepsBound
    refine .of_running running ?_
    split
    · exact stages.trans (closePass_keepsBound _ _)
    · exact stages

/-! ### Frames handed on -/

/-- A head frame is there to be taken after the start only. -/
theorem handedOn_keepsDrive {take : State → Frame → State} (h : ∀ s f, KeepsBound s (take s f)) (s : State) (c : Instr) :
    KeepsDrive s (match takeHead s c with
      | some (f, s1) => take s1 f
      | none => s) := by
  split
  · rename_i taken
    obtain ⟨head, -, rfl⟩ := takeHead_eq_some.1 taken
    have answered : DriveStands s (answerOpen s) := by
      unfold answerOpen
      split
      · exact (finishDry_frame s).driveStands
      · exact .of_same rfl rfl rfl
    refine .of_running (fun law => law.running ?_) ((h _ _).afterSame (answered.trans (.of_same rfl rfl rfl)))
    rintro ⟨-, -, -, -, -, -, rx, -⟩
    rw [rx] at head
    cases head
  · exact .refl s

theorem execModeNotice_keepsDrive {s t : State} (h : execModeNotice s = .next t) : KeepsDrive s t := by
  obtain rfl := Host.Outcome.next.inj h
  split
  · exact .refl s
  · rename_i notice later waiting
    have before : DriveStands s (finishNotice { s with rooms := { s.rooms with notices := later } }) :=
      DriveStands.trans (.of_same rfl rfl rfl) (finishNotice_frame _).driveStands
    have begun (s : State) : DriveStands s (freePiece noticeStep (beginNotice s notice)) :=
      DriveStands.trans (.of_same rfl rfl rfl) (freePiece_driveStands (fun s => (noticeStep_frame s).driveStands) _)
    refine .of_running (fun law => law.running ?_) (before.trans (begun _)).keepsBound
    rintro ⟨-, -, -, -, -, -, -, notices⟩
    rw [waiting] at notices
    cases notices

/-! ### The events of the channels -/

/-- Before the start an edge only counts (R110, R127). -/
theorem feedbackEdge_keepsDrive (s : State) (n : Fin 12) (a b : Bool) : KeepsDrive s (feedbackEdge s n a b) := by
  have seen {c : Channel} (same : c.state = (s.channels.get n).state) :
      DriveUnmoved s (setChannel { s with phases := s.phases.set n ⟨a, b⟩ } n c) :=
    ⟨(setChannel_driveStands (s := { s with phases := s.phases.set n ⟨a, b⟩ }) same), id⟩
  have judged (s : State) : KeepsDrive s (judgeChannel s n) := by
    by_cases loading : s.loader.state = .loading
    · intro law
      obtain ⟨-, rests⟩ := driveLaw_iff.1 law
      obtain ⟨-, resting⟩ := rests loading
      have unused : channelInUse s n = false := by simp [channelInUse, loading]
      have still : judgeChannel s n = s := by
        rcases resting n with e | e <;> simp [judgeChannel, e, unused]
      rw [still]
      exact law
    · exact .of_running (fun _ => loading) (judgeChannel_keepsBound s n)
  unfold feedbackEdge
  dsimp only
  split
  · exact .refl s
  · exact (seen (by rfl)).keepsDrive.trans (judged _)
  · exact (seen (by rfl)).keepsDrive.trans (judged _)

/-- The end of one of a channel's timers: time passes, and the event of a channel that holds a slot follows. -/
theorem driveEvent_keepsDrive {taken : State → State} (n : Fin 12) (d : Nat) {s : State}
    (held : slotState (s.channels.get n).state = true)
    (h : ∀ u, slotState (u.channels.get n).state = true → KeepsBound u (taken u)) : KeepsDrive s (taken (elapse d s)) :=
  .of_running (fun law => law.running_of_state held)
    ((h _ (by rw [elapse_channel_state]; exact held)).afterSame (elapse_driveStands d s))

theorem execStall_keepsDrive {n : Fin 12} {s t : State} (h : execStall n s = .next t) : KeepsDrive s t := by
  obtain rfl := Host.Outcome.next.inj h
  refine .ite fun _ => ?_
  cases held : slotState (s.channels.get n).state with
  | true => exact driveEvent_keepsDrive n _ held fun u _ => stallTaken_keepsBound u n
  | false =>
    have still : stallTaken (elapse (stallLeft s n) s) n = elapse (stallLeft s n) s := by
      unfold stallTaken
      simp only [elapse_channel_state]
      cases state : (s.channels.get n).state with
      | drivingOpen | drivingClose | calClose | calOpen =>
        rw [state] at held
        cases held
      | _ => rfl
    rw [still]
    exact (elapse_driveUnmoved _ s).keepsDrive

theorem slotState_of_phaseCause {c : Channel} {cause : Int} (h : phaseCause c = some cause) : slotState c.state = true := by
  unfold phaseCause at h
  split at h
  · split at h
    · rename_i e; rw [e]; rfl
    · rename_i e; rw [e]; rfl
    · cases h
  · cases h

theorem slotState_of_moveDriving {c : Channel} (h : moveDriving c = true) : slotState c.state = true := by
  simp only [moveDriving, Bool.or_eq_true, beq_iff_eq] at h
  rcases h with e | e <;> rw [e] <;> rfl

theorem slotState_of_settlingOf {c : Channel} {k : OpKind} (h : settlingOf c k = true) : slotState c.state = true := by
  simp only [settlingOf, Bool.and_eq_true, beq_iff_eq] at h
  rw [h.1]
  rfl

/-! ### Resets and start (R127, R170) -/

theorem boundAt_reset {n : Fin 12} {state : ChannelState} (h : state = .uncalibrated ∨ state = .idle) :
    BoundAt Arbiter.reset n state := by
  have waits : ¬ ¬ unqueued Arbiter.reset n := not_not.2 fun e mem => (List.not_mem_nil mem).elim
  have free : ¬ holdsSlot Arbiter.reset n := not_holdsSlot_of_empty rfl n
  rcases h with e | e <;> rw [e] <;> exact ⟨iff_of_false waits nofun, iff_of_false free nofun⟩

theorem warmReset_driveLaw (straps : BitVec 3) (memory : Option (List Word16)) (s : State) :
    DriveLaw (warmReset straps memory s) := by
  have rests (n : Fin 12) : ((warmReset straps memory s).channels.get n).state = .uncalibrated ∨
      ((warmReset straps memory s).channels.get n).state = .idle := by
    rw [warmReset_channel, warmChannel]
    dsimp only
    split
    · exact .inr rfl
    · exact .inl rfl
  exact driveLaw_iff.2 ⟨⟨arbiterLaw_reset, fun n => boundAt_reset (rests n)⟩,
    fun _ => ⟨⟨rfl, rfl, rfl, rfl, rfl, rfl, rfl, rfl⟩, rests⟩⟩

/-- The start finds every channel at rest, begins with an empty arbiter, and then asks for calibrations. -/
theorem startStation_driveLaw {s : State} (law : DriveLaw s) (loading : s.loader.state = .loading) :
    DriveLaw (startStation s) := by
  obtain ⟨-, rests⟩ := driveLaw_iff.1 law
  obtain ⟨-, resting⟩ := rests loading
  obtain ⟨channels, arbiter, loader⟩ := restarted_drive s
  have rest (n : Fin 12) : ((restarted s).channels.get n).state = .uncalibrated ∨ ((restarted s).channels.get n).state = .idle := by
    obtain ⟨_, _, _, _, e⟩ := reportAll_frame s (loadFaults s)
    rw [channels, broughtUp, e]
    simp only [startBlocks, Tab.get_tabulate, startChannel]
    split
    · exact resting n
    · exact .inl rfl
  have bound : Bound (restarted s) := by
    rw [Bound, arbiter]
    exact ⟨arbiterLaw_reset, fun n => boundAt_reset (rest n)⟩
  have asked : KeepsBound (restarted s) (startStation s) := foldl_frame .refl .trans startCalibration_keepsBound _ _
  obtain ⟨same, bound'⟩ := asked
  refine driveLaw_iff.2 ⟨bound' bound, fun still => ?_⟩
  rw [same, loader, broughtUp_loader, stateAfterLoad] at still
  dsimp only at still
  split at still <;> cases still

/-! ### Every command and the idle step -/

/-- Every command keeps the law. -/
theorem exec_keepsDrive {i : Instr} {s t : State} (h : exec i s = .next t) : KeepsDrive s t := by
  cases i with
  | powerOnReset straps memory =>
    obtain rfl := Host.Outcome.next.inj h
    have reset : DriveUnmoved { State.reset with loader := beginLoad straps memory false } (powerOn straps memory s) :=
      .of_same rfl rfl rfl id
    have loaded : DriveUnmoved State.reset { State.reset with loader := beginLoad straps memory false } :=
      .of_same rfl rfl rfl id
    exact fun _ => reset.keepsDrive (loaded.keepsDrive driveLaw_reset)
  | warmReset => obtain rfl := Host.Outcome.next.inj h; exact fun _ => warmReset_driveLaw _ _ s
  | stationStart => obtain rfl := Host.Outcome.next.inj h; exact .ite fun loading law => startStation_driveLaw law loading
  | passTimerExpiry =>
    obtain rfl := Host.Outcome.next.inj h
    refine .ite fun may => .of_running (fun law => law.running ?_) (beginPass_driveStands s).keepsBound
    rintro ⟨timer, -⟩
    simp [passMayBegin, timer] at may
  | probeHoldExpiry n =>
    obtain rfl := Host.Outcome.next.inj h
    refine .ite fun may => .of_running (fun law => law.running ?_) (beginPass_driveStands s).keepsBound
    rintro ⟨timer, -⟩
    simp [passMayBegin, timer] at may
  | passClose => exact execPassClose_keepsDrive h
  | extraReportDue =>
    obtain rfl := Host.Outcome.next.inj h
    exact DriveUnmoved.keepsDrive (.ite ((elapse_driveUnmoved _ s).trans (sendReport_driveUnmoved _)))
  | regularReport =>
    obtain rfl := Host.Outcome.next.inj h
    exact DriveUnmoved.keepsDrive (.ite (((elapse_driveUnmoved (reportLeft s) s).trans (sendReport_driveUnmoved _)).trans
      (.of_same rfl rfl rfl id)))
  | scanRound =>
    obtain rfl := Host.Outcome.next.inj h
    exact DriveUnmoved.keepsDrive (.ite ((elapse_driveUnmoved (scanLeft s) s).trans (.of_same rfl rfl rfl id)))
  | sampleEvent n code =>
    obtain rfl := Host.Outcome.next.inj h
    split
    · exact DriveUnmoved.keepsDrive (.ite ((takeSample_driveUnmoved _ n _).afterSame (.of_same rfl rfl rfl id)))
    · exact .refl s
  | frameReceived f =>
    obtain rfl := Host.Outcome.next.inj h
    exact .ite fun service => .of_running (fun _ => running_of_inService service) (receive_driveStands s f).keepsBound
  | roomReport =>
    obtain rfl := Host.Outcome.next.inj h
    exact handedOn_keepsDrive (fun s f => (takeRoomReport_driveStands s f).keepsBound) s _
  | modeNotice => exact execModeNotice_keepsDrive h
  | boostTimerExpiry n =>
    obtain rfl := Host.Outcome.next.inj h
    exact DriveUnmoved.keepsDrive (.ite ((elapse_driveUnmoved _ s).trans (withdraw_frame _ n .boost).driveUnmoved))
  | roomEntersHeld room =>
    obtain rfl := Host.Outcome.next.inj h
    exact DriveUnmoved.keepsDrive (.ite ((elapse_driveUnmoved _ s).trans (ageRoom_driveUnmoved _ _ _ _)))
  | roomStale room =>
    obtain rfl := Host.Outcome.next.inj h
    split
    · exact ((elapse_driveUnmoved _ s).trans (orphanRoom_driveUnmoved _ _ _)).keepsDrive
    · exact ((elapse_driveUnmoved _ s).trans (orphanRoom_driveUnmoved _ _ _)).keepsDrive
    · exact .refl s
  | stationReport =>
    obtain rfl := Host.Outcome.next.inj h
    refine handedOn_keepsDrive (fun s f => ?_) s _
    obtain ⟨stands, -⟩ := takeStationReport_driveUnmoved s f
    exact stands.keepsBound
  | peerStale n =>
    obtain rfl := Host.Outcome.next.inj h
    exact DriveUnmoved.keepsDrive (.ite ((elapse_driveUnmoved (peerLeft s n) s).trans (.of_same rfl rfl rfl id)))
  | peerRemoval n =>
    obtain rfl := Host.Outcome.next.inj h
    exact DriveUnmoved.keepsDrive (.ite ((elapse_driveUnmoved (peerLeft s n) s).trans (.of_same rfl rfl rfl id)))
  | sourceReport => obtain rfl := Host.Outcome.next.inj h; exact handedOn_keepsDrive takeSourceReport_keepsBound s _
  | sourceStale =>
    obtain rfl := Host.Outcome.next.inj h
    exact .ite fun ⟨service, _⟩ => .of_running (fun _ => running_of_inService service)
      ((staleSource_keepsBound _).afterSame (elapse_driveStands _ s))
  | unusedFrame =>
    obtain rfl := Host.Outcome.next.inj h
    exact handedOn_keepsDrive (take := fun s _ => countUnused s)
      (fun s _ => DriveStands.keepsBound (.of_same rfl rfl rfl)) s _
  | readLoop =>
    obtain rfl := Host.Outcome.next.inj h
    exact handedOn_keepsDrive (answerRequest_keepsBound fun args s => (carryReadLoop_driveStands args s).keepsBound) s _
  | readFaults =>
    obtain rfl := Host.Outcome.next.inj h
    exact handedOn_keepsDrive (answerRequest_keepsBound fun _ s => (partAnswer_driveStands _ _ s).keepsBound) s _
  | readPeers =>
    obtain rfl := Host.Outcome.next.inj h
    exact handedOn_keepsDrive (answerRequest_keepsBound fun _ s => (partAnswer_driveStands _ _ s).keepsBound) s _
  | readTrim =>
    obtain rfl := Host.Outcome.next.inj h
    exact handedOn_keepsDrive (answerRequest_keepsBound fun _ s => (partAnswer_driveStands _ _ s).keepsBound) s _
  | startDryout =>
    obtain rfl := Host.Outcome.next.inj h
    exact handedOn_keepsDrive (fun s f => takeRequest_keepsBound (fun code args s => (carryDryout_driveStands
      (fun s p f => (startProgram_frame s p f).driveStands_counted) f code args s).keepsBound) s f) s _
  | stopDryout =>
    obtain rfl := Host.Outcome.next.inj h
    exact handedOn_keepsDrive (fun s f => takeRequest_keepsBound (fun code args s => (carryDryout_driveStands
      (fun s p f => (stopProgram_frame s p f).driveStands_counted) f code args s).keepsBound) s f) s _
  | recalibrate =>
    obtain rfl := Host.Outcome.next.inj h
    exact handedOn_keepsDrive (answerRequest_keepsBound carryRecalibrate_keepsBound) s _
  | clearFaults =>
    obtain rfl := Host.Outcome.next.inj h
    exact handedOn_keepsDrive (answerRequest_keepsBound fun args s => (carryClearFaults_driveStands args s).keepsBound) s _
  | alertMask =>
    obtain rfl := Host.Outcome.next.inj h
    exact handedOn_keepsDrive (answerRequest_keepsBound fun args s => (carryAlertMask_driveStands args s).keepsBound) s _
  | alertEnable =>
    obtain rfl := Host.Outcome.next.inj h
    exact handedOn_keepsDrive (answerRequest_keepsBound fun args s => (carryAlertEnable_driveStands args s).keepsBound) s _
  | unknownRequest =>
    obtain rfl := Host.Outcome.next.inj h
    exact handedOn_keepsDrive (answerRequest_keepsBound fun _ s => .refl s) s _
  | dryoutHour p =>
    obtain rfl := Host.Outcome.next.inj h
    have finished := (finishDry_frame s).driveStands
    have ⟨loader, _⟩ := finished
    exact .ite fun ⟨service, _⟩ => .of_running (fun _ => loader ▸ running_of_inService service)
      ((finished.trans (elapse_driveStands (hourLeft (finishDry s) p) _)).trans (setInstance_frame _ _ _).driveStands).keepsBound
  | dryoutStepEnd p =>
    obtain rfl := Host.Outcome.next.inj h
    have finished := (finishDry_frame s).driveStands
    have ⟨loader, _⟩ := finished
    exact .ite fun ⟨service, _⟩ => .of_running (fun _ => loader ▸ running_of_inService service)
      (finished.trans (stepEnd_frame _ p).driveStands_counted).keepsBound
  | meterPulse => obtain rfl := Host.Outcome.next.inj h; exact DriveUnmoved.keepsDrive (.ite (.of_same rfl rfl rfl id))
  | feedbackEdge n a b => obtain rfl := Host.Outcome.next.inj h; exact feedbackEdge_keepsDrive s n a b
  | stall n => exact execStall_keepsDrive h
  | moveTimeout n =>
    obtain rfl := Host.Outcome.next.inj h
    exact .ite fun drives => driveEvent_keepsDrive (taken := fun u => timeoutTaken u n) n _ (slotState_of_moveDriving drives)
      fun u held => endedByFault_keepsBound held _
  | phaseLimitExpiry n =>
    obtain rfl := Host.Outcome.next.inj h
    split
    · rename_i cause phase
      exact driveEvent_keepsDrive (taken := fun u => failCalibration u n cause) n _ (slotState_of_phaseCause phase)
        fun u _ => failCalibration_keepsBound u n cause
    · exact .refl s
  | settlingEnd n =>
    obtain rfl := Host.Outcome.next.inj h
    exact .ite fun settles => driveEvent_keepsDrive (taken := fun u => moveCompleted u n) n _ (slotState_of_settlingOf settles)
      fun u held => moveCompleted_keepsBound held
  | calibrationSettlingEnd n =>
    obtain rfl := Host.Outcome.next.inj h
    exact .ite fun settles => driveEvent_keepsDrive (taken := fun u => calibrationCompleted u n) n _
      (slotState_of_settlingOf settles) fun u held => calibrationCompleted_keepsBound held
  | reversingEnd n =>
    obtain rfl := Host.Outcome.next.inj h
    exact .ite fun state => driveEvent_keepsDrive (taken := fun u => reversingEnded u n) n _ (by rw [state]; rfl)
      fun u held => reversingEnded_keepsBound held
  | calOpenDeadIntervalEnd n =>
    obtain rfl := Host.Outcome.next.inj h
    exact .ite fun ⟨state, _⟩ => driveEvent_keepsDrive (taken := fun u => calOpenDriven u n) n _ (by rw [state]; rfl)
      fun u _ => (putChannel_driveStands (by rfl)).keepsBound
  | transmitStart => exact (execTransmit_driveUnmoved (.inl h)).keepsDrive
  | arbitrationLost => exact (execTransmit_driveUnmoved (.inr (.inl h))).keepsDrive
  | arbitrationWon => exact (execTransmit_driveUnmoved (.inr (.inr (.inl h)))).keepsDrive
  | frameSent => exact (execTransmit_driveUnmoved (.inr (.inr (.inr (.inl h))))).keepsDrive
  | frameBrokenOff => exact (execTransmit_driveUnmoved (.inr (.inr (.inr (.inr h))))).keepsDrive

/-- The idle step keeps the law. -/
theorem tick_keepsDrive (s : State) : KeepsDrive s (tick s) := by
  have queue (s : State) : DriveUnmoved s (queueDue s) := by
    rcases queueDue_cases s with ⟨-, e⟩ | ⟨_, -, _, e⟩ <;> rw [e]
    · exact .refl s
    · exact .of_same rfl rfl rfl id
  have work (w : Work) (k : Nat) (s : State) : KeepsDrive s (piece (workStep w) k s) :=
    (times_frame .refl .trans (workStep_keepsDrive w) k s).trans (DriveUnmoved.of_same rfl rfl rfl id).keepsDrive
  rcases tick_cases s with ⟨-, -, e⟩ | ⟨-, e | ⟨-, e⟩⟩ | ⟨busy, k, -, e⟩ <;> rw [e]
  · exact (elapse_driveUnmoved 1 s).keepsDrive
  · exact (queue s).keepsDrive
  · exact ((queue { s with cuts := s.cuts + 1 }).afterSame (.of_same rfl rfl rfl id)).keepsDrive
  · obtain ⟨w, -, draws, e⟩ := goOn_piece busy k
    rw [e]
    exact (DriveUnmoved.of_same (t := { s with draws := draws }) rfl rfl rfl id).keepsDrive.trans (work w k _)

end Sys2Proof.Machine

open Sys2Proof Sys2Proof.Machine

/-- Settles O58: a step is a command or the idle step; what a channel does it does with its entry and its slot, and before the
start nothing is there to move one. -/
theorem everyStepBindsChannelsToQueueAndSlots : Obligations.EveryStepBindsChannelsToQueueAndSlots := by
  unfold Obligations.EveryStepBindsChannelsToQueueAndSlots
  intro s t law h
  unfold step at h
  split at h
  · rename_i i rest _
    exact exec_keepsDrive (s := s.withPending rest) h law
  · obtain rfl := Host.Outcome.next.inj h
    exact tick_keepsDrive s law

end

section
/-! The grants of the arbiter, one at a time (R113, R123, R134, R135). -/

namespace Sys2Proof.Machine

open Sys2Proof

/-! ### Which entry is granted -/

theorem nextGrant_of_law {a : Arbiter} (law : GrantLaw a) : nextGrant a = none := by
  rcases law with full | waiting
  · exact nextGrant_of_full full
  · refine nextGrant_of_waiting fun e mem => ?_
    obtain ⟨kind, view⟩ := waiting e mem
    simp [mayStart, kind, view]

/-- The free slot with the lowest number is found. -/
theorem lowest_free {a : Arbiter} {slot : Fin 3} (free : a.slots.get slot = none)
    (lower : ∀ j, j < slot → a.slots.get j ≠ none) :
    ((List.finRange 3).find? fun i => (a.slots.get i).isNone) = some slot := by
  rw [List.find?_eq_some_iff_getElem]
  refine ⟨by simp [free], slot.val, by simp, by simp, fun j below => ?_⟩
  simpa [Option.isSome_iff_ne_none] using lower ⟨j, by omega⟩ below

/-- An entry that may start and comes after entries that may not is the oldest that may. -/
theorem oldest_startable {a : Arbiter} {earlier later : List DriveEntry} {e : DriveEntry}
    (queue : a.queue = earlier ++ e :: later) (waits : ∀ x ∈ earlier, mayStart a x = false) (may : mayStart a e = true) :
    a.queue.find? (mayStart a) = some e := by
  have before : earlier.find? (mayStart a) = none := List.find?_eq_none.2 fun x mem => by simp [waits x mem]
  simp [queue, List.find?_append, before, may]

/-- The entries before the one that may start are none of its like, so the granted entry leaves the others in their order. -/
theorem granted_queue {a : Arbiter} {earlier later : List DriveEntry} {e : DriveEntry}
    (queue : a.queue = earlier ++ e :: later) (waits : ∀ x ∈ earlier, mayStart a x = false) (may : mayStart a e = true)
    (slot : Fin 3) :
    granted a slot e = { a with queue := earlier ++ later, slots := a.slots.set slot (some e) } := by
  have out : e ∉ earlier := fun mem => by
    have := waits e mem
    rw [may] at this
    cases this
  rw [granted, queue, List.erase_append_right _ out, List.erase_cons_head]

/-- One grant is made, and the grants go on from there. -/
theorem grants_of_next {s : State} {slot : Fin 3} {e : DriveEntry} (next : nextGrant s.arbiter = some (slot, e))
    (fewer : (grantTo s slot e).arbiter.queue.length + 1 = s.arbiter.queue.length) :
    grants s = grants (grantTo s slot e) := by
  rw [grants, ← fewer, grantLoop, next]
  rfl

/-! ### What the granted channel does -/

/-- A CALIBRATE entry's channel, which was QUEUED, begins CAL_CLOSE with its phase limit armed (R123). -/
theorem grantTo_calibrate {s : State} {n : Fin 12} (slot : Fin 3) (queued : (s.channels.get n).state = .queued) :
    grantTo s slot ⟨n, .calibrate⟩ = { s with
      arbiter := granted s.arbiter slot ⟨n, .calibrate⟩
      channels := s.channels.set n { s.channels.get n with
        state := .calClose
        live := none
        remembered := false
        move := some ⟨.calibrate, some .close, 0, some (2 * expectedStroke s n * s.config.countTime + 2000), 0, 0⟩
        wait := none }
      valves := { s.valves with activity := true } } := by
  simp only [grantTo, calibrationGranted, putChannel, queued]
  rfl

/-- A MOVE entry's channel, which was QUEUED, drives toward its target with its limit armed (R113, R119). -/
theorem grantTo_drives {s : State} {n : Fin 12} {d : Direction} (slot : Fin 3)
    (queued : (s.channels.get n).state = .queued) (aims : aim (s.channels.get n) = some d) :
    grantTo s slot ⟨n, .move⟩ = { s with
      arbiter := granted s.arbiter slot ⟨n, .move⟩
      channels := s.channels.set n { s.channels.get n with
        state := drivingState d
        move := some ⟨.move, some d, 0, some (moveLimit s (s.channels.get n)), 0, 0⟩
        wait := none }
      valves := { s.valves with activity := true } } := by
  simp only [grantTo, moveGranted, aims, startDrive, putChannel, queued]
  cases d <;> rfl

/-- A MOVE entry's channel without a way to go comes to rest where it stands, and its slot is free again (R113). -/
theorem grantTo_ends {s : State} {n : Fin 12} (slot : Fin 3) (near : aim (s.channels.get n) = none) :
    grantTo s slot ⟨n, .move⟩ = { s with
      arbiter := released (granted s.arbiter slot ⟨n, .move⟩) n
      channels := s.channels.set n { s.channels.get n with
        state := .idle, move := none, wait := none, rest := (s.channels.get n).counter } } := by
  simp only [grantTo, moveGranted, near, putChannel, activeState, Bool.false_and, Bool.false_eq_true, if_false]

/-- A slot that was free and is freed again leaves the slots as they were. -/
theorem released_set {a : Arbiter} {slot : Fin 3} {e : DriveEntry} (free : a.slots.get slot = none)
    (others : ∀ j f, a.slots.get j = some f → f.channel ≠ e.channel) :
    (released { a with slots := a.slots.set slot (some e) } e.channel).slots = a.slots := by
  refine Tab.ext_get fun j => ?_
  simp only [released, Tab.get_map, Tab.get_set]
  by_cases own : slot = j
  · rw [if_pos own, ← own, free]
    simp
  · rw [if_neg own]
    cases held : a.slots.get j with
    | none => rfl
    | some f => simp [others j f held]

theorem aim_of_no_live {c : Channel} (h : c.live = none) : aim c = none := by simp [aim, h]

end Sys2Proof.Machine

open Sys2Proof Sys2Proof.Machine

/-- Settles O49: the next grant is found, the granted channel begins or ends its operation, and the grants go on. -/
theorem grantsGoToTheOldestThatMayStart : Obligations.GrantsGoToTheOldestThatMayStart := by
  unfold Obligations.GrantsGoToTheOldestThatMayStart
  refine ⟨fun s law => grants_of_none (nextGrant_of_law law), ?_⟩
  intro s earlier later n kind slot queue before may free lower queued c a begun
  have waits : ∀ e ∈ earlier, mayStart s.arbiter e = false := fun e mem => by
    obtain ⟨calibrates, view⟩ := before e mem
    simp [mayStart, calibrates, view]
  have start : mayStart s.arbiter ⟨n, kind⟩ = true := by
    rcases may with rfl | view
    · rfl
    · simp [mayStart, view]
  have next : nextGrant s.arbiter = some (slot, ⟨n, kind⟩) := by
    rw [nextGrant, lowest_free free lower, oldest_startable queue waits start]
  have left : granted s.arbiter slot ⟨n, kind⟩ = a := granted_queue queue waits start slot
  have fewer {t : State} (rest : t.arbiter.queue = earlier ++ later) :
      t.arbiter.queue.length + 1 = s.arbiter.queue.length := by
    rw [rest, queue]
    simp only [List.length_append, List.length_cons]
    omega
  refine ⟨?_, fun target => ?_, ?_⟩
  · rintro rfl
    have made := grantTo_calibrate slot queued
    rw [left] at made
    rw [grants_of_next next (fewer (by rw [made])), made]
  · rintro rfl live far
    have made := grantTo_drives slot queued (aim_beyond live far)
    rw [left] at made
    have limit : moveLimit s c = 2 * (c.counter - target).natAbs * s.config.countTime + 2000 := by simp [moveLimit, c, live]
    have driving : drivingState (if c.counter < target then .open else .close) =
        if c.counter < target then .drivingOpen else .drivingClose := by split <;> rfl
    rw [grants_of_next next (fewer (by rw [made])), made, ← limit, ← driving]
  · rintro rfl near others
    have aims : aim c = none := by
      rcases near with live | ⟨target, live, near⟩
      · exact aim_of_no_live live
      · exact aim_eq_none live near
    have made := grantTo_ends slot aims
    have freed : released a n = { s.arbiter with queue := earlier ++ later } := by
      have slots := released_set (a := s.arbiter) (e := ⟨n, .move⟩) free others
      simp only [released] at slots ⊢
      rw [slots]
    rw [left, freed] at made
    rw [grants_of_next next (fewer (by rw [made])), made]

end

section
/-! A calibration request, by the channel's state (R122, R131, R134). -/

namespace Sys2Proof.Machine

open Sys2Proof

/-! ### What the arbiter answers of a channel that waits or holds a slot -/

/-- The entry of a channel is the one it has. -/
theorem entryOf_of_mem {s : State} (law : ArbiterLaw s.arbiter) {e : DriveEntry} (mem : e ∈ s.arbiter.queue) :
    entryOf s e.channel = some e := by
  obtain ⟨f, found⟩ : ∃ f, entryOf s e.channel = some f := Option.isSome_iff_exists.1
    (List.find?_isSome.2 ⟨e, mem, by simp⟩)
  have own : f.channel = e.channel := by simpa using List.find?_some found
  obtain ⟨distinct, -⟩ := law
  rw [found, List.inj_on_of_nodup_map distinct (List.mem_of_find?_eq_some found) mem own]

/-- The slot of a channel is the one it holds. -/
theorem slotOf_of_held {s : State} (law : ArbiterLaw s.arbiter) {i : Fin 3} {e : DriveEntry}
    (held : s.arbiter.slots.get i = some e) : slotOf s e.channel = some (i, e.kind) := by
  obtain ⟨-, -, single⟩ := law
  obtain ⟨⟨j, k⟩, found⟩ := Option.ne_none_iff_exists'.1 fun h => slotOf_eq_none_iff.1 h ⟨i, e, held, rfl⟩
  have own := slotOf_eq_some found
  obtain rfl := single i j e _ held own rfl
  rw [found, Option.some.inj (held.symm.trans own)]

theorem queuedFor_iff {s : State} {n : Fin 12} {k : OpKind} : queuedFor s n k = true ↔
    (s.channels.get n).state = .queued ∧ (entryOf s n).map (·.kind) = some k := by
  unfold queuedFor
  cases entryOf s n <;> simp

/-! ### A channel that has been sent to calibrate -/

/-- The channel waits with its calibration or makes it in its slot, its flag clear. -/
def SentToCalibrate (n : Fin 12) (s : State) : Prop :=
  ArbiterLaw s.arbiter ∧ (s.channels.get n).calibrated = false ∧
  (((s.channels.get n).state = .queued ∧ ⟨n, .calibrate⟩ ∈ s.arbiter.queue) ∨
    ((s.channels.get n).state = .calClose ∧ (s.channels.get n).live = none ∧
      ∃ i, s.arbiter.slots.get i = some ⟨n, .calibrate⟩))

/-- What a grant leaves of queue and slots: the slot it takes is held by its channel or free again. -/
theorem grantTo_arbiter (s : State) (i : Fin 3) (e : DriveEntry) :
    (grantTo s i e).arbiter = granted s.arbiter i e ∨
    (grantTo s i e).arbiter = released (granted s.arbiter i e) e.channel := by
  obtain ⟨_, -, ⟨arbiter, -⟩ | ⟨arbiter, -⟩⟩ := grantTo_cases s i e
  · exact .inl arbiter
  · exact .inr arbiter

theorem grantTo_law {s : State} (law : ArbiterLaw s.arbiter) {i : Fin 3} {e : DriveEntry}
    (free : s.arbiter.slots.get i = none) (mem : e ∈ s.arbiter.queue) : ArbiterLaw (grantTo s i e).arbiter := by
  rcases grantTo_arbiter s i e with arbiter | arbiter <;> rw [arbiter]
  · exact law.granted free mem
  · exact (law.granted free mem).released _

/-- The grant of another channel leaves an entry. -/
theorem grantTo_keepsEntry {s : State} {i : Fin 3} {e f : DriveEntry} (other : e.channel ≠ f.channel)
    (mem : f ∈ s.arbiter.queue) : f ∈ (grantTo s i e).arbiter.queue := by
  have stays : f ∈ s.arbiter.queue.erase e := (List.mem_erase_of_ne fun same => other (congrArg _ same.symm)).2 mem
  rcases grantTo_arbiter s i e with arbiter | arbiter <;> rw [arbiter] <;> exact stays

/-- The grant of another channel leaves a slot that is held. -/
theorem grantTo_keepsSlot {s : State} {i j : Fin 3} {e f : DriveEntry} (other : e.channel ≠ f.channel)
    (free : s.arbiter.slots.get i = none) (held : s.arbiter.slots.get j = some f) :
    (grantTo s i e).arbiter.slots.get j = some f := by
  have stays : (granted s.arbiter i e).slots.get j = some f := by
    rw [granted, Tab.get_set_ne _ _ (by rintro rfl; rw [free] at held; cases held), held]
  rcases grantTo_arbiter s i e with arbiter | arbiter <;> rw [arbiter]
  · exact stays
  · exact slot_released.2 ⟨stays, other.symm⟩

theorem grantTo_sentToCalibrate {s : State} {n : Fin 12} (h : SentToCalibrate n s) {i : Fin 3} {e : DriveEntry}
    (free : s.arbiter.slots.get i = none) (mem : e ∈ s.arbiter.queue) : SentToCalibrate n (grantTo s i e) := by
  obtain ⟨law, flag, place⟩ := h
  refine ⟨grantTo_law law free mem, ?_⟩
  by_cases own : e.channel = n
  · subst own
    rcases place with ⟨-, entry⟩ | ⟨-, -, j, held⟩
    · have same : e = ⟨e.channel, .calibrate⟩ := by
        obtain ⟨distinct, -⟩ := law
        exact List.inj_on_of_nodup_map distinct mem entry rfl
      rw [same]
      have calibrates : (grantTo s i ⟨e.channel, .calibrate⟩).channels.get e.channel = _ := putChannel_get_self _ _ _
      rw [calibrates]
      exact ⟨flag, .inr ⟨rfl, rfl, i, Tab.get_set_self _ _ _⟩⟩
    · obtain ⟨-, apart, -⟩ := law
      exact absurd ⟨j, _, held, rfl⟩ (apart e mem)
  · rw [(grantTo_other s i e own).1]
    refine ⟨flag, place.imp (fun ⟨state, entry⟩ => ⟨state, grantTo_keepsEntry own entry⟩) ?_⟩
    rintro ⟨state, live, j, held⟩
    exact ⟨state, live, j, grantTo_keepsSlot own free held⟩

theorem grantLoop_sentToCalibrate {n : Fin 12} : ∀ (fuel : Nat) {s : State}, SentToCalibrate n s →
    SentToCalibrate n (grantLoop fuel s)
  | 0, _, h => h
  | fuel + 1, s, h => by
    unfold grantLoop
    split
    · rename_i next
      obtain ⟨free, mem, -⟩ := nextGrant_eq_some next
      exact grantLoop_sentToCalibrate fuel (grantTo_sentToCalibrate h free mem)
    · exact h

/-- A channel without a slot that is sent to the arbiter waits with its calibration or makes it (R122, R131, R134). -/
theorem sendCalibrate_sent {s : State} {n : Fin 12} (law : ArbiterLaw s.arbiter) (free : ¬ holdsSlot s.arbiter n) :
    SentToCalibrate n (sendCalibrate s n) := by
  have own (a : Arbiter) (c : Channel) (h : c.calibrated = false ∧ c.state = .queued) (keeps : ArbiterLaw a)
      (entry : ⟨n, .calibrate⟩ ∈ a.queue) : SentToCalibrate n { putChannel s n c with arbiter := a } := by
    refine ⟨keeps, ?_⟩
    rw [show ({ putChannel s n c with arbiter := a } : State).channels.get n = c from putChannel_get_self s n c]
    exact ⟨h.1, .inl ⟨h.2, entry⟩⟩
  refine grantLoop_sentToCalibrate _ ?_
  by_cases waits : unqueued s.arbiter n
  · rw [joinCalibrate_of_free (s := putChannel s n _) waits free]
    exact own (withEntry s.arbiter n .calibrate) _ ⟨rfl, rfl⟩ (law.withEntry waits free _) (by simp [withEntry])
  · rw [joinCalibrate_of_queued (s := putChannel s n _) waits]
    obtain ⟨e, mem, channel⟩ : ∃ e ∈ s.arbiter.queue, e.channel = n := by simpa [unqueued] using waits
    exact own (recast s.arbiter n) _ ⟨rfl, rfl⟩ (law.recast n)
      (List.mem_map.2 ⟨e, mem, by rw [if_pos channel]⟩)

/-! ### The request by the channel's state -/

section
variable {s : State} {n : Fin 12} (service : Bool) (used : channelInUse s n = true)
include used

theorem requestCalibration_ignored {c : Channel} (own : s.channels.get n = c)
    (h : c.state = .calClose ∨ c.state = .calOpen ∨ (c.state = .settling ∧ c.move.map (·.kind) = some .calibrate) ∨
      (c.state = .queued ∧ (entryOf s n).map (·.kind) = some .calibrate) ∨ (c.state = .disabled ∧ service = false)) :
    requestCalibration s n service = s := by
  subst own
  rcases h with state | state | ⟨state, kind⟩ | ⟨state, kind⟩ | ⟨state, rfl⟩
  · simp [requestCalibration, used, state]
  · simp [requestCalibration, used, state]
  · obtain ⟨m, move, kind⟩ := Option.map_eq_some_iff.1 kind
    simp [requestCalibration, used, state, move, kind]
  · have other : queuedFor s n .move = false := by
      rw [Bool.eq_false_iff, Ne, queuedFor_iff, kind]
      exact fun ⟨_, move⟩ => by cases move
    simp [requestCalibration, used, state, other]
  · simp [requestCalibration, used, state]

theorem requestCalibration_remembered {c : Channel} (own : s.channels.get n = c)
    (h : c.state = .drivingOpen ∨ c.state = .drivingClose ∨ c.state = .reversing ∨
      (c.state = .settling ∧ c.move.map (·.kind) = some .move)) :
    requestCalibration s n service = setChannel s n { c with remembered := true } := by
  subst own
  rcases h with state | state | state | ⟨state, kind⟩
  · simp [requestCalibration, used, state]
  · simp [requestCalibration, used, state]
  · simp [requestCalibration, used, state]
  · obtain ⟨m, move, kind⟩ := Option.map_eq_some_iff.1 kind
    simp [requestCalibration, used, state, move, kind]

theorem requestCalibration_sent {c : Channel} (own : s.channels.get n = c)
    (h : c.state = .uncalibrated ∨ c.state = .idle ∨ (c.state = .disabled ∧ service = true) ∨
      (c.state = .queued ∧ (entryOf s n).map (·.kind) = some .move)) :
    requestCalibration s n service = sendCalibrate s n := by
  subst own
  rcases h with state | state | ⟨state, rfl⟩ | waits
  · simp [requestCalibration, used, state]
  · simp [requestCalibration, used, state]
  · simp [requestCalibration, used, state]
  · have ⟨state, _⟩ := waits
    simp [requestCalibration, used, state, queuedFor_iff.2 waits]

end

end Sys2Proof.Machine

open Sys2Proof Sys2Proof.Machine

/-- Settles O48: the request is ignored, remembered or sent, and a channel that is sent stands with its calibration through the
grants. -/
theorem calibrationRequestByChannelState : Obligations.CalibrationRequestByChannelState := by
  unfold Obligations.CalibrationRequestByChannelState
  intro s n service law used c t
  refine ⟨requestCalibration_ignored service used rfl, requestCalibration_remembered service used rfl, fun state free => ?_⟩
  have sent : SentToCalibrate n t := by
    rw [show t = sendCalibrate s n from requestCalibration_sent service used rfl state]
    exact sendCalibrate_sent law free
  obtain ⟨law', flag, place⟩ := sent
  refine ⟨flag, place.imp (fun ⟨queued, entry⟩ => ⟨queued, entryOf_of_mem law' entry⟩) ?_⟩
  rintro ⟨calibrates, live, i, held⟩
  exact ⟨calibrates, live, by rw [slotOf_of_held (e := ⟨n, .calibrate⟩) law' held]; rfl⟩

end

section
/-! What the end of an operation leaves of its channel, its slot and the recorder (R118 to R120, R125, R126, R133). -/

namespace Sys2Proof.Machine

open Sys2Proof

theorem GrantFrame.drive {s t : State} (h : GrantFrame s t) : DriveFrame s t := by
  obtain ⟨_, _, _, rfl⟩ := h
  exact ⟨_, _, _, s.recorder, s.bus.alert, s.bus.placing, s.bus.tx, rfl⟩

theorem GrantFrame.recorder {s t : State} (h : GrantFrame s t) : t.recorder = s.recorder := by
  obtain ⟨_, _, _, rfl⟩ := h
  rfl

/-- A channel without entry and slot gets none by grants. -/
theorem grantTo_free {s : State} {n : Fin 12} (out : unqueued s.arbiter n) (none_ : ¬ holdsSlot s.arbiter n) {i : Fin 3}
    {e : DriveEntry} (free : s.arbiter.slots.get i = none) (mem : e ∈ s.arbiter.queue) :
    ¬ holdsSlot (grantTo s i e).arbiter n := by
  have away : ¬ holdsSlot (granted s.arbiter i e) n := fun held =>
    ((holdsSlot_granted free).1 held).elim (out e mem) none_
  rcases grantTo_arbiter s i e with arbiter | arbiter <;> rw [arbiter]
  · exact away
  · exact fun held => away (holdsSlot_released.1 held).2

theorem grantLoop_free {n : Fin 12} : ∀ (fuel : Nat) {s : State}, unqueued s.arbiter n → ¬ holdsSlot s.arbiter n →
    ¬ holdsSlot (grantLoop fuel s).arbiter n
  | 0, _, _, none_ => none_
  | fuel + 1, s, out, none_ => by
    unfold grantLoop
    split
    · rename_i i e next
      obtain ⟨free, mem, -⟩ := nextGrant_eq_some next
      obtain ⟨-, keeps⟩ := grantTo_other s i e (out e mem)
      exact grantLoop_free fuel (keeps out) (grantTo_free out none_ free mem)
    · exact none_

/-- What stands at a channel whose operation has ended, among the grants that its slot has made room for: its value, and
neither entry nor slot. -/
structure Ended (s : State) (n : Fin 12) (c : Channel) (t : State) : Prop where
  frame : GrantFrame s t
  channel : t.channels.get n = c
  slot : slotOf t n = none
  entry : entryOf t n = none

/-- Once its slot has been freed a channel without an entry stands through the grants that follow (R133, R134). -/
theorem freeSlot_ended {s : State} {n : Fin 12} (out : unqueued s.arbiter n) :
    Ended s n (s.channels.get n) (freeSlot s n) := by
  obtain ⟨channel, out'⟩ := freeSlot_unqueued s n n out
  refine ⟨(arbiter_grantFrame s _).trans (grants_grantFrame _), channel, ?_, entryOf_eq_none_iff.2 out'⟩
  refine slotOf_eq_none_iff.2 (grantLoop_free _ (n := n) (s := { s with arbiter := released s.arbiter n }) out ?_)
  exact fun held => (holdsSlot_released.1 held).1 rfl

theorem Ended.after {s t u : State} {n : Fin 12} {c : Channel} (h : Ended t n c u) (frame : GrantFrame s t) :
    Ended s n c u := ⟨frame.trans h.frame, h.channel, h.slot, h.entry⟩

/-- A channel takes its value at rest and frees its slot. -/
theorem putFree_ended {s : State} {n : Fin 12} (c : Channel) (entry : entryOf s n = none) :
    Ended s n c (freeSlot (putChannel s n c) n) := by
  have ended := freeSlot_ended (s := putChannel s n c) (n := n) (entryOf_eq_none_iff.1 entry)
  rw [putChannel_get_self] at ended
  exact ended.after (putChannel_grantFrame s n c)

/-- A channel is disabled: its entry goes, too (R126, R136). -/
theorem disable_ended (s : State) (n : Fin 12) : Ended s n { s.channels.get n with
    state := .disabled, move := none, wait := none, remembered := false, live := none } (disable s n) := by
  let c := { s.channels.get n with state := .disabled, move := none, wait := none, remembered := false, live := none }
  have out : unqueued (withoutEntry s.arbiter n) n := unqueued_withoutEntry.2 (.inl rfl)
  have ended := freeSlot_ended (s := { putChannel s n c with arbiter := withoutEntry s.arbiter n }) (n := n) out
  rw [show ({ putChannel s n c with arbiter := withoutEntry s.arbiter n } : State).channels.get n = c from
    putChannel_get_self s n c] at ended
  exact ended.after ((putChannel_grantFrame s n c).trans (arbiter_grantFrame _ _))

/-! ### What the recorder has of a fault without a frame -/

/-- The status of the kind is set, and an unmasked kind has taken an empty pointer with its record (R160, R161). -/
def Noted (before : Recorder) (k : FaultKind) (item : Nat) (first second : Int) (after : Recorder) : Prop :=
  (after.kinds.get (kindIndex k)).status = true ∧
  (before.pointer = none → (before.kinds.get (kindIndex k)).masked = false → after.pointer = some k ∧
    after.record.map (fun e => (e.origin, e.item, e.first, e.second, e.frame)) = some (.internal, item, first, second, none))

theorem report_noted (s : State) (k : FaultKind) (item : Nat) (first second : Int) :
    Noted s.recorder k item first second (report s ⟨k, item, first, second, none⟩).recorder := by
  refine ⟨?_, fun empty unmasked => ?_⟩
  · rw [report_kinds]
    simp
  · obtain ⟨pointer, record⟩ := report_empty_pointer s ⟨k, item, first, second, none⟩ empty unmasked
    rw [pointer, record]
    exact ⟨rfl, rfl⟩

theorem Noted.values {before after : Recorder} {k : FaultKind} {item : Nat} {first second : Int}
    (h : Noted before k item first second after) (empty : before.pointer = none)
    (unmasked : (before.kinds.get (kindIndex k)).masked = false) :
    after.record.map (fun e => (e.item, e.first, e.second)) = some (item, first, second) := by
  obtain ⟨-, taken⟩ := h
  obtain ⟨-, record⟩ := taken empty unmasked
  obtain ⟨e, found, same⟩ := Option.map_eq_some_iff.1 record
  obtain ⟨-, rfl, rfl, rfl, -⟩ := by simpa only [Prod.mk.injEq] using same
  rw [found]
  rfl

theorem entryOf_report (s : State) (e : FaultEvent) (n : Fin 12) : entryOf (report s e) n = entryOf s n := by
  rw [entryOf, (report_frame s e).work.arbiter]
  rfl

/-- A fault is reported, and its channel comes to rest and frees its slot. -/
theorem reportedFree_ended {s : State} {n : Fin 12} (e : FaultEvent) (c : Channel) (entry : entryOf s n = none) :
    Ended (report s e) n c (freeSlot (putChannel (report s e) n c) n) :=
  putFree_ended c (by rw [entryOf_report]; exact entry)

/-- A fault is reported and a move dropped (R119, R120). -/
theorem reportedDrop_ended {s : State} {n : Fin 12} (e : FaultEvent) (entry : entryOf s n = none) :
    Ended (report s e) n { s.channels.get n with state := .idle, move := none, wait := none } (dropMove (report s e) n) := by
  have ended := reportedFree_ended e { (report s e).channels.get n with state := .idle, move := none, wait := none } entry
  have channels := report_channels s e
  exact ⟨ended.frame, by rw [← channels]; exact ended.channel, ended.slot, ended.entry⟩

end Sys2Proof.Machine
end

section
/-! Feedback edges count (R110): nothing that is judged at an edge touches the counters. -/

namespace Sys2Proof.Machine

open Sys2Proof

/-! ### What the edges have counted -/

/-- The position counter and the illegal total of every channel stand. -/
def TalliesStand (s t : State) : Prop := ∀ n, (t.channels.get n).counter = (s.channels.get n).counter ∧
  (t.channels.get n).illegalTotal = (s.channels.get n).illegalTotal

theorem TalliesStand.of_channels {s t : State} (same : t.channels = s.channels) : TalliesStand s t := fun _ => by
  rw [same]
  exact ⟨rfl, rfl⟩

theorem TalliesStand.refl (s : State) : TalliesStand s s := .of_channels rfl

theorem TalliesStand.trans {s t u : State} (h : TalliesStand s t) (k : TalliesStand t u) : TalliesStand s u := fun n => by
  obtain ⟨counter, total⟩ := h n
  obtain ⟨counter', total'⟩ := k n
  exact ⟨counter'.trans counter, total'.trans total⟩

theorem putChannel_talliesStand {s : State} {n : Fin 12} {c : Channel} (counter : c.counter = (s.channels.get n).counter)
    (total : c.illegalTotal = (s.channels.get n).illegalTotal) : TalliesStand s (putChannel s n c) := fun m => by
  by_cases h : n = m
  · subst h; rw [putChannel_get_self]; exact ⟨counter, total⟩
  · rw [putChannel_get_ne s c h]; exact ⟨rfl, rfl⟩

theorem setChannel_talliesStand {s : State} {n : Fin 12} {c : Channel} (counter : c.counter = (s.channels.get n).counter)
    (total : c.illegalTotal = (s.channels.get n).illegalTotal) : TalliesStand s (setChannel s n c) := fun m => by
  by_cases h : n = m
  · subst h; rw [setChannel_channels, Tab.get_set_self]; exact ⟨counter, total⟩
  · rw [setChannel_channels, Tab.get_set_ne _ _ h]; exact ⟨rfl, rfl⟩

theorem arbiter_talliesStand (s : State) (a : Arbiter) : TalliesStand s { s with arbiter := a } := .of_channels rfl

theorem grantTo_talliesStand (s : State) (i : Fin 3) (e : DriveEntry) : TalliesStand s (grantTo s i e) := by
  have arbiter := arbiter_talliesStand s (granted s.arbiter i e)
  unfold grantTo moveGranted
  dsimp only
  split
  · split
    · exact arbiter.trans (putChannel_talliesStand rfl rfl)
    · refine arbiter.trans (TalliesStand.trans ?_ (arbiter_talliesStand _ _))
      exact putChannel_talliesStand rfl rfl
  · exact arbiter.trans (putChannel_talliesStand rfl rfl)

theorem grantLoop_talliesStand : ∀ (fuel : Nat) (s : State), TalliesStand s (grantLoop fuel s)
  | 0, s => .refl s
  | fuel + 1, s => by
    unfold grantLoop
    split
    · exact (grantTo_talliesStand s _ _).trans (grantLoop_talliesStand fuel _)
    · exact .refl s

theorem sendCalibrate_talliesStand (s : State) (n : Fin 12) : TalliesStand s (sendCalibrate s n) :=
  TalliesStand.trans (TalliesStand.trans
    (putChannel_talliesStand (c := { s.channels.get n with state := .queued, calibrated := false }) rfl rfl)
    (.of_channels (joinCalibrate_channels _ n))) (grantLoop_talliesStand _ _)

theorem requestCalibration_talliesStand (s : State) (n : Fin 12) (service : Bool) :
    TalliesStand s (requestCalibration s n service) := by
  rcases requestCalibration_cases s n service with e | e | e <;> rw [e]
  · exact .refl s
  · exact setChannel_talliesStand rfl rfl
  · exact sendCalibrate_talliesStand s n

theorem report_talliesStand (s : State) (e : FaultEvent) : TalliesStand s (report s e) :=
  .of_channels (report_channels s e)

theorem dropMove_talliesStand (s : State) (n : Fin 12) : TalliesStand s (dropMove s n) :=
  (putChannel_talliesStand (c := { s.channels.get n with state := .idle, move := none, wait := none }) rfl rfl).trans
    ((arbiter_talliesStand _ _).trans (grantLoop_talliesStand _ _))

theorem feedbackError_talliesStand (s : State) (n : Fin 12) (cause : Int) (count : Nat) :
    TalliesStand s (feedbackError s n cause count) :=
  ((report_talliesStand s _).trans (dropMove_talliesStand _ n)).trans (requestCalibration_talliesStand _ n false)

theorem settle_talliesStand (s : State) (n : Fin 12) : TalliesStand s (settle s n) := putChannel_talliesStand rfl rfl

/-- The cases of what is judged at an edge: nothing, a failed move, an arrival, or a drift. -/
theorem judgeChannel_cases (s : State) (n : Fin 12) : judgeChannel s n = s ∨
    (∃ cause count, judgeChannel s n = feedbackError s n cause count) ∨ judgeChannel s n = settle s n ∨
    ∃ e, judgeChannel s n = requestCalibration (report s e) n false := by
  unfold judgeChannel
  dsimp only
  split
  case h_1 | h_2 =>
    split
    · split
      · exact .inr (.inl ⟨_, _, rfl⟩)
      · split
        · exact .inr (.inl ⟨_, _, rfl⟩)
        · split
          · exact .inr (.inr (.inl rfl))
          · exact .inl rfl
    · exact .inl rfl
  case h_3 | h_4 =>
    split
    · exact .inr (.inr (.inr ⟨_, rfl⟩))
    · exact .inl rfl
  all_goals exact .inl rfl

theorem judgeChannel_talliesStand (s : State) (n : Fin 12) : TalliesStand s (judgeChannel s n) := by
  rcases judgeChannel_cases s n with stands | ⟨cause, count, fails⟩ | arrives | ⟨e, drifts⟩
  · rw [stands]; exact .refl s
  · rw [fails]; exact feedbackError_talliesStand s n cause count
  · rw [arrives]; exact settle_talliesStand s n
  · rw [drifts]; exact (report_talliesStand s e).trans (requestCalibration_talliesStand _ n false)

/-! ### How a change of the phase pair is judged -/

theorem judgeEdge_self (p : PhasePair) : judgeEdge p p = .unchanged := if_pos rfl

/-- A step in the open order is legal toward open. -/
theorem judgeEdge_open : ∀ x y a b : Bool, ((⟨x, y⟩ : PhasePair), a, b) ∈
    ([(⟨false, false⟩, false, true), (⟨false, true⟩, true, true), (⟨true, true⟩, true, false),
      (⟨true, false⟩, false, false)] : List (PhasePair × Bool × Bool)) → judgeEdge ⟨x, y⟩ ⟨a, b⟩ = .legal .open := by
  decide

/-- A step against the open order is legal toward closed. -/
theorem judgeEdge_close : ∀ x y a b : Bool, ((⟨x, y⟩ : PhasePair), a, b) ∈
    ([(⟨false, false⟩, true, false), (⟨true, false⟩, true, true), (⟨true, true⟩, false, true),
      (⟨false, true⟩, false, false)] : List (PhasePair × Bool × Bool)) → judgeEdge ⟨x, y⟩ ⟨a, b⟩ = .legal .close := by
  decide

/-- A change of both phases is illegal. -/
theorem judgeEdge_both : ∀ x y a b : Bool, a ≠ x → b ≠ y → judgeEdge ⟨x, y⟩ ⟨a, b⟩ = .illegal := by decide

theorem judgeEdge_unchanged {old new : PhasePair} (h : judgeEdge old new = .unchanged) : new = old := by
  unfold judgeEdge at h
  split at h
  · assumption
  · split at h
    · cases h
    · split at h <;> cases h

/-! ### The edge -/

theorem legalEdge_counter (c : Channel) (d : Direction) : (legalEdge c d).counter =
    max (-1024) (min 5119 (c.counter + if d = .open then 1 else -1)) := by
  cases d
  · exact clampInt_eq (by decide)
  · exact clampInt_eq (by decide)

theorem feedbackEdge_unchanged {s : State} {n : Fin 12} {a b : Bool} (h : judgeEdge (s.phases.get n) ⟨a, b⟩ = .unchanged) :
    feedbackEdge s n a b = s := by
  unfold feedbackEdge
  rw [h]

theorem feedbackEdge_legal {s : State} {n : Fin 12} {a b : Bool} {d : Direction}
    (h : judgeEdge (s.phases.get n) ⟨a, b⟩ = .legal d) : feedbackEdge s n a b = judgeChannel
      (setChannel { s with phases := s.phases.set n ⟨a, b⟩ } n (legalEdge (s.channels.get n) d)) n := by
  unfold feedbackEdge
  rw [h]

theorem feedbackEdge_illegal {s : State} {n : Fin 12} {a b : Bool} (h : judgeEdge (s.phases.get n) ⟨a, b⟩ = .illegal) :
    feedbackEdge s n a b = judgeChannel
      (setChannel { s with phases := s.phases.set n ⟨a, b⟩ } n (illegalEdge (s.channels.get n))) n := by
  unfold feedbackEdge
  rw [h]

/-- What an edge has done that leaves the channel with the value `after`, before it is judged. -/
structure Counted (s : State) (n : Fin 12) (p : PhasePair) (after : Channel) (t : State) : Prop where
  frame : DriveFrame { s with phases := s.phases.set n p } t
  counter : (t.channels.get n).counter = after.counter
  total : (t.channels.get n).illegalTotal = after.illegalTotal
  others : ∀ m, m ≠ n → (t.channels.get m).counter = (s.channels.get m).counter

theorem judgeChannel_counted (s : State) (n : Fin 12) (p : PhasePair) (after : Channel) :
    Counted s n p after (judgeChannel (setChannel { s with phases := s.phases.set n p } n after) n) := by
  have stands := judgeChannel_talliesStand (setChannel { s with phases := s.phases.set n p } n after) n
  have own : (setChannel { s with phases := s.phases.set n p } n after).channels.get n = after := by simp
  obtain ⟨counter, total⟩ := stands n
  rw [own] at counter total
  refine ⟨(setChannel_frame _ n after).trans (judgeChannel_frame _ n), counter, total, fun m other => ?_⟩
  obtain ⟨counter, -⟩ := stands m
  rw [counter, setChannel_channels, Tab.get_set_ne _ _ other.symm]

/-- What an edge leaves of its channel, by the judgment. -/
theorem feedbackEdge_counted (s : State) (n : Fin 12) (a b : Bool) : Counted s n ⟨a, b⟩
    (match judgeEdge (s.phases.get n) ⟨a, b⟩ with
      | .unchanged => s.channels.get n
      | .legal d => legalEdge (s.channels.get n) d
      | .illegal => illegalEdge (s.channels.get n)) (feedbackEdge s n a b) := by
  cases judged : judgeEdge (s.phases.get n) ⟨a, b⟩ with
  | unchanged =>
    rw [feedbackEdge_unchanged judged]
    have same : s.phases.set n ⟨a, b⟩ = s.phases := by rw [judgeEdge_unchanged judged, Tab.set_get_self]
    refine ⟨?_, rfl, rfl, fun _ _ => rfl⟩
    rw [same]
    exact .refl s
  | legal d => rw [feedbackEdge_legal judged]; exact judgeChannel_counted s n _ _
  | illegal => rw [feedbackEdge_illegal judged]; exact judgeChannel_counted s n _ _

theorem DriveFrame.phases {s t : State} (h : DriveFrame s t) : t.phases = s.phases := by
  obtain ⟨_, _, _, _, _, _, _, rfl⟩ := h
  rfl

end Sys2Proof.Machine

open Sys2Proof Sys2Proof.Machine

/-- Settles O42, through what an edge has counted by its judgment: no judgment of the channel touches the tallies. -/
theorem feedbackEdgeCounts : Obligations.FeedbackEdgeCounts := by
  intro s n a b old c toOpen toClose
  obtain ⟨frame, counter, total, others⟩ := feedbackEdge_counted s n a b
  refine ⟨fun same => ?_, feedbackEdge s n a b, rfl, ?_, fun m other => ⟨?_, others m other⟩, fun opening => ?_,
    fun closing => ?_, fun da db => ?_, frame⟩
  · exact congrArg Host.Outcome.next (feedbackEdge_unchanged (show judgeEdge old ⟨a, b⟩ = .unchanged by
      rw [same]; exact judgeEdge_self _))
  · rw [frame.phases]; exact Tab.get_set_self _ _ _
  · rw [frame.phases]; exact Tab.get_set_ne _ _ other.symm
  · have judged : judgeEdge (s.phases.get n) ⟨a, b⟩ = .legal .open := judgeEdge_open old.a old.b a b opening
    rw [counter, total, judged]
    exact ⟨legalEdge_counter c .open, rfl⟩
  · have judged : judgeEdge (s.phases.get n) ⟨a, b⟩ = .legal .close := judgeEdge_close old.a old.b a b closing
    rw [counter, total, judged]
    exact ⟨legalEdge_counter c .close, rfl⟩
  · have judged : judgeEdge (s.phases.get n) ⟨a, b⟩ = .illegal := judgeEdge_both old.a old.b a b da db
    rw [counter, total, judged]
    exact ⟨rfl, bump_eq_min 65535 c.illegalTotal⟩

end

section
/-! What a channel judges at an edge, by its state (R114, R120, R121). -/

namespace Sys2Proof.Machine

open Sys2Proof

/-! ### The pins after a step and after a jump -/

/-- The pins after a step toward `d`. -/
def pinsAfter (pins : PhasePair) (d : Direction) : PhasePair :=
  if d = .open then ⟨pins.b, !pins.a⟩ else ⟨!pins.b, pins.a⟩

/-- The pins after a change of both phases. -/
def pinsJumped (pins : PhasePair) : PhasePair := ⟨!pins.a, !pins.b⟩

theorem judgeEdge_pinsAfter (pins : PhasePair) (d : Direction) : judgeEdge pins (pinsAfter pins d) = .legal d := by
  obtain ⟨x, y⟩ := pins
  cases d <;> cases x <;> cases y <;> rfl

theorem judgeEdge_pinsJumped (pins : PhasePair) : judgeEdge pins (pinsJumped pins) = .illegal :=
  judgeEdge_both pins.a pins.b _ _ (Bool.not_ne_self _) (Bool.not_ne_self _)

/-- A channel whose pins have changed and whose edge has been counted. -/
def edgeCounted (s : State) (n : Fin 12) (p : PhasePair) (after : Channel) : State :=
  setChannel { s with phases := s.phases.set n p } n after

theorem edgeCounted_channel (s : State) (n : Fin 12) (p : PhasePair) (after : Channel) :
    (edgeCounted s n p after).channels.get n = after := Tab.get_set_self _ _ _

theorem edgeCounted_frame (s : State) (n : Fin 12) (p : PhasePair) (after : Channel) :
    DriveFrame { s with phases := s.phases.set n p } (edgeCounted s n p after) := setChannel_frame _ n after

theorem exec_step (s : State) (n : Fin 12) (d : Direction) :
    exec (.feedbackEdge n (pinsAfter (s.phases.get n) d).a (pinsAfter (s.phases.get n) d).b) s = .next
      (judgeChannel (edgeCounted s n (pinsAfter (s.phases.get n) d) (legalEdge (s.channels.get n) d)) n) :=
  congrArg Host.Outcome.next (feedbackEdge_legal (judgeEdge_pinsAfter _ d))

theorem exec_jump (s : State) (n : Fin 12) :
    exec (.feedbackEdge n (pinsJumped (s.phases.get n)).a (pinsJumped (s.phases.get n)).b) s = .next
      (judgeChannel (edgeCounted s n (pinsJumped (s.phases.get n)) (illegalEdge (s.channels.get n))) n) :=
  congrArg Host.Outcome.next (feedbackEdge_illegal (judgeEdge_pinsJumped _))

/-! ### The counted channel -/

/-- The counter after a step toward `d`. -/
def steppedCounter (counter : Int) (d : Direction) : Int := max (-1024) (min 5119 (counter + if d = .open then 1 else -1))

/-- A move record after a legal edge toward `d`. -/
def steppedMove (d : Direction) (m : MoveRecord) : MoveRecord :=
  match m.direction with
  | some drive => { m with stall := 0, against := if d = drive then m.against else min 255 (m.against + 1) }
  | none => m

theorem steppedMove_driving {d drive : Direction} {m : MoveRecord} (h : m.direction = some drive) : steppedMove d m =
    { m with stall := 0, against := if d = drive then m.against else min 255 (m.against + 1) } := by
  unfold steppedMove
  rw [h]

theorem legalEdge_eq (c : Channel) (d : Direction) :
    legalEdge c d = { c with counter := steppedCounter c.counter d, move := c.move.map (steppedMove d) } := by
  have counter := legalEdge_counter c d
  have move : (legalEdge c d).move = c.move.map (steppedMove d) := by
    refine congrArg (c.move.map ·) (funext fun m => ?_)
    obtain ⟨kind, _ | drive, stall, limit, against, illegal⟩ := m
    · rfl
    · simp only [steppedMove, bump_eq_min, eq_comm (a := d)]
  calc legalEdge c d = { c with counter := (legalEdge c d).counter, move := (legalEdge c d).move } := rfl
    _ = _ := by rw [counter, move]; rfl

theorem illegalEdge_eq (c : Channel) : illegalEdge c = { c with
    illegalTotal := min 65535 (c.illegalTotal + 1)
    move := c.move.map fun m => { m with illegal := min 255 (m.illegal + 1) } } := by
  simp only [illegalEdge, bump_eq_min]

/-! ### The judgments -/

section

variable {s : State} {n : Fin 12} {c : Channel}

theorem judgeChannel_driving {m : MoveRecord} (channel : s.channels.get n = c)
    (drives : c.state = .drivingOpen ∨ c.state = .drivingClose) (move : c.move = some m) : judgeChannel s n =
    if 4 ≤ m.illegal then feedbackError s n 1 m.illegal
    else if 9 ≤ m.against then feedbackError s n 3 m.against
    else if arrived c then settle s n
    else s := by
  unfold judgeChannel
  rcases drives with state | state <;> simp only [channel, state, move]

theorem judgeChannel_resting (channel : s.channels.get n = c)
    (rests : c.state = .idle ∨ c.state = .queued ∧ (entryOf s n).map (·.kind) = some .move)
    (used : channelInUse s n = true) : judgeChannel s n =
    if 16 < (c.counter - c.rest).natAbs then
      requestCalibration (report s ⟨.feedbackError, n.val + 1, 2, c.counter - c.rest, none⟩) n false
    else s := by
  unfold judgeChannel
  rcases rests with state | ⟨state, kind⟩
  · simp [channel, state, used, drifted, channelItem]
  · have waits : queuedFor s n .move = true := queuedFor_iff.2 ⟨by rw [channel, state], kind⟩
    simp [channel, state, used, waits, drifted, channelItem]

/-- Out of use and not driving a move, or in a state without a judgment. -/
theorem judgeChannel_still (channel : s.channels.get n = c)
    (still : channelInUse s n = false ∧ c.state ≠ .drivingOpen ∧ c.state ≠ .drivingClose ∨ c.state = .uncalibrated ∨
      c.state = .queued ∧ (entryOf s n).map (·.kind) = some .calibrate ∨ c.state = .reversing ∨ c.state = .settling ∨
      c.state = .calClose ∨ c.state = .calOpen ∨ c.state = .disabled) : judgeChannel s n = s := by
  unfold judgeChannel
  rcases still with ⟨unused, noOpen, noClose⟩ | state | ⟨state, kind⟩ | state | state | state | state | state
  case inr.inr.inl =>
    have other : queuedFor s n .move = false := by
      rw [Bool.eq_false_iff, Ne, queuedFor_iff, kind]
      exact fun ⟨_, move⟩ => by cases move
    simp [channel, state, other]
  case inl =>
    cases state : c.state with
    | drivingOpen => exact absurd state noOpen
    | drivingClose => exact absurd state noClose
    | _ => simp [channel, state, unused]
  all_goals simp only [channel, state]

/-- A move that FEEDBACK_ERROR ends (R120): dropped with its record made, and a calibration requested. -/
theorem feedbackError_fails (channel : s.channels.get n = c) (entry : entryOf s n = none) (cause : Int) (count : Nat) :
    ∃ u, feedbackError s n cause count = requestCalibration u n false ∧ DriveFrame s u ∧
      u.channels.get n = { c with state := .idle, move := none, wait := none } ∧ slotOf u n = none ∧
      Noted s.recorder .feedbackError (n.val + 1) cause count u.recorder := by
  have ended := reportedDrop_ended ⟨.feedbackError, channelItem n, cause, count, none⟩ entry
  refine ⟨_, rfl, (report_frame s _).drive.trans ended.frame.drive, ?_, ended.slot, ?_⟩
  · exact ended.channel.trans (by rw [channel])
  · rw [show (dropMove _ n).recorder = _ from ended.frame.recorder]
    exact report_noted s .feedbackError (n.val + 1) cause count

theorem settle_channel (channel : s.channels.get n = c) : (settle s n).channels.get n =
    { c with state := .settling, move := c.move.map driveOff, wait := some 300 } := by
  rw [settle, putChannel_get_self, channel]

theorem arrived_iff {drive : Direction} {target : Nat} (state : c.state = drivingState drive) (live : c.live = some target) :
    arrived c = true ↔ if drive = .open then (target : Int) ≤ c.counter else c.counter ≤ target := by
  unfold arrived
  cases drive <;> simp [state, live, drivingState]

end

end Sys2Proof.Machine
end

section
/-! FEEDBACK_EDGE, judged (R110, R114, R120, R121). -/

namespace Sys2Proof.Machine

open Sys2Proof

/-- The outcome of an edge that ends a move with FEEDBACK_ERROR: dropped at its counter with its rest position kept
(assumption 19), and a calibration requested. -/
def MoveFailed (s : State) (n : Fin 12) (p : PhasePair) (outcome : Host.Outcome State Fault Refusal) (counter rest cause : Int)
    (count : Nat) : Prop :=
  ∃ u, outcome = .next (requestCalibration u n false) ∧ DriveFrame { s with phases := s.phases.set n p } u ∧
    (u.channels.get n).state = .idle ∧ (u.channels.get n).move = none ∧ (u.channels.get n).counter = counter ∧
    (u.channels.get n).rest = rest ∧ slotOf u n = none ∧
    (u.recorder.kinds.get (kindIndex .feedbackError)).status = true ∧
    (s.recorder.pointer = none ∧ (s.recorder.kinds.get (kindIndex .feedbackError)).masked = false →
      u.recorder.record.map (fun e => (e.item, e.first, e.second)) = some (n.val + 1, cause, (count : Int)))

/-- The outcome of an edge that brings a move to its target: it settles for 300 ms with the drive off. -/
def MoveSettles (s : State) (n : Fin 12) (p : PhasePair) (outcome : Host.Outcome State Fault Refusal) (after : Channel) :
    Prop :=
  ∃ t, outcome = .next t ∧ DriveFrame { s with phases := s.phases.set n p } t ∧ t.arbiter = s.arbiter ∧
    t.recorder = s.recorder ∧ t.channels.get n = { after with
      state := .settling
      move := after.move.map driveOff
      wait := some 300 } ∧
    driveOpen (t.channels.get n) = false ∧ driveClose (t.channels.get n) = false

section

variable {s : State} {n : Fin 12} {p : PhasePair} {after : Channel} {outcome : Host.Outcome State Fault Refusal}
  {m : MoveRecord} {drive : Direction} {target : Nat}

theorem edge_fails {cause : Int} {count : Nat} (entry : entryOf s n = none)
    (h : outcome = .next (feedbackError (edgeCounted s n p after) n cause count)) :
    MoveFailed s n p outcome after.counter after.rest cause count := by
  obtain ⟨u, result, frame, channel, slot, noted⟩ :=
    feedbackError_fails (edgeCounted_channel s n p after) (show entryOf (edgeCounted s n p after) n = none from entry)
      cause count
  refine ⟨u, h.trans (congrArg _ result), (edgeCounted_frame s n p after).trans frame, ?_, ?_, ?_, ?_, slot, ?_, ?_⟩
  · rw [channel]
  · rw [channel]
  · rw [channel]
  · rw [channel]
  · obtain ⟨status, -⟩ := noted
    exact status
  · exact fun ⟨empty, unmasked⟩ => noted.values empty unmasked

theorem edge_settles (h : outcome = .next (settle (edgeCounted s n p after) n)) : MoveSettles s n p outcome after := by
  have channel := settle_channel (edgeCounted_channel s n p after)
  refine ⟨_, h, (edgeCounted_frame s n p after).trans (settle_frame _ n), rfl, rfl, channel, ?_, ?_⟩
  · rw [channel]; rfl
  · rw [channel]; rfl

/-! ### In a driving move, by its counts and its counter (assumption 18) -/

/-- The judgment of a move that drives toward its target. -/
theorem judge_driving (drives : after.state = drivingState drive) (move : after.move = some m)
    (live : after.live = some target) : judgeChannel (edgeCounted s n p after) n =
      if 4 ≤ m.illegal then feedbackError (edgeCounted s n p after) n 1 m.illegal
      else if 9 ≤ m.against then feedbackError (edgeCounted s n p after) n 3 m.against
      else if (if drive = .open then (target : Int) ≤ after.counter else after.counter ≤ target) then
        settle (edgeCounted s n p after) n
      else edgeCounted s n p after := by
  have state : after.state = .drivingOpen ∨ after.state = .drivingClose := by
    cases drive
    · exact .inl drives
    · exact .inr drives
  rw [judgeChannel_driving (edgeCounted_channel s n p after) state move]
  simp only [arrived_iff drives live]

variable (drives : after.state = drivingState drive) (move : after.move = some m) (live : after.live = some target)
  (h : outcome = .next (judgeChannel (edgeCounted s n p after) n))

include drives move live h

theorem driving_illegal (entry : entryOf s n = none) (many : 4 ≤ m.illegal) :
    MoveFailed s n p outcome after.counter after.rest 1 m.illegal := by
  rw [judge_driving drives move live, if_pos many] at h
  exact edge_fails entry h

theorem driving_against (entry : entryOf s n = none) (few : m.illegal < 4) (many : 9 ≤ m.against) :
    MoveFailed s n p outcome after.counter after.rest 3 m.against := by
  rw [judge_driving drives move live, if_neg (by omega), if_pos many] at h
  exact edge_fails entry h

theorem driving_arrives (few : m.illegal < 4) (along : m.against < 9)
    (reached : if drive = .open then (target : Int) ≤ after.counter else after.counter ≤ target) :
    MoveSettles s n p outcome after := by
  rw [judge_driving drives move live, if_neg (by omega), if_neg (by omega), if_pos reached] at h
  exact edge_settles h

theorem driving_goesOn (few : m.illegal < 4) (along : m.against < 9)
    (short : ¬ if drive = .open then (target : Int) ≤ after.counter else after.counter ≤ target) :
    outcome = .next (edgeCounted s n p after) := by
  rwa [judge_driving drives move live, if_neg (by omega), if_neg (by omega), if_neg short] at h

omit drives move live

/-! ### At rest, by the drift (R121) -/

section

variable (rests : after.state = .idle ∨ after.state = .queued ∧ (entryOf s n).map (·.kind) = some .move)
  (used : channelInUse s n = true)

include rests used

theorem resting_drifts (far : 16 < (after.counter - after.rest).natAbs) : outcome = .next (requestCalibration
    (report (edgeCounted s n p after) ⟨.feedbackError, n.val + 1, 2, after.counter - after.rest, none⟩) n false) := by
  rw [judgeChannel_resting (edgeCounted_channel s n p after) rests used, if_pos far] at h
  exact h

theorem resting_stands (near : (after.counter - after.rest).natAbs ≤ 16) : outcome = .next (edgeCounted s n p after) := by
  rw [judgeChannel_resting (edgeCounted_channel s n p after) rests used, if_neg (by omega)] at h
  exact h

end

/-! ### In the other states -/

theorem still_stands (still : channelInUse s n = false ∧ after.state ≠ .drivingOpen ∧ after.state ≠ .drivingClose ∨
      after.state = .uncalibrated ∨ after.state = .queued ∧ (entryOf s n).map (·.kind) = some .calibrate ∨
      after.state = .reversing ∨ after.state = .settling ∨ after.state = .calClose ∨ after.state = .calOpen ∨
      after.state = .disabled) : outcome = .next (edgeCounted s n p after) := by
  rw [judgeChannel_still (edgeCounted_channel s n p after) still] at h
  exact h

end

theorem legalEdge_of_no_move {c : Channel} (d : Direction) (h : c.move = none) :
    legalEdge c d = { c with counter := steppedCounter c.counter d } := by
  rw [legalEdge_eq, h]
  rfl

theorem illegalEdge_of_no_move {c : Channel} (h : c.move = none) :
    illegalEdge c = { c with illegalTotal := min 65535 (c.illegalTotal + 1) } := by
  rw [illegalEdge_eq, h]
  rfl

theorem legalEdge_driving {c : Channel} {d drive : Direction} {m : MoveRecord} (move : c.move = some m)
    (direction : m.direction = some drive) : legalEdge c d = { c with
      counter := steppedCounter c.counter d
      move := some { m with stall := 0, against := if d = drive then m.against else min 255 (m.against + 1) } } := by
  rw [legalEdge_eq, move, Option.map_some, steppedMove_driving direction]

theorem illegalEdge_driving {c : Channel} {m : MoveRecord} (move : c.move = some m) : illegalEdge c = { c with
    illegalTotal := min 65535 (c.illegalTotal + 1)
    move := some { m with illegal := min 255 (m.illegal + 1) } } := by
  rw [illegalEdge_eq, move, Option.map_some]

end Sys2Proof.Machine

open Sys2Proof Sys2Proof.Machine

/-- Settles O43: the edge is counted, and the counted channel judged by its state. -/
theorem edgesJudgedByTheChannel : Obligations.EdgesJudgedByTheChannel := by
  intro s n d pins c unmasked legal illegal seen moved failed settles reached
  have step := exec_step s n d
  have jump := exec_jump s n
  refine ⟨fun m drive target state move direction live entry => ?_, fun rests used noMove => ?_, fun still => ?_⟩
  · intro against after many jumped
    have drives : c.state = drivingState drive := by
      rw [state]
      cases drive <;> rfl
    rw [legalEdge_driving move direction] at step
    rw [illegalEdge_driving move] at jump
    have stepped (few : m.illegal < 4) := driving_goesOn (after := after)
      (m := { m with stall := 0, against := against }) drives rfl live step few
    refine ⟨fun four => ?_, fun few nine => ?_, fun few along there => ?_, stepped, fun three => ?_,
      fun few along short => ?_⟩
    · exact driving_illegal (after := after) (m := { m with stall := 0, against := against }) drives rfl live step entry four
    · exact driving_against (after := after) (m := { m with stall := 0, against := against }) drives rfl live step entry few
        nine
    · exact driving_arrives (after := after) (m := { m with stall := 0, against := against }) drives rfl live step few along
        there
    · exact driving_illegal (after := jumped) (m := { m with illegal := many }) drives rfl live jump entry
        (show 4 ≤ min 255 (m.illegal + 1) by omega)
    · exact driving_goesOn (after := jumped) (m := { m with illegal := many }) drives rfl live jump
        (show min 255 (m.illegal + 1) < 4 by omega) along short
  · rw [legalEdge_of_no_move d noMove] at step
    rw [illegalEdge_of_no_move noMove] at jump
    exact ⟨resting_drifts (after := { c with counter := moved }) step rests used,
      resting_stands (after := { c with counter := moved }) step rests used,
      resting_stands (after := { c with illegalTotal := min 65535 (c.illegalTotal + 1) }) jump rests used⟩
  · rw [legalEdge_eq] at step
    rw [illegalEdge_eq] at jump
    exact ⟨still_stands step still, still_stands jump still⟩

end

section
/-! How a stall, a time limit and a failed calibration end an operation (R117 to R119, R123 to R126). -/

namespace Sys2Proof.Machine

open Sys2Proof

/-! ### A channel when time has passed -/

/-- Time that passes leaves of a move record all but its stall timer and its limit. -/
theorem elapse_channel_move {s : State} {n : Fin 12} {m : MoveRecord} (d : Nat) (h : (s.channels.get n).move = some m) :
    ∃ stall limit wait, (elapse d s).channels.get n =
      { s.channels.get n with move := some { m with stall := stall, limit := limit }, wait := wait } := by
  obtain ⟨move, wait, channel, same, -⟩ := elapse_channel s d n
  rw [h, Option.map_some, Option.map_eq_some_iff] at same
  obtain ⟨m', rfl, fields⟩ := same
  obtain ⟨kind, direction, against, illegal⟩ := by simpa only [Prod.mk.injEq] using fields
  refine ⟨m'.stall, m'.limit, wait, ?_⟩
  rw [channel, ← kind, ← direction, ← against, ← illegal]

theorem entryOf_elapse (d : Nat) (s : State) (n : Fin 12) : entryOf (elapse d s) n = entryOf s n := by
  rw [entryOf, elapse_arbiter]
  rfl

theorem driving_of_direction {c : Channel} {m : MoveRecord} {d : Direction} (move : c.move = some m)
    (direction : m.direction = some d) : driving c = true := by
  simp [driving, move, direction]

/-! ### What grants keep of every channel, with an entry or without -/

/-- Flag and blocked count of every channel stand. -/
def FlagsStand (s t : State) : Prop := ∀ n, (t.channels.get n).calibrated = (s.channels.get n).calibrated ∧
  (t.channels.get n).blocked = (s.channels.get n).blocked

theorem FlagsStand.trans {s t u : State} (h : FlagsStand s t) (k : FlagsStand t u) : FlagsStand s u := fun n => by
  obtain ⟨flag, blocked⟩ := h n
  obtain ⟨flag', blocked'⟩ := k n
  exact ⟨flag'.trans flag, blocked'.trans blocked⟩

theorem grantTo_flagsStand (s : State) (i : Fin 3) (e : DriveEntry) : FlagsStand s (grantTo s i e) := fun n => by
  by_cases own : e.channel = n
  · subst own
    unfold grantTo moveGranted
    dsimp only
    split
    · split
      · unfold startDrive; rw [putChannel_get_self]; exact ⟨rfl, rfl⟩
      · dsimp only; rw [putChannel_get_self]; exact ⟨rfl, rfl⟩
    · unfold calibrationGranted; rw [putChannel_get_self]; exact ⟨rfl, rfl⟩
  · obtain ⟨same, -⟩ := grantTo_other s i e own
    rw [same]
    exact ⟨rfl, rfl⟩

theorem grantLoop_flagsStand : ∀ (fuel : Nat) (s : State), FlagsStand s (grantLoop fuel s)
  | 0, _ => fun _ => ⟨rfl, rfl⟩
  | fuel + 1, s => by
    unfold grantLoop
    split
    · exact (grantTo_flagsStand s _ _).trans (grantLoop_flagsStand fuel _)
    · exact fun _ => ⟨rfl, rfl⟩

theorem freeSlot_flagsStand (s : State) (n : Fin 12) : FlagsStand s (freeSlot s n) :=
  grantLoop_flagsStand _ { s with arbiter := released s.arbiter n }

theorem freeSlot_countersStand (s : State) (n : Fin 12) : CountersStand s (freeSlot s n) :=
  grants_countersStand { s with arbiter := released s.arbiter n }

/-! ### Stalls -/

section

variable {s : State} {n : Fin 12} {c : Channel}

theorem nearSeat_iff {stroke : Nat} (h : c.stroke = some stroke) :
    nearSeat c = true ↔ c.counter ≤ ((stroke / 16 : Nat) : Int) := by
  unfold nearSeat
  rw [h]
  exact decide_eq_true_iff

theorem liveValue_eq (c : Channel) : liveValue c = c.live.elim (-32768) fun x => (x : Int) := by
  unfold liveValue
  cases c.live <;> rfl

variable (channel : s.channels.get n = c)

include channel

theorem stallTaken_seat (state : c.state = .drivingClose) (near : nearSeat c = true) : stallTaken s n = seatFound s n := by
  simp [stallTaken, channel, state, near]

theorem stallTaken_blocked (h : c.state = .drivingOpen ∨ c.state = .drivingClose ∧ nearSeat c = false) :
    stallTaken s n = blockedStall s n := by
  rcases h with state | ⟨state, far⟩
  · simp [stallTaken, channel, state]
  · simp [stallTaken, channel, state, far]

theorem stallTaken_calClose (state : c.state = .calClose) : stallTaken s n = calibrationSeat s n := by
  simp [stallTaken, channel, state]

theorem stallTaken_calOpen (state : c.state = .calOpen) : stallTaken s n = calibrationStroke s n := by
  simp [stallTaken, channel, state]

theorem seatFound_channel : (seatFound s n).channels.get n = { c with
    state := .settling
    counter := 0
    seatError := some c.counter
    move := c.move.map driveOff
    wait := some 300 } := by
  unfold seatFound
  rw [settle_channel (c := { c with seatError := some c.counter, counter := 0 })]
  rw [channel]
  exact Tab.get_set_self _ _ _

omit channel in
theorem seatFound_other {k : Fin 12} (other : k ≠ n) : (seatFound s n).channels.get k = s.channels.get k := by
  unfold seatFound settle
  rw [putChannel_get_ne _ _ other.symm]
  exact Tab.get_set_ne _ _ other.symm

/-- The record of a blocked stall. -/
def blockedEvent (n : Fin 12) (c : Channel) : FaultEvent := ⟨.stallBlocked, channelItem n, c.counter, liveValue c, none⟩

/-- The first blocked stall: the channel comes to rest with blocked count 1, and a remembered calibration is requested. -/
theorem blockedStall_first (first : c.blocked = 0) (entry : entryOf s n = none) : ∃ t,
    blockedStall s n = (if c.remembered then requestCalibration t n false else t) ∧
    Ended (report s (blockedEvent n c)) n
      { c with state := .idle, move := none, wait := none, rest := c.counter, blocked := 1 } t := by
  refine ⟨_, ?_, reportedFree_ended _ _ entry⟩
  unfold blockedStall
  simp only [channel, first, if_true]
  rfl

/-- The second one in a row: the channel is disabled at its counter, whatever the freed slot has brought about. -/
theorem blockedStall_second (second : c.blocked ≠ 0) : ∃ c', Ended (report s (blockedEvent n c)) n c' (blockedStall s n) ∧
    c'.state = .disabled ∧ c'.move = none ∧ c'.live = none ∧ c'.remembered = false ∧ c'.blocked = 0 ∧
    c'.rest = c.counter ∧ c'.counter = c.counter ∧ c'.calibrated = c.calibrated := by
  let x := putChannel (report s (blockedEvent n c)) n
    { c with state := .idle, move := none, wait := none, rest := c.counter, blocked := 0 }
  have own : x.channels.get n = { c with state := .idle, move := none, wait := none, rest := c.counter, blocked := 0 } :=
    putChannel_get_self _ n _
  have result : blockedStall s n = disable (freeSlot x n) n := by
    unfold blockedStall
    simp only [channel, if_neg second]
    rfl
  have ended := (disable_ended (freeSlot x n) n).after
    ((putChannel_grantFrame _ n _).trans ((arbiter_grantFrame x _).trans (grants_grantFrame _)))
  rw [← result] at ended
  obtain ⟨counter, rest⟩ := freeSlot_countersStand x n n
  obtain ⟨flag, blocked⟩ := freeSlot_flagsStand x n n
  rw [own] at counter rest flag blocked
  exact ⟨_, ended, rfl, rfl, rfl, rfl, blocked, rest.elim id (·.trans counter), counter, flag⟩

theorem calibrationSeat_channel : (calibrationSeat s n).channels.get n = { c with
    state := .calOpen
    seatError := some c.counter
    counter := 0
    move := c.move.map driveOff
    wait := some 200 } := by
  unfold calibrationSeat
  rw [putChannel_get_self, channel]

theorem calibrationStroke_accepted (accepted : strokeAccepted s n c.counter = true) :
    calibrationStroke s n = putChannel s n { c with
      state := .settling
      stroke := some c.counter.toNat
      calibrated := true
      blocked := 0
      move := c.move.map driveOff
      wait := some 300 } := by
  unfold calibrationStroke
  simp only [channel, accepted, if_true]

theorem calibrationStroke_failed (failed : strokeAccepted s n c.counter = false) :
    calibrationStroke s n = failCalibration s n 3 := by
  unfold calibrationStroke
  simp only [channel, failed, Bool.false_eq_true, if_false]

/-! ### Time limits and failures -/

/-- A failed calibration leaves a disabled channel with its record made (R125, R126). -/
theorem failCalibration_ended (cause : Int) : Ended (report s ⟨.calibrationFailed, channelItem n, cause, c.counter, none⟩) n
    { c with state := .disabled, move := none, wait := none, remembered := false, live := none }
    (failCalibration s n cause) := by
  have ended := disable_ended (report s ⟨.calibrationFailed, channelItem n, cause, c.counter, none⟩) n
  rw [report_channels, channel] at ended
  unfold failCalibration
  rw [channel]
  exact ended

/-- A move that has timed out is dropped, and a calibration requested (R119). -/
theorem timeoutTaken_ended (entry : entryOf s n = none) : ∃ t, timeoutTaken s n = requestCalibration t n false ∧
    Ended (report s ⟨.moveTimeout, channelItem n, c.counter, liveValue c, none⟩) n
      { c with state := .idle, move := none, wait := none } t := by
  have ended := reportedDrop_ended ⟨.moveTimeout, channelItem n, c.counter, liveValue c, none⟩ entry
  rw [channel] at ended
  refine ⟨_, ?_, ended⟩
  unfold timeoutTaken
  simp only [channel]

end

/-! ### The recorder -/

/-- The end of an operation that has been reported leaves its fault noted. -/
theorem Ended.noted {s t : State} {n : Fin 12} {c : Channel} {k : FaultKind} {item : Nat} {first second : Int}
    (h : Ended (report s ⟨k, item, first, second, none⟩) n c t) : Noted s.recorder k item first second t.recorder := by
  rw [h.frame.recorder]
  exact report_noted s k item first second

theorem Ended.reported {s t : State} {n : Fin 12} {c : Channel} {e : FaultEvent} (h : Ended (report s e) n c t) :
    DriveFrame s t := (report_frame s e).drive.trans h.frame.drive

end Sys2Proof.Machine
end

section
/-! STALL, MOVE_TIMEOUT and PHASE_LIMIT_EXPIRY (R117 to R119, R123 to R126). -/

namespace Sys2Proof.Machine

open Sys2Proof

section

variable {s : State} {n : Fin 12} {m : MoveRecord} {d : Direction}

theorem exec_stall (move : (s.channels.get n).move = some m) (direction : m.direction = some d) :
    exec (.stall n) s = .next (stallTaken (elapse (400 - m.stall) s) n) := by
  have left : stallLeft s n = 400 - m.stall := by
    unfold stallLeft
    rw [move]
  change execStall n s = _
  rw [execStall, if_pos (driving_of_direction move direction), left]

theorem exec_moveTimeout (drives : (s.channels.get n).state = .drivingOpen ∨ (s.channels.get n).state = .drivingClose) :
    exec (.moveTimeout n) s = .next (timeoutTaken (elapse (limitLeft s n) s) n) :=
  congrArg Host.Outcome.next (if_pos (by rcases drives with state | state <;> simp [moveDriving, state]))

theorem exec_phaseLimitExpiry (move : (s.channels.get n).move = some m) (direction : m.direction = some d)
    (calibrates : (s.channels.get n).state = .calClose ∨ (s.channels.get n).state = .calOpen) :
    exec (.phaseLimitExpiry n) s = .next (failCalibration (elapse (limitLeft s n) s) n
      (if (s.channels.get n).state = .calClose then 1 else 2)) := by
  have cause : phaseCause (s.channels.get n) = some (if (s.channels.get n).state = .calClose then 1 else 2) := by
    rw [phaseCause, if_pos (driving_of_direction move direction)]
    rcases calibrates with state | state <;> rw [state] <;> rfl
  change execPhaseLimitExpiry n s = _
  rw [execPhaseLimitExpiry, cause]

/-! ### The judgment of a stroke (R124, R169) -/

theorem strokeAccepted_normal {l : Loop} {count : Int} (normal : s.loader.state = .normal) (loop : s.loops.get n = some l) :
    strokeAccepted s n count = true ↔ 200 ≤ count ∧ count ≤ 4000 ∧
      ((l.info.expectedStroke * 900 / 1000 : Nat) : Int) ≤ count ∧
      count ≤ ((l.info.expectedStroke * 1100 / 1000 : Nat) : Int) := by
  simp [strokeAccepted, expectedStroke, normal, loop, and_assoc]

theorem strokeAccepted_fallback {count : Int} (fallback : s.loader.state = .fallback) :
    strokeAccepted s n count = true ↔ 200 ≤ count ∧ count ≤ 1900 := by
  simp only [strokeAccepted, fallback, if_true, Bool.and_eq_true, decide_eq_true_iff]
  omega

theorem expectedStroke_eq (s : State) (n : Fin 12) : expectedStroke s n =
    if s.loader.state = .normal then ((s.loops.get n).map (·.info)).elim 1000 (·.expectedStroke) else 1000 := by
  unfold expectedStroke
  cases s.loader.state <;> cases s.loops.get n <;> rfl

theorem expectedStroke_elapse (d : Nat) (s : State) (n : Fin 12) : expectedStroke (elapse d s) n = expectedStroke s n := by
  have info : ((elapse d s).loops.get n).map (·.info) = (s.loops.get n).map (·.info) := by
    simpa [Function.comp_def] using congrArg (Option.map Prod.fst) (elapse_loop s d n)
  rw [expectedStroke_eq, expectedStroke_eq, elapse_loader, info]

theorem strokeAccepted_elapse (d : Nat) (s : State) (n : Fin 12) (count : Int) :
    strokeAccepted (elapse d s) n count = strokeAccepted s n count := by
  rw [strokeAccepted, expectedStroke_elapse, elapse_loader]
  rfl

end

end Sys2Proof.Machine

open Sys2Proof Sys2Proof.Machine

/-- Settles O44: the stall finds the seat or is blocked, and a blocked one ends the move or disables the channel. -/
theorem stallInAMove : Obligations.StallInAMove := by
  intro s n m d stroke move direction hasStroke u c recorded
  obtain ⟨stall, limit, wait, channel⟩ := elapse_channel_move (400 - m.stall) move
  have taken := exec_stall move direction
  have near := nearSeat_iff (c := u.channels.get n) (by rw [channel]; exact hasStroke)
  rw [channel] at near
  have blocked (h : c.state = .drivingOpen ∨ c.state = .drivingClose ∧ ((stroke / 16 : Nat) : Int) < c.counter) :
      stallTaken u n = blockedStall u n := by
    refine stallTaken_blocked channel (h.imp_right fun ⟨state, far⟩ => ⟨state, ?_⟩)
    rw [Bool.eq_false_iff, Ne, near]
    exact Int.not_le.2 far
  have noted {c' : Channel} {t : State} (h : Ended (report u ⟨.stallBlocked, n.val + 1, c.counter,
      c.live.elim (-32768) fun x => (x : Int), none⟩) n c' t) : recorded t := by
    have made := h.noted
    rw [elapse_recorder] at made
    exact made
  refine ⟨fun state close => ?_, fun h first entry => ?_, fun h second => ?_⟩
  · rw [stallTaken_seat channel state (near.2 close)] at taken
    have seat := seatFound_channel channel
    refine ⟨_, taken, seatFound_frame u n, elapse_recorder _ _, elapse_arbiter _ _, ?_⟩
    rw [seat]
    exact ⟨rfl, rfl, rfl, rfl, rfl, fun k other => seatFound_other other⟩
  · obtain ⟨t, result, ended⟩ := blockedStall_first channel first ((entryOf_elapse _ s n).trans entry)
    rw [blocked h, result] at taken
    refine ⟨t, taken, ended.reported, ?_⟩
    rw [blockedEvent, liveValue_eq] at ended
    rw [ended.channel]
    exact ⟨rfl, rfl, rfl, rfl, rfl, rfl, noted ended⟩
  · obtain ⟨c', ended, state, noMove, noLive, forgotten, zero, rest, counter, flag⟩ := blockedStall_second channel second
    rw [blocked h] at taken
    refine ⟨_, taken, ended.reported, ?_⟩
    rw [blockedEvent, liveValue_eq] at ended
    rw [ended.channel]
    exact ⟨state, noMove, noLive, forgotten, zero, rest, counter, flag, ended.slot, noted ended⟩

/-- Settles O45: the stall ends the phase, and the counted stroke is accepted or fails the calibration. -/
theorem stallInACalibration : Obligations.StallInACalibration := by
  intro s n m d move direction u c accepted failed
  obtain ⟨stall, limit, wait, channel⟩ := elapse_channel_move (400 - m.stall) move
  have taken := exec_stall move direction
  have accepts (state : c.state = .calOpen) (h : strokeAccepted s n c.counter = true) : accepted := by
    rw [stallTaken_calOpen channel state,
      calibrationStroke_accepted channel ((strokeAccepted_elapse _ s n _).trans h)] at taken
    refine ⟨_, taken, putChannel_frame _ n _, elapse_recorder _ _, ?_⟩
    rw [putChannel_get_self]
    exact ⟨rfl, rfl, rfl, rfl, rfl, rfl⟩
  have fails (state : c.state = .calOpen) (h : strokeAccepted s n c.counter ≠ true) : failed := by
    rw [stallTaken_calOpen channel state,
      calibrationStroke_failed channel ((strokeAccepted_elapse _ s n _).trans (Bool.eq_false_iff.2 h))] at taken
    have ended := failCalibration_ended channel 3
    have noted := ended.noted
    rw [elapse_recorder] at noted
    refine ⟨_, taken, ended.reported, ?_⟩
    rw [ended.channel]
    exact ⟨rfl, rfl, rfl, rfl, rfl, rfl, rfl, ended.slot, noted⟩
  refine ⟨fun state => ?_, fun l state normal loop low high above below => accepts state ?_,
    fun l state normal loop out => fails state ?_, fun state fallback low high => accepts state ?_,
    fun state fallback out => fails state ?_⟩
  · rw [stallTaken_calClose channel state] at taken
    have seat := calibrationSeat_channel channel
    refine ⟨_, taken, putChannel_frame _ n _, elapse_recorder _ _, ?_⟩
    rw [seat]
    exact ⟨rfl, rfl, rfl, rfl, rfl, rfl⟩
  · exact (strokeAccepted_normal normal loop).2 ⟨low, high, above, below⟩
  · rw [Ne, strokeAccepted_normal normal loop]
    omega
  · exact (strokeAccepted_fallback fallback).2 ⟨low, high⟩
  · rw [Ne, strokeAccepted_fallback fallback]
    omega

/-- Settles O46: the time limit reports, and drops the move or disables the channel. -/
theorem timeLimitsEndTheOperation : Obligations.TimeLimitsEndTheOperation := by
  refine ⟨fun s n drives entry => ?_, fun s n m d calibrates move direction => ?_⟩
  · intro c
    obtain ⟨move, wait, channel, -, -⟩ := elapse_channel s (limitLeft s n) n
    obtain ⟨u, result, ended⟩ := timeoutTaken_ended channel ((entryOf_elapse _ s n).trans entry)
    have noted := ended.noted
    rw [elapse_recorder, liveValue_eq] at noted
    refine ⟨u, (exec_moveTimeout drives).trans (congrArg _ result), ended.reported, ?_⟩
    rw [ended.channel]
    exact ⟨rfl, rfl, rfl, rfl, rfl, rfl, ended.slot, noted⟩
  · intro c
    obtain ⟨stall, limit, wait, channel⟩ := elapse_channel_move (limitLeft s n) move
    have ended := failCalibration_ended channel (if c.state = .calClose then 1 else 2)
    have noted := ended.noted
    rw [elapse_recorder] at noted
    refine ⟨_, exec_phaseLimitExpiry move direction calibrates, ended.reported, ?_⟩
    rw [ended.channel]
    exact ⟨rfl, rfl, rfl, rfl, rfl, rfl, rfl, ended.slot, noted⟩

end

section
/-! SETTLING_END, CALIBRATION_SETTLING_END, REVERSING_END and CAL_OPEN_DEAD_INTERVAL_END (R112, R114, R116, R124). -/

namespace Sys2Proof.Machine

open Sys2Proof

section

variable {s : State} {n : Fin 12} {c : Channel}

/-- The comparison of R112 at an IDLE channel. -/
theorem compareTarget_idle (channel : s.channels.get n = c) (idle : c.state = .idle) :
    compareTarget s n = if aim c = none then s else requestMove s n := by
  unfold compareTarget
  cases target : aim c <;> simp [channel, idle, target]

/-- A move completes: the channel is at rest at its counter with its slot free, and what was remembered or lies ahead is
requested. -/
theorem moveCompleted_ended (channel : s.channels.get n = c) (entry : entryOf s n = none) : ∃ t, moveCompleted s n =
      (if c.remembered then requestCalibration t n false else if aim c = none then t else requestMove t n) ∧
    Ended s n { c with state := .idle, move := none, wait := none, rest := c.counter, blocked := 0 } t := by
  have ended := putFree_ended { c with state := .idle, move := none, wait := none, rest := c.counter, blocked := 0 } entry
  refine ⟨_, ?_, ended⟩
  unfold moveCompleted
  simp only [channel, compareTarget_idle ended.channel rfl]
  rfl

theorem calibrationCompleted_ended (channel : s.channels.get n = c) (entry : entryOf s n = none) : ∃ t,
    calibrationCompleted s n = (if aim c = none then t else requestMove t n) ∧
    Ended s n { c with state := .idle, move := none, wait := none, rest := c.counter } t := by
  have ended := putFree_ended { c with state := .idle, move := none, wait := none, rest := c.counter } entry
  refine ⟨_, ?_, ended⟩
  unfold calibrationCompleted
  simp only [channel, compareTarget_idle ended.channel rfl]
  rfl

/-- The channel that a reversed move drives again, toward a target within its travel. -/
def drivenAgain (s : State) (c : Channel) (m : MoveRecord) (target : Nat) (d : Direction) : Channel := { c with
  state := drivingState d
  move := some { m with
    direction := some d
    stall := 0
    limit := some (2 * (c.counter - target).natAbs * s.config.countTime + 2000)
    against := 0 }
  wait := none }

theorem reversingEnded_drives {m : MoveRecord} {d : Direction} {target : Nat} (channel : s.channels.get n = c)
    (move : c.move = some m) (live : c.live = some target) (ahead : aim c = some d) :
    reversingEnded s n = putChannel s n (drivenAgain s c m target d) := by
  have limit : moveLimit s c = 2 * (c.counter - target).natAbs * s.config.countTime + 2000 := by rw [moveLimit, live]
  unfold reversingEnded startDrive
  simp only [channel, move, ahead, limit]
  rfl

theorem reversingEnded_arrives (channel : s.channels.get n = c) (there : aim c = none) :
    reversingEnded s n = putChannel s n { c with state := .settling, move := c.move.map driveOff, wait := some 300 } := by
  unfold reversingEnded settle
  simp only [channel, there]

theorem calOpenDriven_eq {m : MoveRecord} (channel : s.channels.get n = c) (move : c.move = some m) :
    calOpenDriven s n = putChannel s n { c with
      move := some { m with direction := some .open, stall := 0, limit := some (phaseLimit s n), against := 0 }
      wait := none } := by
  unfold calOpenDriven
  simp only [channel, move, Option.map_some]

end

/-! ### The commands -/

section

variable {s : State} {n : Fin 12} {m : MoveRecord}

theorem exec_settlingEnd (state : (s.channels.get n).state = .settling) (move : (s.channels.get n).move = some m)
    (kind : m.kind = .move) : exec (.settlingEnd n) s = .next (moveCompleted (elapse (waitLeft s n) s) n) :=
  congrArg Host.Outcome.next (if_pos (by simp [settlingOf, state, move, kind]))

theorem exec_calibrationSettlingEnd (state : (s.channels.get n).state = .settling)
    (move : (s.channels.get n).move = some m) (kind : m.kind = .calibrate) :
    exec (.calibrationSettlingEnd n) s = .next (calibrationCompleted (elapse (waitLeft s n) s) n) :=
  congrArg Host.Outcome.next (if_pos (by simp [settlingOf, state, move, kind]))

theorem exec_reversingEnd (state : (s.channels.get n).state = .reversing) :
    exec (.reversingEnd n) s = .next (reversingEnded (elapse (waitLeft s n) s) n) :=
  congrArg Host.Outcome.next (if_pos state)

theorem exec_calOpenDeadIntervalEnd (state : (s.channels.get n).state = .calOpen)
    (move : (s.channels.get n).move = some m) (off : m.direction = none) :
    exec (.calOpenDeadIntervalEnd n) s = .next (calOpenDriven (elapse (waitLeft s n) s) n) :=
  congrArg Host.Outcome.next (if_pos ⟨state, by simp [driving, move, off]⟩)

/-- A reversed move, put as its target lies. -/
theorem reversing_ends {target : Nat} (state : (s.channels.get n).state = .reversing)
    (move : (s.channels.get n).move = some m) (live : (s.channels.get n).live = some target) : ∃ c' : Channel,
    exec (.reversingEnd n) s = .next (putChannel (elapse (waitLeft s n) s) n c') ∧
    c'.counter = (s.channels.get n).counter ∧
    ((s.channels.get n).counter + 8 < target → c'.state = .drivingOpen ∧ c'.move = some { m with
      direction := some .open, stall := 0, against := 0,
      limit := some (2 * ((s.channels.get n).counter - target).natAbs * s.config.countTime + 2000) }) ∧
    ((target : Int) + 8 < (s.channels.get n).counter → c'.state = .drivingClose ∧ c'.move = some { m with
      direction := some .close, stall := 0, against := 0,
      limit := some (2 * ((s.channels.get n).counter - target).natAbs * s.config.countTime + 2000) }) ∧
    (((s.channels.get n).counter - target).natAbs ≤ 8 → c'.state = .settling ∧ c'.wait = some 300) := by
  obtain ⟨stall, limit, wait, channel⟩ := elapse_channel_move (waitLeft s n) move
  have ends := exec_reversingEnd state
  have drives {d : Direction} (ahead : aim (s.channels.get n) = some d) :=
    ends.trans (congrArg _ (reversingEnded_drives channel rfl live ahead))
  have arrives (there : aim (s.channels.get n) = none) :=
    ends.trans (congrArg _ (reversingEnded_arrives channel there))
  have config : (elapse (waitLeft s n) s).config = s.config := elapse_config _ _
  by_cases above : (s.channels.get n).counter + 8 < target
  · refine ⟨_, drives (aim_eq_open live above), rfl, fun _ => ⟨rfl, ?_⟩, fun below => ?_, fun near => ?_⟩
    · rw [drivenAgain, config]
    · omega
    · omega
  by_cases below : (target : Int) + 8 < (s.channels.get n).counter
  · refine ⟨_, drives (aim_eq_close live below), rfl, fun above => ?_, fun _ => ⟨rfl, ?_⟩, fun near => ?_⟩
    · omega
    · rw [drivenAgain, config]
    · omega
  · exact ⟨_, arrives (aim_eq_none live (by omega)), rfl, fun h => absurd h above, fun h => absurd h below,
      fun _ => ⟨rfl, rfl⟩⟩

end

end Sys2Proof.Machine
open Sys2Proof Sys2Proof.Machine

/-- Settles O47: the settled channel is at rest with its slot free, and a dead interval ends in a drive or an arrival. -/
theorem settlingsAndDeadIntervalsEnd : Obligations.SettlingsAndDeadIntervalsEnd := by
  refine ⟨fun s n m state move entry => ?_, fun s n m target state move live => ?_, fun s n m state move off => ?_⟩
  · intro u c
    obtain ⟨stall, limit, wait, channel⟩ := elapse_channel_move (waitLeft s n) move
    have entry := (entryOf_elapse (waitLeft s n) s n).trans entry
    refine ⟨fun kind => ?_, fun kind => ?_⟩
    · obtain ⟨t, result, ended⟩ := moveCompleted_ended channel entry
      refine ⟨t, (exec_settlingEnd state move kind).trans (congrArg _ result), ended.frame.drive,
        ended.frame.recorder.trans (elapse_recorder _ _), ?_⟩
      rw [ended.channel]
      exact ⟨rfl, rfl, rfl, rfl, rfl, rfl⟩
    · obtain ⟨t, result, ended⟩ := calibrationCompleted_ended channel entry
      refine ⟨t, (exec_calibrationSettlingEnd state move kind).trans (congrArg _ result), ended.frame.drive,
        ended.frame.recorder.trans (elapse_recorder _ _), ?_⟩
      rw [ended.channel]
      exact ⟨rfl, rfl, rfl, rfl, rfl, rfl⟩
  · obtain ⟨c', result, ends⟩ := reversing_ends state move live
    refine ⟨_, result, putChannel_frame _ n c', elapse_arbiter _ _, elapse_recorder _ _, ?_⟩
    rw [putChannel_get_self]
    exact ends
  · obtain ⟨stall, limit, wait, channel⟩ := elapse_channel_move (waitLeft s n) move
    have result := calOpenDriven_eq channel rfl
    have phase : phaseLimit (elapse (waitLeft s n) s) n = 2 * expectedStroke s n * s.config.countTime + 2000 := by
      rw [phaseLimit, expectedStroke_elapse, elapse_config]
    rw [phase] at result
    refine ⟨_, (exec_calOpenDeadIntervalEnd state move off).trans (congrArg _ result), putChannel_frame _ n _,
      elapse_arbiter _ _, elapse_recorder _ _, ?_⟩
    rw [putChannel_get_self]
    refine ⟨state, ?_, ?_, rfl⟩
    · simp [driveOpen, state]
    · simp [driveClose, state]

end

section
/-! The STATION report: its words, its twenty bits for each loop and its timing (R153, R155, section 13.2). -/

namespace Sys2Proof.Machine

open Sys2Proof

/-! ### Sets as words -/

theorem foldl_powers : ∀ {n : Nat} (f : Fin n → Bool) (c a : Nat),
    (List.finRange n).foldl (fun acc i => if f i then acc + c * 2 ^ i.val else acc) a = a + c * Nat.ofBits f
  | 0, _, _, _ => by simp
  | n + 1, f, c, a => by
    have later := foldl_powers (fun i => f i.succ) (c * 2) (if f 0 then a + c else a)
    have shift (i : Fin n) : c * 2 ^ i.succ.val = c * 2 * 2 ^ i.val := by rw [Fin.val_succ, pow_succ]; ring
    rw [List.finRange_succ, List.foldl_cons, List.foldl_map]
    simp only [shift, Fin.val_zero, pow_zero, mul_one]
    rw [later, Nat.ofBits_succ]
    cases f 0 <;> simp [Function.comp_def] <;> ring

/-- The word of a set is its characteristic function as bits. -/
theorem setWord_eq {n : Nat} (members : List (Fin n)) : setWord members = Nat.ofBits fun i => members.contains i := by
  have powers := foldl_powers (fun i => members.contains i) 1 0
  simp only [one_mul, zero_add] at powers
  exact powers

theorem setWord_lt {n : Nat} (members : List (Fin n)) : setWord members < 2 ^ n := by
  rw [setWord_eq]
  exact Nat.ofBits_lt_two_pow _

theorem setWord_testBit_fin {n : Nat} (members : List (Fin n)) (k : Fin n) :
    (setWord members).testBit k.val = members.contains k := by
  rw [setWord_eq, Nat.testBit_ofBits_lt _ _ k.isLt]

theorem setWord_testBit {n : Nat} (members : List (Fin n)) (k : Nat) :
    (setWord members).testBit k = decide (∃ m ∈ members, m.val = k) := by
  by_cases small : k < n
  · rw [show k = (⟨k, small⟩ : Fin n).val from rfl, setWord_testBit_fin]
    rw [List.contains_eq_mem]
    exact decide_eq_decide.2 ⟨fun mem => ⟨_, mem, rfl⟩, fun ⟨m, mem, same⟩ => Fin.ext same ▸ mem⟩
  · have large : setWord members < 2 ^ k := (setWord_lt members).trans_le (Nat.pow_le_pow_right (by decide) (by omega))
    have none_ : ¬ ∃ m ∈ members, m.val = k := fun ⟨m, _, same⟩ => small (same ▸ m.isLt)
    rw [Nat.testBit_lt_two_pow large, decide_eq_false none_]

theorem statusWord_testBit (s : State) (k : Fin 16) : (statusWord s).testBit k.val = (s.recorder.kinds.get k).status := by
  rw [statusWord, setWord_testBit_fin]
  cases status : (s.recorder.kinds.get k).status <;> simp [status]

/-! ### Twenty bits for each loop -/

theorem positionShare_le (c : Channel) : positionShare c ≤ 1000 := by
  cases stroke : c.stroke with
  | none => rw [positionShare, stroke]; exact Nat.zero_le _
  | some stroke' =>
    have share := positionShare_eq stroke
    omega

theorem loopBits_lt {s : State} (demands : ∀ n, s.engine.demands.get n ≤ 1000) (n : Fin 12) : loopBits s n < 1048576 := by
  have demand := demands n
  have share := positionShare_le (s.channels.get n)
  unfold loopBits
  split <;> omega

/-- Bytes are read from the left, most significant first. -/
def readBytes (v : Nat) (bytes : List Byte) : Nat := bytes.foldl (fun v b => v * 256 + b.toNat) v

theorem readBytes_append (v : Nat) (x y : List Byte) : readBytes v (x ++ y) = readBytes (readBytes v x) y :=
  List.foldl_append

theorem readBytes_u8 (v x : Nat) (bytes : List Byte) :
    readBytes v (u8 x :: bytes) = readBytes (v * 256 + x % 256) bytes := rfl

theorem readBytes_u16 (v x : Nat) : readBytes v (u16 x) = v * 65536 + x % 65536 := by
  change (v * 256 + x / 256 % 256) * 256 + x % 256 = _
  omega

theorem readBytes_u32 (v x : Nat) : readBytes v (u32 x) = v * 4294967296 + x % 4294967296 := by
  rw [u32, readBytes_append, readBytes_u16, readBytes_u16]
  omega

theorem readBytes_pairBytes {x y : Nat} (hx : x < 1048576) (hy : y < 1048576) (v : Nat) :
    readBytes v (pairBytes x y) = (v * 1048576 + x) * 1048576 + y := by
  rw [pairBytes, readBytes_u8, readBytes_u32]
  omega

/-- The twelve loops' bits, loop 1 first. -/
def loopDigits (s : State) : List Nat := (List.finRange 12).map (loopBits s)

/-- The LOOPS section is the number whose digits in base 2^20 are the loops' bits. -/
theorem readBytes_loopsContent {s : State} (small : ∀ n, loopBits s n < 1048576) :
    readBytes 0 (loopsContent s) = Nat.ofDigits 1048576 (loopDigits s).reverse := by
  have pair (v : Nat) (n : Fin 12) := readBytes_pairBytes (small n) (small (n + 1)) v
  have loops : loopDigits s = ([0, 1, 2, 3, 4, 5, 6, 7, 8, 9, 10, 11] : List (Fin 12)).map (loopBits s) := rfl
  have left : (fun (v x : Nat) => (x : Nat) + 1048576 * v) = fun v x => v * 1048576 + x := by
    funext v x
    rw [Nat.add_comm, Nat.mul_comm]
  rw [Nat.ofDigits_eq_foldr, List.foldr_reverse, loops]
  simp only [Nat.cast_id, left]
  simp only [loopsContent, List.flatMap_cons, List.flatMap_nil, List.append_nil, readBytes_append, pair, List.map_cons,
    List.map_nil, List.foldl_cons, List.foldl_nil]
  rfl

theorem digit_of_ofDigits {B : Nat} (L : List Nat) (small : ∀ x ∈ L, x < B) {i : Nat} (h : i < L.length) :
    Nat.ofDigits B L / B ^ i % B = L[i] := by
  have digit := small _ (List.getElem_mem h)
  rw [Nat.ofDigits_div_pow_eq_ofDigits_drop i (by omega) L small, Nat.ofDigits_mod_eq_head!,
    List.drop_eq_getElem_cons h, List.head!_cons, Nat.mod_eq_of_lt digit]

theorem readBytes_loopsContent_digit {s : State} (small : ∀ n, loopBits s n < 1048576) (n : Fin 12) :
    readBytes 0 (loopsContent s) / 2 ^ (20 * (11 - n.val)) % 2 ^ 20 = loopBits s n := by
  have digits : ∀ x ∈ (loopDigits s).reverse, x < 1048576 := by
    intro x mem
    obtain ⟨n, -, rfl⟩ := List.mem_map.1 (List.mem_reverse.1 mem)
    exact small n
  have length : (loopDigits s).length = 12 := by simp [loopDigits]
  have base : 2 ^ (20 * (11 - n.val)) = 1048576 ^ (11 - n.val) := pow_mul 2 20 _
  rw [readBytes_loopsContent small, base, show 2 ^ 20 = 1048576 from rfl,
    digit_of_ofDigits _ digits (by rw [List.length_reverse, length]; omega)]
  simp only [List.getElem_reverse, loopDigits, List.getElem_map, List.getElem_finRange]
  congr 1
  ext
  simp
  omega

theorem loopsContent_length (s : State) : (loopsContent s).length = 30 := rfl

end Sys2Proof.Machine
end

section
/-! REGULAR_REPORT, EXTRA_REPORT_DUE and the content of the report (R153, R155). -/

namespace Sys2Proof.Machine

open Sys2Proof

section

variable {s : State}

theorem exec_regularReport {left : Nat} (timer : s.bus.reportTimer = some left) : exec .regularReport s =
    .next { reported (elapse left s) with bus := { (reported (elapse left s)).bus with reportTimer := some 20000 } } := by
  have runs : s.bus.reportTimer.isSome = true := by rw [timer]; rfl
  have after : reportLeft s = left := by rw [reportLeft, timer]; rfl
  change execRegularReport s = _
  rw [execRegularReport, if_pos runs, after, ← sendReport_reported]

theorem exec_extraReportDue {due : Nat} (set : s.bus.extraDue = some due) :
    exec .extraReportDue s = .next (reported (elapse (due - s.now) s)) := by
  have runs : s.bus.extraDue.isSome = true := by rw [set]; rfl
  have after : extraLeft s = due - s.now := by rw [extraLeft, set]; rfl
  change execExtraReportDue s = _
  rw [execExtraReportDue, if_pos runs, after, sendReport_reported]

end

/-- The section that the rotation names, with its kind and its length. -/
theorem rotationSection_eq (s : State) : rotationSection s = match s.bus.rotation with
    | .faults => [2, 3] ++ faultsContent s
    | .dryout => [3, 12] ++ (programBytes s .one ++ programBytes s .two)
    | .trim => [4, 8] ++ trimContent s := by
  unfold rotationSection
  cases s.bus.rotation <;> rfl

/-- The content in its parts: core, LOOPS, the section of the rotation, end mark. -/
theorem reportContent_parts (s : State) :
    reportContent s = coreBytes (coreOf s) ++ [1, 30] ++ loopsContent s ++ rotationSection s ++ [0] := by
  rw [reportContent, sectionBytes, loopsContent_length, List.append_assoc _ [1, 30]]
  rfl

theorem reportContent_length (s : State) : (reportContent s).length = match s.bus.rotation with
    | .faults => 48
    | .dryout => 57
    | .trim => 53 := by
  have core : (coreBytes (coreOf s)).length = 10 := rfl
  rw [reportContent_parts, rotationSection_eq]
  simp only [List.length_append, core, loopsContent_length]
  cases s.bus.rotation <;> rfl

end Sys2Proof.Machine

open Sys2Proof Sys2Proof.Machine

/-- Settles O54: both events send the report of the values of their moment, and its content is read part by part. -/
theorem reportsAreBuiltAndPlaced : Obligations.ReportsAreBuiltAndPlaced := by
  refine ⟨fun s => ⟨fun left => exec_regularReport, fun due => exec_extraReportDue⟩, fun s => ?_, setWord_testBit⟩
  intro w core program
  refine ⟨loopsContent s, statusWord s, ?_, ?_, loopsContent_length s, setWord_lt _, statusWord_testBit s,
    fun demands n => ?_⟩
  · rw [reportContent_parts, rotationSection_eq]
    cases s.bus.rotation <;> simp only [List.append_assoc] <;> rfl
  · exact (reportContent_length s).trans (by cases s.bus.rotation <;> rfl)
  · exact readBytes_loopsContent_digit (loopBits_lt demands) n

end

section
/-! The drive queue through requests, grants and freed slots: what keeps its law, and what leaves no grant undone (R129 to
R131, R133 to R135). -/

namespace Sys2Proof.Machine

open Sys2Proof

/-! ### The queue at rest -/

theorem mayStart_eq_false {a : Arbiter} {e : DriveEntry} (h : mayStart a e = false) :
    e.kind = .calibrate ∧ a.defrost = true := by
  simp only [mayStart, Bool.or_eq_false_iff, Bool.not_eq_false', beq_eq_false_iff_ne] at h
  obtain ⟨kind, view⟩ := h
  refine ⟨?_, view⟩
  cases e' : e.kind with
  | move => exact absurd e' kind
  | calibrate => rfl

/-- With no grant due, no slot is free or no entry may start. -/
theorem grantLaw_of_none {a : Arbiter} (h : nextGrant a = none) : GrantLaw a := by
  unfold nextGrant at h
  cases free : (List.finRange 3).find? fun i => (a.slots.get i).isNone with
  | none =>
    refine .inl fun i => ?_
    simpa [Option.isSome_iff_ne_none] using List.find?_eq_none.1 free i (List.mem_finRange i)
  | some i =>
    cases oldest : a.queue.find? (mayStart a) with
    | none => exact .inr fun e mem => mayStart_eq_false (by simpa using List.find?_eq_none.1 oldest e mem)
    | some e =>
      rw [free, oldest] at h
      cases h

/-- A grant takes its entry out of the queue. -/
theorem grantTo_queue (s : State) (i : Fin 3) (e : DriveEntry) : (grantTo s i e).arbiter.queue = s.arbiter.queue.erase e := by
  rcases grantTo_arbiter s i e with arbiter | arbiter <;> rw [arbiter] <;> rfl

/-- Grants that may be as many as entries wait end with none due. -/
theorem grantLoop_rests : ∀ (fuel : Nat) {s : State}, s.arbiter.queue.length ≤ fuel →
    nextGrant (grantLoop fuel s).arbiter = none
  | 0, s, few => nextGrant_of_waiting fun e mem => by
      have empty : s.arbiter.queue = [] := List.length_eq_zero_iff.1 (Nat.le_zero.1 few)
      exact absurd (empty ▸ mem : e ∈ []) List.not_mem_nil
  | fuel + 1, s, few => by
    unfold grantLoop
    split
    · rename_i i e next
      obtain ⟨-, mem, -⟩ := nextGrant_eq_some next
      refine grantLoop_rests fuel ?_
      rw [grantTo_queue, List.length_erase_of_mem mem]
      omega
    · assumption

/-- The grants leave the queue at rest, whatever it was before (R134). -/
theorem grants_rest (s : State) : GrantLaw (grants s).arbiter := grantLaw_of_none (grantLoop_rests _ (le_refl _))

theorem grantLoop_law : ∀ (fuel : Nat) {s : State}, ArbiterLaw s.arbiter → ArbiterLaw (grantLoop fuel s).arbiter
  | 0, _, law => law
  | fuel + 1, s, law => by
    unfold grantLoop
    split
    · rename_i next
      obtain ⟨free, mem, -⟩ := nextGrant_eq_some next
      exact grantLoop_law fuel (grantTo_law law free mem)
    · exact law

/-! ### Keeping both laws -/

/-- The law of queue and slots holds after where it held before, and the queue rests after where it rested before. -/
structure KeepsQueue (s t : State) : Prop where
  law : ArbiterLaw s.arbiter → ArbiterLaw t.arbiter
  rest : GrantLaw s.arbiter → GrantLaw t.arbiter

theorem KeepsQueue.of_arbiter {s t : State} (h : t.arbiter = s.arbiter) : KeepsQueue s t := by
  constructor <;> rw [h] <;> exact id

theorem KeepsQueue.refl (s : State) : KeepsQueue s s := .of_arbiter rfl

theorem KeepsQueue.trans {s t u : State} (h : KeepsQueue s t) (k : KeepsQueue t u) : KeepsQueue s u :=
  ⟨k.law ∘ h.law, k.rest ∘ h.rest⟩

theorem KeepsQueue.ite {c : Prop} [Decidable c] {s t : State} (h : KeepsQueue s t) : KeepsQueue s (if c then t else s) := by
  split
  · exact h
  · exact .refl s

/-- What follows a change that leaves the arbiter as it stands. -/
theorem KeepsQueue.afterSame {s t u : State} (h : KeepsQueue t u) (same : t.arbiter = s.arbiter) : KeepsQueue s u :=
  (KeepsQueue.of_arbiter same).trans h

theorem KeepsQueue.of_reset {s t : State} (h : t.arbiter = Arbiter.reset) : KeepsQueue s t := by
  constructor <;> rw [h]
  · exact fun _ => arbiterLaw_reset
  · exact fun _ => .inr fun _ mem => (List.not_mem_nil mem).elim

theorem DriveStands.keepsQueue {s t : State} (h : DriveStands s t) : KeepsQueue s t := by
  obtain ⟨-, arbiter, -⟩ := h
  exact .of_arbiter arbiter

theorem DriveUnmoved.keepsQueue {s t : State} (h : DriveUnmoved s t) : KeepsQueue s t := by
  obtain ⟨stands, -⟩ := h
  exact stands.keepsQueue

/-- A change of queue and slots that keeps their law, with the grants that follow it. -/
theorem KeepsQueue.of_grants {s u : State} (h : ArbiterLaw s.arbiter → ArbiterLaw u.arbiter) : KeepsQueue s (grants u) :=
  ⟨fun law => grantLoop_law _ (h law), fun _ => grants_rest u⟩

/-! ### Requests, freed slots and the view of the source -/

/-- A MOVE joins for a channel without entry and slot only (R130). -/
theorem joinMove_law {s : State} (law : ArbiterLaw s.arbiter) (n : Fin 12) : ArbiterLaw (joinMove s n).arbiter := by
  unfold joinMove
  split
  · exact law
  · rename_i out
    simp only [engaged, Bool.or_eq_true, not_or, Option.not_isSome_iff_eq_none] at out
    obtain ⟨entry, slot⟩ := out
    exact law.withEntry (entryOf_eq_none_iff.1 entry) (slotOf_eq_none_iff.1 slot) .move

/-- A CALIBRATE takes the place of the channel's entry, or joins for a channel without entry and slot (R131). -/
theorem joinCalibrate_law {s : State} (law : ArbiterLaw s.arbiter) (n : Fin 12) : ArbiterLaw (joinCalibrate s n).arbiter := by
  unfold joinCalibrate
  split
  · exact law.recast n
  · rename_i entry
    split
    · exact law
    · rename_i slot
      rw [Option.not_isSome_iff_eq_none] at entry slot
      exact law.withEntry (entryOf_eq_none_iff.1 entry) (slotOf_eq_none_iff.1 slot) .calibrate

theorem requestMove_keepsQueue (s : State) (n : Fin 12) : KeepsQueue s (requestMove s n) :=
  .of_grants fun law => joinMove_law (s := putChannel s n _) law n

theorem sendCalibrate_keepsQueue (s : State) (n : Fin 12) : KeepsQueue s (sendCalibrate s n) :=
  .of_grants fun law => joinCalibrate_law (s := putChannel s n _) law n

theorem requestCalibration_keepsQueue (s : State) (n : Fin 12) (service : Bool) :
    KeepsQueue s (requestCalibration s n service) := by
  rcases requestCalibration_cases s n service with e | e | e <;> rw [e]
  · exact .refl s
  · exact .of_arbiter rfl
  · exact sendCalibrate_keepsQueue s n

theorem compareTarget_keepsQueue (s : State) (n : Fin 12) : KeepsQueue s (compareTarget s n) :=
  .ite (requestMove_keepsQueue s n)

/-- A channel takes a value, its slot is freed, and the grants follow (R133, R134). -/
theorem freeSlot_keepsQueue (s : State) (n : Fin 12) (c : Channel) : KeepsQueue s (freeSlot (putChannel s n c) n) :=
  .of_grants fun law => law.released n

/-- A disabled channel loses its entry and its slot (R126, R136). -/
theorem disable_keepsQueue (s : State) (n : Fin 12) : KeepsQueue s (disable s n) :=
  .of_grants fun law => (law.withoutEntry n).released n

/-- A view that enters DEFROST lets fewer entries start, and one that leaves it is followed by the grants (R135). -/
theorem followView_keepsQueue (s : State) (st : SourceState) : KeepsQueue s (followView s st) := by
  by_cases stays : st = .defrost ∨ s.arbiter.defrost = false
  · rw [followView_still stays]
    refine ⟨id, Or.imp_right fun waiting e mem => ?_⟩
    obtain ⟨kind, view⟩ := waiting e mem
    refine ⟨kind, ?_⟩
    rcases stays with rfl | off
    · rfl
    · rw [off] at view
      cases view
  · obtain ⟨leaves, was⟩ := not_or.1 stays
    rw [followView_leaves leaves (by simpa using was)]
    exact .of_grants id

end Sys2Proof.Machine
end

section
/-! The events of the channels, the swap, the source record and RECALIBRATE keep the laws of the drive queue (chapters 7 and 8,
R71, R112, R135, R157). -/

namespace Sys2Proof.Machine

open Sys2Proof

/-! ### The events of the channels -/

/-- A fault is reported, a move is ended, and a calibration requested (R119, R120). -/
theorem endedByFault_keepsQueue (s : State) (n : Fin 12) (e : FaultEvent) :
    KeepsQueue s (requestCalibration (dropMove (report s e) n) n false) :=
  (report_driveStands s e).keepsQueue.trans
    ((freeSlot_keepsQueue (report s e) n _).trans (requestCalibration_keepsQueue _ n false))

theorem failCalibration_keepsQueue (s : State) (n : Fin 12) (cause : Int) : KeepsQueue s (failCalibration s n cause) :=
  (report_driveStands s _).keepsQueue.trans (disable_keepsQueue _ n)

theorem blockedStall_keepsQueue (s : State) (n : Fin 12) : KeepsQueue s (blockedStall s n) := by
  have rested (e : FaultEvent) (c : Channel) : KeepsQueue s (freeSlot (putChannel (report s e) n c) n) :=
    (report_driveStands s e).keepsQueue.trans (freeSlot_keepsQueue _ n c)
  unfold blockedStall
  dsimp only
  split
  · split
    · exact (rested _ _).trans (requestCalibration_keepsQueue _ n false)
    · exact rested _ _
  · exact (rested _ _).trans (disable_keepsQueue _ n)

theorem calibrationStroke_keepsQueue (s : State) (n : Fin 12) : KeepsQueue s (calibrationStroke s n) := by
  unfold calibrationStroke
  dsimp only
  split
  · exact .of_arbiter rfl
  · exact failCalibration_keepsQueue s n 3

theorem stallTaken_keepsQueue (s : State) (n : Fin 12) : KeepsQueue s (stallTaken s n) := by
  unfold stallTaken
  dsimp only
  split
  · split
    · exact .of_arbiter rfl
    · exact blockedStall_keepsQueue s n
  · exact blockedStall_keepsQueue s n
  · exact .of_arbiter rfl
  · exact calibrationStroke_keepsQueue s n
  all_goals exact .refl s

theorem judgeChannel_keepsQueue (s : State) (n : Fin 12) : KeepsQueue s (judgeChannel s n) := by
  have driving : KeepsQueue s (match (s.channels.get n).move with
      | some m =>
        if 4 ≤ m.illegal then feedbackError s n 1 m.illegal
        else if 9 ≤ m.against then feedbackError s n 3 m.against
        else if arrived (s.channels.get n) then settle s n
        else s
      | none => s) := by
    split
    · split
      · exact endedByFault_keepsQueue s n _
      · split
        · exact endedByFault_keepsQueue s n _
        · exact .ite (.of_arbiter rfl)
    · exact .refl s
  have resting (c : Bool) (e : FaultEvent) : KeepsQueue s (if c then requestCalibration (report s e) n false else s) :=
    .ite ((report_driveStands s e).keepsQueue.trans (requestCalibration_keepsQueue _ n false))
  unfold judgeChannel
  dsimp only
  split
  · exact driving
  · exact driving
  · exact resting _ _
  · exact resting _ _
  all_goals exact .refl s

theorem feedbackEdge_keepsQueue (s : State) (n : Fin 12) (a b : Bool) : KeepsQueue s (feedbackEdge s n a b) := by
  unfold feedbackEdge
  dsimp only
  split
  · exact .refl s
  · exact (judgeChannel_keepsQueue _ n).afterSame rfl
  · exact (judgeChannel_keepsQueue _ n).afterSame rfl

theorem moveCompleted_keepsQueue (s : State) (n : Fin 12) : KeepsQueue s (moveCompleted s n) := by
  unfold moveCompleted
  dsimp only
  split
  · exact (freeSlot_keepsQueue s n _).trans (requestCalibration_keepsQueue _ n false)
  · exact (freeSlot_keepsQueue s n _).trans (compareTarget_keepsQueue _ n)

theorem calibrationCompleted_keepsQueue (s : State) (n : Fin 12) : KeepsQueue s (calibrationCompleted s n) :=
  (freeSlot_keepsQueue s n _).trans (compareTarget_keepsQueue _ n)

/-- A move that has reversed keeps its slot (R116). -/
theorem reversingEnded_arbiter (s : State) (n : Fin 12) : (reversingEnded s n).arbiter = s.arbiter := by
  unfold reversingEnded
  dsimp only
  split <;> rfl

/-! ### The swap and the close -/

theorem swapTargets_keepsQueue (s : State) : KeepsQueue s (swapTargets s) := by
  obtain ⟨-, arbiter, -⟩ := foldl_swapChannel (List.finRange 12) s (List.nodup_finRange 12)
  unfold swapTargets
  dsimp only
  generalize (List.finRange 12).foldl swapChannel s = t at arbiter ⊢
  obtain ⟨order, draws, -, e⟩ := takeRequests_eq (emptyBuffer t) (swapRequests s t)
  rw [e]
  exact (foldl_frame KeepsQueue.refl KeepsQueue.trans requestMove_keepsQueue order _).afterSame arbiter

theorem closeSwap_keepsQueue (s : State) : KeepsQueue s (closeSwap s) := by
  refine (fillFallback_driveStands s).keepsQueue.trans ?_
  unfold closeSwap
  dsimp only
  split
  · exact .of_arbiter rfl
  · exact swapTargets_keepsQueue _

/-- A trim update and an extra report leave the drive queue to the swap of the close. -/
theorem closePass_keepsQueue (s : State) (w : PassResult) : KeepsQueue s (closePass s w) := by
  have trims (s : State) : KeepsQueue s (freePiece trimStep s) :=
    (freePiece_driveStands (fun s => (trimStep_frame s).driveStands) s).keepsQueue
  have closed : KeepsQueue s (beginTrim (handResults (closeSwap s) w (effectiveState s))) :=
    (closeSwap_keepsQueue s).trans (.of_arbiter rfl)
  exact closed.trans ((trims _).trans ((extraReport_driveUnmoved _).keepsQueue.trans (trims _)))

theorem execPassClose_keepsQueue {s t : State} (h : execPassClose s = .next t) : KeepsQueue s t := by
  obtain rfl := Host.Outcome.next.inj h
  have stages : KeepsQueue s (passSteps (stepsLeft s) s) := (passSteps_frame _ s).driveStands.keepsQueue
  split
  · exact stages.trans (closePass_keepsQueue _ _)
  · exact stages

/-! ### The source record, and RECALIBRATE -/

/-- Programs that pause or go on are nothing to the drive queue. -/
theorem followHeating_driveStands (s : State) (before after : SourceState) : DriveStands s (followHeating s before after) := by
  unfold followHeating
  split
  · exact ((pauseProgram_frame _ .one).trans (pauseProgram_frame _ .two)).driveStands
  · split
    · exact (resumePrograms_frame _).driveStands_counted
    · exact .of_same rfl rfl rfl

theorem followSource_keepsQueue (s : State) (before : SourceState) : KeepsQueue s (followSource s before) :=
  (followView_keepsQueue s _).trans (followHeating_driveStands _ _ _).keepsQueue

theorem takeSourceReport_keepsQueue (s : State) (f : Frame) : KeepsQueue s (takeSourceReport s f) := by
  unfold takeSourceReport
  split
  · exact .refl s
  · split
    · exact .of_arbiter rfl
    · split
      · exact (report_driveStands s _).keepsQueue
      · rename_i st _
        exact (beforeHeating_frame s st).driveStands.keepsQueue.trans ((followSource_keepsQueue _ _).afterSame rfl)

theorem staleSource_keepsQueue (s : State) : KeepsQueue s (staleSource s) := by
  have reported (u : State) (e : FaultEvent) (before : SourceState) : KeepsQueue u (followSource (report u e) before) :=
    (report_driveStands u e).keepsQueue.trans (followSource_keepsQueue _ before)
  exact (beforeHeating_frame s .heating).driveStands.keepsQueue.trans ((reported _ _ _).afterSame rfl)

theorem carryRecalibrate_keepsQueue (args : List Byte) (s : State) : KeepsQueue s (carryRecalibrate args s).1 := by
  unfold carryRecalibrate
  split
  · exact .refl s
  · split
    · split
      · exact .refl s
      · exact foldl_frame KeepsQueue.refl KeepsQueue.trans (fun s n => requestCalibration_keepsQueue s n true) _ s
    · split
      · exact .refl s
      · split
        · exact requestCalibration_keepsQueue s _ true
        · exact .refl s

/-- The start empties the arbiter, and then asks for calibrations (R170). -/
theorem startStation_keepsQueue (s : State) : KeepsQueue s (startStation s) := by
  have asks (s : State) (n : Fin 12) : KeepsQueue s (startCalibration s n) := by
    unfold startCalibration
    split
    · exact .refl s
    · exact requestCalibration_keepsQueue s n false
  obtain ⟨-, arbiter, -⟩ := restarted_drive s
  exact (KeepsQueue.of_reset arbiter).trans (foldl_frame KeepsQueue.refl KeepsQueue.trans asks _ (restarted s))

end Sys2Proof.Machine
end

section
/-! The laws of the drive queue along every step (R129 to R135). -/

namespace Sys2Proof.Machine

open Sys2Proof

/-! ### Frames handed on -/

/-- What takes a head frame keeps the laws when what it does with the frame does. -/
theorem handedOn_keepsQueue {take : State → Frame → State} (h : ∀ s f, KeepsQueue s (take s f)) (s : State) (c : Instr) :
    KeepsQueue s (match takeHead s c with
      | some (f, s1) => take s1 f
      | none => s) := by
  split
  · rename_i taken
    obtain ⟨-, -, rfl⟩ := takeHead_eq_some.1 taken
    have answered : KeepsQueue s (answerOpen s) := .ite (finishDry_frame s).driveStands.keepsQueue
    exact answered.trans ((h _ _).afterSame rfl)
  · exact .refl s

/-- A frame too short for a request is passed over, and a request is counted as unused or dropped, or carried out. -/
theorem takeRequest_cases (s : State) (f : Frame) (carry : Byte → List Byte → State → State) :
    takeRequest s f carry = s ∨ takeRequest s f carry = countUnused s ∨ takeRequest s f carry = countDropped s ∨
      ∃ code args, takeRequest s f carry = carry code args s := by
  unfold takeRequest
  split
  · split
    · exact .inr (.inl rfl)
    · split
      · exact .inr (.inl rfl)
      · split
        · exact .inr (.inr (.inl rfl))
        · exact .inr (.inr (.inr ⟨_, _, rfl⟩))
  · exact .inl rfl

theorem takeRequest_keepsQueue {carry : Byte → List Byte → State → State} (h : ∀ code args s, KeepsQueue s (carry code args s))
    (s : State) (f : Frame) : KeepsQueue s (takeRequest s f carry) := by
  rcases takeRequest_cases s f carry with e | e | e | ⟨code, args, e⟩ <;> rw [e]
  · exact .refl s
  · exact .of_arbiter rfl
  · exact .of_arbiter rfl
  · exact h code args s

theorem answerRequest_keepsQueue {carry : List Byte → State → State × Answer} (h : ∀ args s, KeepsQueue s (carry args s).1)
    (s : State) (f : Frame) : KeepsQueue s (answerRequest s f carry) :=
  takeRequest_keepsQueue (fun _ args s => (h args s).trans (sendReply_driveStands _ f _ _).keepsQueue) s f

theorem execModeNotice_keepsQueue {s t : State} (h : execModeNotice s = .next t) : KeepsQueue s t := by
  obtain rfl := Host.Outcome.next.inj h
  have visited (s : State) (notice : Notice) : DriveStands s (freePiece noticeStep (beginNotice s notice)) :=
    DriveStands.trans (.of_same rfl rfl rfl) (freePiece_driveStands (fun s => (noticeStep_frame s).driveStands) _)
  split
  · exact .refl s
  · exact KeepsQueue.afterSame ((finishNotice_frame _).driveStands.trans (visited _ _)).keepsQueue rfl

/-! ### Every command and the idle step -/

/-- An event at the end of one of the station's timers: time passes, and the event follows. -/
theorem timedEvent_keepsQueue {c : Prop} [Decidable c] {taken : State → State} (h : ∀ u, KeepsQueue u (taken u)) (d : Nat)
    (s : State) : KeepsQueue s (if c then taken (elapse d s) else s) :=
  .ite ((h _).afterSame (elapse_arbiter s d))

/-- Every command keeps the laws of the drive queue. -/
theorem exec_keepsQueue {i : Instr} {s t : State} (h : exec i s = .next t) : KeepsQueue s t := by
  cases i with
  | powerOnReset => obtain rfl := Host.Outcome.next.inj h; exact .of_reset rfl
  | warmReset => obtain rfl := Host.Outcome.next.inj h; exact .of_reset rfl
  | stationStart => obtain rfl := Host.Outcome.next.inj h; exact .ite (startStation_keepsQueue s)
  | passTimerExpiry => obtain rfl := Host.Outcome.next.inj h; exact .ite (beginPass_driveStands s).keepsQueue
  | probeHoldExpiry n => obtain rfl := Host.Outcome.next.inj h; exact .ite (beginPass_driveStands s).keepsQueue
  | passClose => exact execPassClose_keepsQueue h
  | extraReportDue =>
    obtain rfl := Host.Outcome.next.inj h
    exact timedEvent_keepsQueue (fun u => (sendReport_driveUnmoved u).keepsQueue) _ s
  | regularReport => obtain rfl := Host.Outcome.next.inj h; exact .ite (.of_arbiter (elapse_arbiter s _))
  | scanRound => obtain rfl := Host.Outcome.next.inj h; exact .ite (.of_arbiter (elapse_arbiter s _))
  | sampleEvent n code =>
    obtain rfl := Host.Outcome.next.inj h
    split
    · exact .ite ((takeSample_driveUnmoved _ n _).keepsQueue.afterSame rfl)
    · exact .refl s
  | frameReceived f => obtain rfl := Host.Outcome.next.inj h; exact .ite (receive_driveStands s f).keepsQueue
  | roomReport =>
    obtain rfl := Host.Outcome.next.inj h
    exact handedOn_keepsQueue (fun s f => (takeRoomReport_driveStands s f).keepsQueue) s _
  | modeNotice => exact execModeNotice_keepsQueue h
  | boostTimerExpiry n =>
    obtain rfl := Host.Outcome.next.inj h
    exact timedEvent_keepsQueue (fun u => (withdraw_frame u n .boost).driveUnmoved.keepsQueue) _ s
  | roomEntersHeld room =>
    obtain rfl := Host.Outcome.next.inj h
    exact timedEvent_keepsQueue (fun u => (ageRoom_driveUnmoved u _ _ _).keepsQueue) _ s
  | roomStale room =>
    obtain rfl := Host.Outcome.next.inj h
    split
    · exact ((elapse_driveUnmoved _ s).trans (orphanRoom_driveUnmoved _ _ _)).keepsQueue
    · exact ((elapse_driveUnmoved _ s).trans (orphanRoom_driveUnmoved _ _ _)).keepsQueue
    · exact .refl s
  | stationReport =>
    obtain rfl := Host.Outcome.next.inj h
    exact handedOn_keepsQueue (fun s f => (takeStationReport_driveUnmoved s f).keepsQueue) s _
  | peerStale n => obtain rfl := Host.Outcome.next.inj h; exact .ite (.of_arbiter (elapse_arbiter s _))
  | peerRemoval n => obtain rfl := Host.Outcome.next.inj h; exact .ite (.of_arbiter (elapse_arbiter s _))
  | sourceReport => obtain rfl := Host.Outcome.next.inj h; exact handedOn_keepsQueue takeSourceReport_keepsQueue s _
  | sourceStale => obtain rfl := Host.Outcome.next.inj h; exact timedEvent_keepsQueue staleSource_keepsQueue _ s
  | unusedFrame =>
    obtain rfl := Host.Outcome.next.inj h
    exact handedOn_keepsQueue (take := fun s _ => countUnused s) (fun _ _ => .of_arbiter rfl) s _
  | readLoop =>
    obtain rfl := Host.Outcome.next.inj h
    exact handedOn_keepsQueue (answerRequest_keepsQueue fun args s => (carryReadLoop_driveStands args s).keepsQueue) s _
  | readFaults =>
    obtain rfl := Host.Outcome.next.inj h
    exact handedOn_keepsQueue (answerRequest_keepsQueue fun _ s => (partAnswer_driveStands _ _ s).keepsQueue) s _
  | readPeers =>
    obtain rfl := Host.Outcome.next.inj h
    exact handedOn_keepsQueue (answerRequest_keepsQueue fun _ s => (partAnswer_driveStands _ _ s).keepsQueue) s _
  | readTrim =>
    obtain rfl := Host.Outcome.next.inj h
    exact handedOn_keepsQueue (answerRequest_keepsQueue fun _ s => (partAnswer_driveStands _ _ s).keepsQueue) s _
  | startDryout =>
    obtain rfl := Host.Outcome.next.inj h
    exact handedOn_keepsQueue (fun s f => takeRequest_keepsQueue (fun code args s => (carryDryout_driveStands
      (fun s p f => (startProgram_frame s p f).driveStands_counted) f code args s).keepsQueue) s f) s _
  | stopDryout =>
    obtain rfl := Host.Outcome.next.inj h
    exact handedOn_keepsQueue (fun s f => takeRequest_keepsQueue (fun code args s => (carryDryout_driveStands
      (fun s p f => (stopProgram_frame s p f).driveStands_counted) f code args s).keepsQueue) s f) s _
  | recalibrate =>
    obtain rfl := Host.Outcome.next.inj h
    exact handedOn_keepsQueue (answerRequest_keepsQueue carryRecalibrate_keepsQueue) s _
  | clearFaults =>
    obtain rfl := Host.Outcome.next.inj h
    exact handedOn_keepsQueue (answerRequest_keepsQueue fun args s => (carryClearFaults_driveStands args s).keepsQueue) s _
  | alertMask =>
    obtain rfl := Host.Outcome.next.inj h
    exact handedOn_keepsQueue (answerRequest_keepsQueue fun args s => (carryAlertMask_driveStands args s).keepsQueue) s _
  | alertEnable =>
    obtain rfl := Host.Outcome.next.inj h
    exact handedOn_keepsQueue (answerRequest_keepsQueue fun args s => (carryAlertEnable_driveStands args s).keepsQueue) s _
  | unknownRequest =>
    obtain rfl := Host.Outcome.next.inj h
    exact handedOn_keepsQueue (answerRequest_keepsQueue fun _ s => .refl s) s _
  | dryoutHour p =>
    obtain rfl := Host.Outcome.next.inj h
    exact .ite (((finishDry_frame s).driveStands.trans (elapse_driveStands (hourLeft (finishDry s) p) _)).trans
      (setInstance_frame _ _ _).driveStands).keepsQueue
  | dryoutStepEnd p =>
    obtain rfl := Host.Outcome.next.inj h
    exact .ite ((finishDry_frame s).driveStands.trans (stepEnd_frame _ p).driveStands_counted).keepsQueue
  | meterPulse => obtain rfl := Host.Outcome.next.inj h; exact .ite (.of_arbiter rfl)
  | feedbackEdge n a b => obtain rfl := Host.Outcome.next.inj h; exact feedbackEdge_keepsQueue s n a b
  | stall n =>
    obtain rfl := Host.Outcome.next.inj h
    exact timedEvent_keepsQueue (fun u => stallTaken_keepsQueue u n) _ s
  | moveTimeout n =>
    obtain rfl := Host.Outcome.next.inj h
    exact timedEvent_keepsQueue (taken := fun u => timeoutTaken u n) (fun u => endedByFault_keepsQueue u n _) _ s
  | phaseLimitExpiry n =>
    obtain rfl := Host.Outcome.next.inj h
    split
    · exact (failCalibration_keepsQueue _ n _).afterSame (elapse_arbiter s _)
    · exact .refl s
  | settlingEnd n =>
    obtain rfl := Host.Outcome.next.inj h
    exact timedEvent_keepsQueue (fun u => moveCompleted_keepsQueue u n) _ s
  | calibrationSettlingEnd n =>
    obtain rfl := Host.Outcome.next.inj h
    exact timedEvent_keepsQueue (fun u => calibrationCompleted_keepsQueue u n) _ s
  | reversingEnd n =>
    obtain rfl := Host.Outcome.next.inj h
    exact timedEvent_keepsQueue (fun u => .of_arbiter (reversingEnded_arbiter u n)) _ s
  | calOpenDeadIntervalEnd n => obtain rfl := Host.Outcome.next.inj h; exact .ite (.of_arbiter (elapse_arbiter s _))
  | transmitStart => exact (execTransmit_driveUnmoved (.inl h)).keepsQueue
  | arbitrationLost => exact (execTransmit_driveUnmoved (.inr (.inl h))).keepsQueue
  | arbitrationWon => exact (execTransmit_driveUnmoved (.inr (.inr (.inl h)))).keepsQueue
  | frameSent => exact (execTransmit_driveUnmoved (.inr (.inr (.inr (.inl h))))).keepsQueue
  | frameBrokenOff => exact (execTransmit_driveUnmoved (.inr (.inr (.inr (.inr h))))).keepsQueue

/-- The idle step leaves queue and slots as they stand. -/
theorem tick_arbiter (s : State) : (tick s).arbiter = s.arbiter := by
  have queue (s : State) : (queueDue s).arbiter = s.arbiter := by
    rcases queueDue_cases s with ⟨-, e⟩ | ⟨_, -, _, e⟩ <;> rw [e]
  rcases tick_cases s with ⟨-, -, e⟩ | ⟨-, e | ⟨-, e⟩⟩ | ⟨busy, k, -, e⟩ <;> rw [e]
  · exact elapse_arbiter s 1
  · exact queue s
  · exact queue _
  · obtain ⟨w, -, draws, e⟩ := goOn_piece busy k
    rw [e]
    exact (workSteps_frame w k { s with draws := draws }).arbiter

/-- A step is a command or the idle step. -/
theorem step_keepsQueue {s t : State} (h : step s = .next t) : KeepsQueue s t := by
  unfold step at h
  split at h
  · rename_i i rest _
    exact (exec_keepsQueue (s := s.withPending rest) h).afterSame rfl
  · obtain rfl := Host.Outcome.next.inj h
    exact .of_arbiter (tick_arbiter s)

end Sys2Proof.Machine

open Sys2Proof Sys2Proof.Machine

/-- Settles O57: a request joins under the guards of R130 and R131, a freed slot or a granted entry takes nothing from the law,
and the grants that follow each change end with none due. -/
theorem everyStepKeepsTheLawOfTheDriveQueue : Obligations.EveryStepKeepsTheLawOfTheDriveQueue :=
  ⟨fun _ _ law h => (step_keepsQueue h).law law, fun _ _ rest h => (step_keepsQueue h).rest rest⟩

end

section
/-! Requests of tools (R156, R157): what each command does with a request that is handed on, and the answers. -/

namespace Sys2Proof.Machine

open Sys2Proof

/-! ### Which command carries out a request, and how -/

/-- A request that its block carries out in one event, answered (R157, R158). -/
def answering (f : Frame) (carry : List Byte → State → State × Answer) (code : Byte) (args : List Byte) (s : State) :
    State :=
  sendReply (carry args s).1 f code (carry args s).2

/-- How the block of a request code carries out a request that passes the checks of R156 (R157). -/
def requestCarry (f : Frame) (code : Nat) : Byte → List Byte → State → State :=
  match code with
  | 1 => answering f carryReadLoop
  | 2 => answering f carryReadFaults
  | 3 => answering f carryReadPeers
  | 4 => answering f carryReadTrim
  | 5 => carryDryout startProgram f
  | 6 => carryDryout stopProgram f
  | 7 => answering f carryRecalibrate
  | 8 => answering f carryClearFaults
  | 9 => answering f carryAlertMask
  | 10 => answering f carryAlertEnable
  | _ => answering f fun _ s => (s, single .badArgument [])

/-- What a command does with the head frame that it hands on; nothing when the head frame is another's (R151). -/
def handing (taken : Frame → State → State) (c : Instr) (s : State) : State :=
  (takeHead s c).elim s fun x => taken x.1 x.2

/-- A request is carried out by the command of its code once it has passed the checks of R156. -/
theorem exec_requestCommand (n : Nat) (s : State) : exec (requestCommand n) s =
    .next (handing (fun f t => takeRequest t f (requestCarry f n)) (requestCommand n) s) := by
  unfold handing
  rcases Nat.lt_or_ge n 11 with known | known
  · interval_cases n <;> simp only [requestCommand, requestCarry, exec, execReadLoop, execReadFaults, execReadPeers,
      execReadTrim, execStartDryout, execStopDryout, execRecalibrate, execClearFaults, execAlertMask, execAlertEnable,
      execUnknownRequest] <;> cases takeHead s _ <;> rfl
  · obtain ⟨m, rfl⟩ := Nat.exists_eq_add_of_le' known
    simp only [requestCommand, requestCarry, exec, execUnknownRequest]
    cases takeHead s .unknownRequest <;> rfl

/-- A request handed on while the one before it has been answered. -/
theorem exec_request {s : State} {f : Frame} {target code : Byte} {args : List Byte} (closed : requestOpen s = false)
    (head : s.bus.rx.head? = some f) (kind : f.kind = 5) (content : f.content = target :: code :: args) :
    exec (requestCommand code.toNat) s = .next (takeRequest (popped s) f (requestCarry f code.toNat)) := by
  have taken : takeHead s (requestCommand code.toNat) = some (f, popped s) := by
    rw [takeHead_eq_some, answerOpen_of_closed closed]
    exact ⟨head, handOn_request kind content, rfl⟩
  rw [exec_requestCommand, handing, taken]
  rfl

/-- An accepted request comes to its block. -/
theorem exec_accepted {s : State} {f : Frame} {code : Byte} {args : List Byte} (h : accepted s f code args) :
    exec (requestCommand code.toNat) s = .next (requestCarry f code.toNat code args (popped s)) := by
  have request := takeRequest_accepted h (requestCarry f code.toNat)
  obtain ⟨head, kind, -, -, content, -, closed⟩ := h
  rw [exec_request closed head kind content, request]

theorem exec_readLoop {s : State} {f : Frame} {args : List Byte} (h : accepted s f 1 args) :
    exec .readLoop s = .next (answering f carryReadLoop 1 args (popped s)) := exec_accepted h

theorem exec_readFaults {s : State} {f : Frame} {args : List Byte} (h : accepted s f 2 args) :
    exec .readFaults s = .next (answering f carryReadFaults 2 args (popped s)) := exec_accepted h

theorem exec_readPeers {s : State} {f : Frame} {args : List Byte} (h : accepted s f 3 args) :
    exec .readPeers s = .next (answering f carryReadPeers 3 args (popped s)) := exec_accepted h

theorem exec_readTrim {s : State} {f : Frame} {args : List Byte} (h : accepted s f 4 args) :
    exec .readTrim s = .next (answering f carryReadTrim 4 args (popped s)) := exec_accepted h

theorem exec_recalibrate {s : State} {f : Frame} {args : List Byte} (h : accepted s f 7 args) :
    exec .recalibrate s = .next (answering f carryRecalibrate 7 args (popped s)) := exec_accepted h

/-! ### The numbers that a request names -/

/-- A byte names the loop, or the channel, of its number. -/
theorem loopOfByte_eq_some {n : Byte} {c : Fin 12} : loopOfByte n = some c ↔ n.toNat = c.val + 1 := by
  unfold loopOfByte
  split
  · simp only [Option.some.injEq, Fin.ext_iff]; omega
  · have := c.isLt
    simp only [reduceCtorEq, false_iff]; omega

/-- No other byte names one. -/
theorem loopOfByte_eq_none {n : Byte} : loopOfByte n = none ↔ n.toNat = 0 ∨ 12 < n.toNat := by
  unfold loopOfByte
  split
  · simp only [reduceCtorEq, false_iff]; omega
  · simp only [true_iff]; omega

theorem loopOfByte_ofNat (n : Fin 12) : loopOfByte (BitVec.ofNat 8 (n.val + 1)) = some n := by
  rw [loopOfByte_eq_some, BitVec.toNat_ofNat]
  omega

theorem progOfNumber_eq_none {n : Nat} (one : n ≠ 1) (two : n ≠ 2) : progOfNumber n = none := by
  unfold progOfNumber
  split <;> simp_all

/-! ### The answer of a query (R157, R173) -/

/-- An answer, once its block has given it, is placed as the reply. -/
theorem answering_eq {carry : List Byte → State → State × Answer} {args : List Byte} {s t : State} {a : Answer}
    (h : carry args s = (t, a)) (f : Frame) (code : Byte) :
    answering f carry code args s = replied t f code (u8 (resultCode a.result)) a.part a.last a.data := by
  rw [answering, h]
  rfl

section
variable {carry : List Byte → State → State × Answer} {args : List Byte} {parts : List (List Byte)} {s : State} {k : Byte}

theorem answering_part (query : carry args s = partAnswer parts (some k) s) {data : List Byte}
    (part : parts[k.toNat]? = some data) (f : Frame) (code : Byte) :
    answering f carry code args s = replied s f code 0 k (u8 (parts.length - 1)) data := by
  have answer : carry args s = (s, ⟨.ok, k, u8 (parts.length - 1), data⟩) := by simp only [query, partAnswer, part]
  exact answering_eq answer f code

theorem answering_beyond (query : carry args s = partAnswer parts (some k) s) (beyond : parts.length ≤ k.toNat)
    (f : Frame) (code : Byte) :
    answering f carry code args s = replied s f code 2 k (u8 (parts.length - 1)) [] := by
  have answer : carry args s = (s, ⟨.badArgument, k, u8 (parts.length - 1), []⟩) := by
    simp only [query, partAnswer, List.getElem?_eq_none beyond]
  exact answering_eq answer f code

/-- The part number of an answer to a query that asks for no part is left open (assumption 5). -/
theorem answering_noPart (query : carry args s = partAnswer parts none s) (f : Frame) (code : Byte) :
    ∃ part draws, answering f carry code args s =
      replied { s with draws := draws } f code 2 part (u8 (parts.length - 1)) [] :=
  ⟨_, s.draws + 1, answering_eq query f code⟩

end

/-- A query of a loop asks for a part of the loop's data, if for any. -/
theorem carryReadLoop_loop (n : Fin 12) (rest : List Byte) (s : State) :
    carryReadLoop (BitVec.ofNat 8 (n.val + 1) :: rest) s = partAnswer (loopParts s n) rest.head? s := by
  simp only [carryReadLoop, loopOfByte_ofNat]

/-- A query of a loop that there is not draws a free value for each number that the manual leaves open (assumption 5). -/
theorem carryReadLoop_noLoop {n : Byte} (h : n.toNat = 0 ∨ 12 < n.toNat) (rest : List Byte) (s : State) :
    ∃ part last draws, carryReadLoop (n :: rest) s = ({ s with draws := draws }, ⟨.badArgument, part, last, []⟩) := by
  have none_ := loopOfByte_eq_none.2 h
  cases rest with
  | nil => exact ⟨_, _, s.draws + 2, by simp only [carryReadLoop, none_, List.head?_nil]; rfl⟩
  | cons k more => exact ⟨k, _, s.draws + 1, by simp only [carryReadLoop, none_, List.head?_cons]; rfl⟩

/-! ### RECALIBRATE (R157, R122) -/

section
variable {n : Byte} {c : Fin 12} {s : State} (more : List Byte)

theorem carryRecalibrate_beyond (h : 12 < n.toNat) : carryRecalibrate (n :: more) s = (s, single .badArgument []) := by
  have positive : n.toNat ≠ 0 := by omega
  simp only [carryRecalibrate, positive, if_false, loopOfByte_eq_none.2 (.inr h)]

theorem carryRecalibrate_channel (h : n.toNat = c.val + 1) : carryRecalibrate (n :: more) s =
    if channelInUse s c then (requestCalibration s c true, single .ok []) else (s, single .refusedState []) := by
  have positive : n.toNat ≠ 0 := by omega
  simp only [carryRecalibrate, positive, if_false, loopOfByte_eq_some.2 h]

theorem carryRecalibrate_all (h : n.toNat = 0) : carryRecalibrate (n :: more) s =
    if (usedChannels s).isEmpty then (s, single .refusedState [])
    else (recalibrateAll s (usedChannels s), single .ok []) := by
  simp only [carryRecalibrate, h, if_true]

theorem usedChannels_isEmpty : (usedChannels s).isEmpty = true ↔ ∀ c, channelInUse s c = false := by
  simp [usedChannels]

end

/-! ### Missing arguments and unknown codes (R157, R173) -/

/-- A request that is no query is BAD_ARGUMENT without arguments. -/
theorem requestCarry_noArguments {n : Nat} (low : 5 ≤ n) (high : n ≤ 10) (f : Frame) (code : Byte) (s : State) :
    requestCarry f n code [] s = replied s f code 2 0 0 [] := by
  interval_cases n <;> rfl

/-- An unknown request is BAD_ARGUMENT whatever its arguments. -/
theorem requestCarry_unknown {n : Nat} (h : n = 0 ∨ 10 < n) (f : Frame) (code : Byte) (args : List Byte) (s : State) :
    requestCommand n = .unknownRequest ∧ requestCarry f n code args s = replied s f code 2 0 0 [] := by
  obtain rfl | known := h
  · exact ⟨rfl, rfl⟩
  · obtain ⟨m, rfl⟩ := Nat.exists_eq_add_of_le' (Nat.succ_le_of_lt known)
    exact ⟨rfl, rfl⟩

/-- A request to the sequencer is BAD_ARGUMENT for a program other than 1 and 2. -/
theorem carryDryout_noProgram (operation : State → Prog → Frame → State) (f : Frame) (code : Byte) {p : Byte}
    (more : List Byte) (s : State) (one : p.toNat ≠ 1) (two : p.toNat ≠ 2) :
    carryDryout operation f code (p :: more) s = replied s f code 2 0 0 [] := by
  simp only [carryDryout, List.head?_cons, Option.bind_some, progOfNumber_eq_none one two]
  rfl

end Sys2Proof.Machine

open Sys2Proof Sys2Proof.Machine

/-- Settles O33: an accepted query comes to its block, and the part it asks for is found among the parts. -/
theorem queriesAnswerTheirParts : Obligations.QueriesAnswerTheirParts := by
  unfold Obligations.QueriesAnswerTheirParts
  refine fun s f k more data => ⟨fun n request part => ?_, fun request part => ?_, fun request part => ?_,
    fun request part => ?_⟩
  · rw [exec_readLoop request]
    exact congrArg _ (answering_part (carryReadLoop_loop n (k :: more) (popped s)) part f 1)
  · rw [exec_readFaults request]
    exact congrArg _ (answering_part (parts := faultParts s) rfl part f 2)
  · rw [exec_readPeers request]
    exact congrArg _ (answering_part (parts := peerParts s) rfl part f 3)
  · rw [exec_readTrim request]
    exact congrArg _ (answering_part (parts := trimParts s) rfl part f 4)

/-- Settles O35: each argument that the request's block does not know, or does not find, is answered without a change. -/
theorem badArgumentsChangeNothing : Obligations.BadArgumentsChangeNothing := by
  unfold Obligations.BadArgumentsChangeNothing
  refine fun s f args => ⟨fun n k more request beyond => ?_, fun n more request outside => ?_,
    fun k more request beyond => ?_, fun k more request beyond => ?_, fun k more request beyond => ?_,
    fun n request => ?_, fun request => ?_, fun request => ?_, fun request => ?_, fun request => ?_,
    fun p more request one two => ?_, fun p more request one two => ?_, fun code low high request => ?_,
    fun i request => ?_, fun code outside request => ?_⟩
  · rw [exec_readLoop request]
    exact congrArg _ (answering_beyond (carryReadLoop_loop n (k :: more) (popped s)) beyond f 1)
  · obtain ⟨part, last, draws, answer⟩ := carryReadLoop_noLoop outside more (popped s)
    rw [exec_readLoop request]
    exact ⟨part, last, draws, congrArg _ (answering_eq answer f 1)⟩
  · rw [exec_readFaults request]
    exact congrArg _ (answering_beyond (parts := faultParts s) rfl beyond f 2)
  · rw [exec_readPeers request]
    exact congrArg _ (answering_beyond (parts := peerParts s) rfl beyond f 3)
  · rw [exec_readTrim request]
    exact congrArg _ (answering_beyond (parts := trimParts s) rfl beyond f 4)
  · obtain ⟨part, draws, answer⟩ := answering_noPart (carryReadLoop_loop n [] (popped s)) f 1
    exact ⟨part, draws, (exec_readLoop request).trans (congrArg _ answer)⟩
  · exact ⟨_, _, s.draws + 2, exec_readLoop request⟩
  · obtain ⟨part, draws, answer⟩ := answering_noPart (s := popped s) (carry := carryReadFaults) (args := []) rfl f 2
    exact ⟨part, draws, (exec_readFaults request).trans (congrArg _ answer)⟩
  · obtain ⟨part, draws, answer⟩ := answering_noPart (s := popped s) (carry := carryReadPeers) (args := []) rfl f 3
    exact ⟨part, _, draws, (exec_readPeers request).trans (congrArg _ answer)⟩
  · obtain ⟨part, draws, answer⟩ := answering_noPart (s := popped s) (carry := carryReadTrim) (args := []) rfl f 4
    exact ⟨part, draws, (exec_readTrim request).trans (congrArg _ answer)⟩
  · exact (exec_accepted request).trans (congrArg _ (carryDryout_noProgram startProgram f 5 more _ one two))
  · exact (exec_accepted request).trans (congrArg _ (carryDryout_noProgram stopProgram f 6 more _ one two))
  · rw [exec_accepted request, requestCarry_noArguments low high]
  · exact exec_accepted request
  · obtain ⟨command, answer⟩ := requestCarry_unknown outside f code args (popped s)
    rw [← command, exec_accepted request, answer]

/-- Settles O38, by the number and by the use of the channel. -/
theorem recalibrateRequestsCalibrations : Obligations.RecalibrateRequestsCalibrations := by
  unfold Obligations.RecalibrateRequestsCalibrations
  intro s f n more request
  have answer {t : State} {a : Answer} (h : carryRecalibrate (n :: more) (popped s) = (t, a)) :
      exec .recalibrate s = .next (replied t f 7 (u8 (resultCode a.result)) a.part a.last a.data) :=
    (exec_recalibrate request).trans (congrArg _ (answering_eq h f 7))
  refine ⟨fun beyond => answer (carryRecalibrate_beyond more beyond), fun c named used => ?_, fun c named unused => ?_,
    fun all unused => ?_, fun all ⟨c, used⟩ => ?_⟩
  · exact answer ((carryRecalibrate_channel more named).trans (if_pos used))
  · exact answer ((carryRecalibrate_channel more named).trans (if_neg (ne_true_of_eq_false unused)))
  · exact answer ((carryRecalibrate_all more all).trans (if_pos (usedChannels_isEmpty.2 unused)))
  · have someUsed : ¬ (usedChannels (popped s)).isEmpty = true := fun none_ =>
      ne_true_of_eq_false (usedChannels_isEmpty.1 none_ c) used
    exact answer ((carryRecalibrate_all more all).trans (if_neg someUsed))

end

section
/-! Frames handed on (R151, R156): a request still being answered comes first, and what fails a check is counted. -/

namespace Sys2Proof.Machine

open Sys2Proof

/-! ### The request that is still being answered -/

/-- No operation is in progress, and the reply slot holds a frame. -/
def Answered (s : State) : Prop := s.operation = none ∧ s.bus.reply ≠ none

/-- The result of a start has still to be answered. -/
theorem requestOpen_endStart (s : State) (o : DryOperation) (f : Frame) (tried : Bool) :
    requestOpen (endStart s o f tried) = true := by
  unfold endStart
  dsimp only
  split <;> rfl

/-- A step of a request's operation leaves the request open, until the step that answers it. -/
theorem dryStep_answers {s : State} (h : requestOpen s = true ∨ Answered s) :
    requestOpen (dryStep s) = true ∨ Answered (dryStep s) := by
  cases work : s.operation with
  | none =>
    rw [show dryStep s = s by simp only [dryStep, work]]
    exact h
  | some o =>
    obtain ⟨p, i, stage⟩ := o
    have isOpen : requestOpen s = true := h.resolve_right fun answered => by rw [answered.1] at work; cases work
    rw [← atStage_self work] at isOpen ⊢
    cases stage with
    | push f k tried todo =>
      left
      cases todo with
      | cons n todo => rw [dryStep_push]; rfl
      | nil => exact requestOpen_endStart _ _ f tried
    | withdraw f todo =>
      cases f with
      | none => cases isOpen
      | some f =>
        left
        cases todo with
        | cons n todo => rw [dryStep_withdraw]; rfl
        | nil => rw [dryStep_stopped]; rfl
    | abort f => left; rw [dryStep_abort]; rfl
    | reply f result =>
      right
      rw [dryStep_answered]
      exact ⟨rfl, by cases result <;> exact Option.some_ne_none _⟩

/-- A request made to its end has been answered. -/
theorem finishDry_answered {s : State} (h : requestOpen s = true) : Answered (finishDry s) := by
  have kept := times_frame (R := fun s t => requestOpen s = true ∨ Answered s → requestOpen t = true ∨ Answered t)
    (fun _ => id) (fun one more => more ∘ one) (fun _ => dryStep_answers) (dryLeft s) s (.inl h)
  refine kept.resolve_left fun still => ?_
  rw [show times dryStep (dryLeft s) s = finishDry s from rfl, requestOpen_of_none (finishDry_operation s)] at still
  cases still

theorem finishDry_rx (s : State) : (finishDry s).bus.rx = s.bus.rx := by
  obtain ⟨_, _, _, _, _, _, _, _, _, h⟩ := finishDry_frame s
  rw [h]

/-- The command that a frame calls for acts on the head frame that it hands on. -/
theorem exec_handOn (f : Frame) : ∃ taken, ∀ s, exec (handOn f) s = .next (handing taken (handOn f) s) := by
  have request (n : Nat) : ∃ taken, ∀ s, exec (requestCommand n) s = .next (handing taken (requestCommand n) s) :=
    ⟨_, exec_requestCommand n⟩
  have unused : ∃ taken, ∀ s, exec .unusedFrame s = .next (handing taken .unusedFrame s) :=
    ⟨fun _ t => countUnused t, fun s => by
      simp only [exec, execUnusedFrame, handing]; cases takeHead s .unusedFrame <;> rfl⟩
  unfold handOn
  split
  · split
    · refine ⟨fun f t => takeSourceReport t f, fun s => ?_⟩
      simp only [exec, execSourceReport, handing]
      cases takeHead s .sourceReport <;> rfl
    · exact unused
  · split
    · refine ⟨fun f t => takeRoomReport t f, fun s => ?_⟩
      simp only [exec, execRoomReport, handing]
      cases takeHead s .roomReport <;> rfl
    · exact unused
  · split
    · refine ⟨fun f t => takeStationReport t f, fun s => ?_⟩
      simp only [exec, execStationReport, handing]
      cases takeHead s .stationReport <;> rfl
    · exact unused
  · split
    · exact request _
    · exact unused
  · exact unused

/-- A command that finds the head frame to be its own acts alike before and after the open request has been answered. -/
theorem handing_finishDry {s : State} {f : Frame} (isOpen : requestOpen s = true) (head : s.bus.rx.head? = some f)
    (taken : Frame → State → State) :
    handing taken (handOn f) s = handing taken (handOn f) (finishDry s) := by
  have closed : requestOpen (finishDry s) = false := requestOpen_of_none (finishDry_operation s)
  have before : takeHead s (handOn f) = some (f, popped (finishDry s)) :=
    takeHead_eq_some.2 ⟨head, rfl, by rw [answerOpen, if_pos isOpen]⟩
  have after : takeHead (finishDry s) (handOn f) = some (f, popped (finishDry s)) :=
    takeHead_eq_some.2 ⟨by rw [finishDry_rx, head], rfl, by rw [answerOpen_of_closed closed]⟩
  rw [handing, handing, before, after]
  rfl

/-! ### Frames that no block uses, and requests that fail a check -/

/-- A frame of no block's kind, or too short for its kind, is handed to none (chapter 13). -/
theorem handOn_unused {f : Frame} (h : f.kind = 0 ∨ f.kind = 4 ∨ f.kind = 6 ∨ 7 ≤ f.kind.toNat ∨
    (f.kind = 1 ∧ f.content.length < 7) ∨ (f.kind = 2 ∧ f.content.length < 6) ∨
    (f.kind = 3 ∧ f.content.length < 10) ∨ (f.kind = 5 ∧ f.content.length < 2)) : handOn f = .unusedFrame := by
  rcases h with kind | kind | kind | kind | ⟨kind, short⟩ | ⟨kind, short⟩ | ⟨kind, short⟩ | ⟨kind, short⟩
  · simp [handOn, kind]
  · simp [handOn, kind]
  · simp [handOn, kind]
  · unfold handOn
    split
    case h_5 => rfl
    all_goals omega
  · simp [handOn, kind, Nat.not_le.2 short]
  · simp [handOn, kind, Nat.not_le.2 short]
  · simp [handOn, kind, Nat.not_le.2 short]
  · match content : f.content with
    | [] => simp [handOn, kind, content]
    | [_] => simp [handOn, kind, content]
    | _ :: _ :: _ => rw [content] at short; simp at short

theorem countUnused_popped (s : State) : countUnused (popped s) = { s with bus := { s.bus with
    rx := s.bus.rx.tail, unused := min 65535 (s.bus.unused + 1) } } := by
  simp only [countUnused, bump_eq_min, popped]

theorem countDropped_popped (s : State) : countDropped (popped s) = { s with bus := { s.bus with
    rx := s.bus.rx.tail, dropped := min 65535 (s.bus.dropped + 1) } } := by
  simp only [countDropped, bump_eq_min, popped]

theorem toolAddress_iff {sender : BitVec 6} : toolAddress sender = true ↔ 10 ≤ sender.toNat ∧ sender.toNat ≤ 15 := by
  simp only [toolAddress, Bool.and_eq_true, decide_eq_true_eq]

section
variable {s : State} {f : Frame} {target code : Byte} {args : List Byte} {carry : Byte → List Byte → State → State}
variable (content : f.content = target :: code :: args)
include content

theorem takeRequest_noTool (h : ¬ (10 ≤ f.sender.toNat ∧ f.sender.toNat ≤ 15)) :
    takeRequest s f carry = countUnused s := by
  have noTool : toolAddress f.sender = false := eq_false_of_ne_true (mt toolAddress_iff.1 h)
  simp only [takeRequest, content, noTool, Bool.not_false, if_true]

theorem takeRequest_otherStation (h : target.toNat ≠ stationNumber s) : takeRequest s f carry = countUnused s := by
  simp only [takeRequest, content, h, ne_eq, not_false_eq_true, if_true, ite_self]

theorem takeRequest_dropped (tool : 10 ≤ f.sender.toNat ∧ f.sender.toNat ≤ 15) (own : target.toNat = stationNumber s)
    (occupied : s.bus.reply ≠ none) : takeRequest s f carry = countDropped s := by
  simp only [takeRequest, content, toolAddress_iff.2 tool, own, Option.isSome_iff_ne_none.2 occupied, Bool.not_true,
    Bool.false_eq_true, ne_eq, not_true_eq_false, if_false, if_true]

end

end Sys2Proof.Machine

open Sys2Proof Sys2Proof.Machine

/-- Settles O32: an open request is made to its end before the head frame is taken, and a frame that fails a check of its
block leaves the queue with nothing but its counter risen. -/
theorem unusedFramesAndRefusedRequestsAreCounted : Obligations.UnusedFramesAndRefusedRequestsAreCounted := by
  unfold Obligations.UnusedFramesAndRefusedRequestsAreCounted
  refine ⟨fun s f isOpen head => ?_, fun s f closed head unused => ?_, fun s f target code args closed head kind content => ?_⟩
  · obtain ⟨taken, acts⟩ := exec_handOn f
    obtain ⟨done, reply⟩ := finishDry_answered isOpen
    exact ⟨by rw [acts, acts, handing_finishDry isOpen head], requestOpen_of_none done, finishDry_rx s, reply⟩
  · have taken : takeHead s .unusedFrame = some (f, popped s) :=
      takeHead_eq_some.2 ⟨head, handOn_unused unused, by rw [answerOpen_of_closed closed]⟩
    simp only [exec, execUnusedFrame, taken, countUnused_popped]
  · rw [exec_request closed head kind content]
    refine ⟨fun noTool => ?_, fun _ other => ?_, fun tool own occupied => ?_⟩
    · rw [takeRequest_noTool content noTool, countUnused_popped]
    · rw [takeRequest_otherStation (s := popped s) content other, countUnused_popped]
    · rw [takeRequest_dropped (s := popped s) content tool own occupied, countDropped_popped]

end

section
/-! Reception and transmission (R147 to R149, R172): the check of a received frame, and the transmitter's events. -/

namespace Sys2Proof.Machine

open Sys2Proof

/-! ### The bits of a frame -/

/-- A value of two fields is sent field by field. -/
theorem fieldBits_append {v w : Nat} (x : BitVec v) (y : BitVec w) : fieldBits (x ++ y) = fieldBits x ++ fieldBits y := by
  have bits : List.range (v + w) = List.range w ++ (List.range v).map (w + ·) := by rw [Nat.add_comm, List.range_add]
  have low : (List.range w).map (x ++ y).getLsbD = (List.range w).map y.getLsbD := by
    refine List.map_congr_left fun i hi => ?_
    rw [BitVec.getLsbD_append, if_pos (List.mem_range.1 hi)]
  have high : (List.range v).map ((x ++ y).getLsbD ∘ (w + ·)) = (List.range v).map x.getLsbD := by
    refine List.map_congr_left fun i _ => ?_
    simp [BitVec.getLsbD_append]
  unfold fieldBits
  rw [bits, List.map_append, List.reverse_append, low, List.map_map, high]

theorem toNat_append_eq {v w : Nat} (x : BitVec v) (y : BitVec w) : (x ++ y).toNat = x.toNat * 2 ^ w + y.toNat := by
  rw [BitVec.toNat_append, ← Nat.shiftLeft_add_eq_or_of_lt y.isLt, Nat.shiftLeft_eq]

/-- A word in two bytes is sent as the word. -/
theorem byteBits_u16 (x : Word16) : byteBits (u16 x.toNat) = fieldBits x := by
  have halves : x = BitVec.ofNat 8 (x.toNat / 256) ++ BitVec.ofNat 8 x.toNat := by
    apply BitVec.eq_of_toNat_eq
    rw [toNat_append_eq, BitVec.toNat_ofNat, BitVec.toNat_ofNat]
    omega
  conv_rhs => rw [halves, fieldBits_append]
  simp only [byteBits, u16, List.flatMap_cons, List.flatMap_nil, List.append_nil]

/-- Kind, sender and length fill the first two bytes (section 13.1). -/
theorem byteBits_envelope (kind : BitVec 4) (sender length : BitVec 6) :
    byteBits (envelope kind sender length) = fieldBits kind ++ fieldBits sender ++ fieldBits length := by
  have word : kind.toNat * 4096 + sender.toNat * 64 + length.toNat = (kind ++ sender ++ length : Word16).toNat := by
    rw [toNat_append_eq, toNat_append_eq]
    omega
  rw [envelope, word, byteBits_u16, fieldBits_append, fieldBits_append]

/-- The check over the fields of a frame is the check over its bytes. -/
theorem crcBits_fields (kind : BitVec 4) (sender length : BitVec 6) (content : List Byte) :
    crcBits (fieldBits kind ++ fieldBits sender ++ fieldBits length ++ byteBits content) =
      crc16 (envelope kind sender length ++ content) := by
  have parts : byteBits (envelope kind sender length ++ content) =
      byteBits (envelope kind sender length) ++ byteBits content := List.flatMap_append
  rw [crc16, parts, byteBits_envelope]

/-! ### The check of a received frame -/

/-- A frame is good exactly when it carries a whole content of at most 60 bytes and the check that a sender forms (R149). -/
theorem frameGood_iff {f : RxFrame} : frameGood f = true ↔ ∃ n, f.length = some n ∧ n.toNat ≤ 60 ∧
    f.content.length = n.toNat ∧ f.check = some (crc16 (envelope f.kind f.sender n ++ f.content)) := by
  cases length : f.length with
  | none => simp [frameGood, length]
  | some n =>
    have formed (whole : f.content.length = n.toNat) :
        checkFormed f = crc16 (envelope f.kind f.sender n ++ f.content) := by
      rw [← crcBits_fields]
      simp only [checkFormed, bitsReceived, length, whole, Nat.lt_irrefl, if_false, List.append_nil, List.append_assoc]
    simp only [frameGood, length, Bool.and_eq_true, decide_eq_true_eq, beq_iff_eq, Option.some.injEq, exists_eq_left',
      and_assoc]
    refine and_congr_right fun _ => and_congr_right fun whole => ?_
    rw [formed whole]

/-- A frame that ends within its length, content or check carries no check (section 13.1). -/
theorem check_eq_none_of_cut {f : RxFrame} (formed : f.wellFormed = true)
    (cut : f.length = none ∨ (∃ n, f.length = some n ∧ f.content.length < n.toNat) ∨ f.rest ≠ []) : f.check = none := by
  unfold RxFrame.wellFormed at formed
  split at formed
  next =>
    simp only [Bool.and_eq_true, Option.isNone_iff_eq_none] at formed
    obtain ⟨⟨-, noCheck⟩, -⟩ := formed
    exact noCheck
  next n length =>
    split at formed
    next =>
      simp only [Bool.and_eq_true, Option.isNone_iff_eq_none] at formed
      obtain ⟨noCheck, -⟩ := formed
      exact noCheck
    next whole =>
      have rest : f.rest ≠ [] := by simpa [length, whole] using cut
      split at formed
      next noCheck => simpa using noCheck
      next => simp [rest] at formed

section
variable {s : State} {f : RxFrame}

theorem receive_bad (bad : frameGood f = false) : receive s f = report
    { s with bus := { s.bus with frameCheck := min 65535 (s.bus.frameCheck + 1) } }
    ⟨.frameCheck, f.sender.toNat, (((f.check.map BitVec.toNat).getD 0 : Nat) : Int), ((checkFormed f).toNat : Int),
      some (rxToFrame f)⟩ := by
  simp only [receive, bad, bump_eq_min, Bool.not_false, if_true]
  cases f.check <;> rfl

theorem receive_queued (good : frameGood f = true) (room : s.bus.rx.length < 8) :
    receive s f = { s with bus := { s.bus with rx := s.bus.rx ++ [rxToFrame f] } } := by
  simp only [receive, good, room, Bool.not_true, Bool.false_eq_true, if_false, if_true]

theorem receive_overflow (good : frameGood f = true) (full : 8 ≤ s.bus.rx.length) : receive s f = report
    { s with bus := { s.bus with overflow := min 65535 (s.bus.overflow + 1) } }
    ⟨.rxOverflow, f.sender.toNat, f.kind.toNat, ((min 65535 (s.bus.overflow + 1) : Nat) : Int), some (rxToFrame f)⟩ := by
  simp only [receive, good, Nat.not_lt.2 full, bump_eq_min, Bool.not_true, Bool.false_eq_true, if_false]

end

theorem exec_frameReceived {s : State} (service : s.loader.state ≠ .loading) (f : RxFrame) :
    exec (.frameReceived f) s = .next (receive s f) := by
  have inService : inServiceStation s = true := by simpa [inServiceStation] using service
  simp only [exec, execFrameReceived, inService, if_true]

/-! ### The transmitter's events -/

/-- A slot that is set holds the frame, and the others what they held. -/
theorem txFrame_setTxFrame (b : Bus) (slot other : TxSlot) (f : Option Frame) :
    txFrame (setTxFrame b slot f) other = if other = slot then f else txFrame b other := by
  cases slot <;> cases other <;> rfl

theorem setTxFrame_txFrame (b : Bus) (slot : TxSlot) : setTxFrame b slot (txFrame b slot) = b := by cases slot <;> rfl

/-- Setting a slot changes nothing on the bus but the slots. -/
theorem setTxFrame_frame (b : Bus) (slot : TxSlot) (f : Option Frame) : setTxFrame b slot f = { b with
    report := (setTxFrame b slot f).report
    alert := (setTxFrame b slot f).alert
    reply := (setTxFrame b slot f).reply } := by
  cases slot <;> rfl

theorem txOccupied_eq_false {b : Bus} : txOccupied b = false ↔ b.report = none ∧ b.alert = none ∧ b.reply = none := by
  simp [txOccupied, and_assoc]

section
variable {s : State} {slot : TxSlot} {f : Frame}

theorem exec_transmitStart (waiting : s.bus.tx = .waiting) (offered : offeredSlot s.bus = some slot) :
    exec .transmitStart s = .next (setTx s (.arbitrating slot)) := by
  simp only [exec, execTransmitStart, waiting, offered]

theorem exec_arbitrationLost (arbitrating : s.bus.tx = .arbitrating slot) :
    exec .arbitrationLost s = .next (setTx s .waiting) := by
  simp only [exec, execArbitrationLost, arbitrating]

theorem exec_arbitrationWon (arbitrating : s.bus.tx = .arbitrating slot) (held : txFrame s.bus slot = some f) :
    exec .arbitrationWon s = .next (setTx { s with bus := setTxFrame s.bus slot none } (.sending slot f)) := by
  simp only [exec, execArbitrationWon, arbitrating, held]

theorem exec_frameSent (sending : s.bus.tx = .sending slot f) : exec .frameSent s =
    .next (setTx s (if s.bus.report = none ∧ s.bus.alert = none ∧ s.bus.reply = none then .idle else .waiting)) := by
  simp only [exec, execFrameSent, sending, ← txOccupied_eq_false]
  cases txOccupied s.bus <;> rfl

/-- The slots after a frame has been broken off: the frame is put back, unless its slot holds a newer one (R148). -/
def putBack (b : Bus) (slot : TxSlot) (f : Frame) : Bus := setTxFrame b slot (some ((txFrame b slot).getD f))

theorem exec_frameBrokenOff (sending : s.bus.tx = .sending slot f) :
    exec .frameBrokenOff s = .next (setTx { s with bus := putBack s.bus slot f } .waiting) := by
  have slots : (if (txFrame s.bus slot).isSome then s.bus else setTxFrame s.bus slot (some f)) =
      putBack s.bus slot f := by
    unfold putBack
    cases held : txFrame s.bus slot with
    | none => rfl
    | some newer => rw [Option.getD_some, ← held, setTxFrame_txFrame, held]; rfl
  simp only [exec, execFrameBrokenOff, sending, slots]

end

end Sys2Proof.Machine

open Sys2Proof Sys2Proof.Machine

/-- Settles O51: the reception by its three outcomes, and the check by the bits of the fields that it is formed over. -/
theorem frameReceivedIsChecked : Obligations.FrameReceivedIsChecked := by
  unfold Obligations.FrameReceivedIsChecked
  refine ⟨fun s f service => ?_, crcBits_fields, fun f => check_eq_none_of_cut⟩
  intro bits formed good frame
  have formed_eq : formed = checkFormed f := by
    simp only [formed, bits, checkFormed, bitsReceived]
    cases f.length <;> rfl
  have good_iff : frameGood f = true ↔ good := frameGood_iff
  rw [exec_frameReceived service]
  refine ⟨fun isGood room => ?_, fun isGood full => ?_, fun bad => ?_⟩
  · rw [receive_queued (good_iff.2 isGood) room]; rfl
  · rw [receive_overflow (good_iff.2 isGood) full]; rfl
  · rw [receive_bad (eq_false_of_ne_true (mt good_iff.1 bad)), formed_eq]; rfl

/-- Settles O53, event by event. -/
theorem transmitterFollowsTheLine : Obligations.TransmitterFollowsTheLine := by
  unfold Obligations.TransmitterFollowsTheLine
  refine fun s => ⟨fun waiting => ⟨fun report => ?_, fun report alert => ?_, fun report alert reply => ?_⟩,
    fun slot => exec_arbitrationLost, fun slot f arbitrating held => ?_, fun slot f => exec_frameSent,
    fun slot f sending => ?_⟩
  · exact exec_transmitStart waiting (by simp [offeredSlot, Option.isSome_iff_ne_none, report])
  · exact exec_transmitStart waiting (by simp [offeredSlot, Option.isSome_iff_ne_none, report, alert])
  · exact exec_transmitStart waiting (by simp [offeredSlot, Option.isSome_iff_ne_none, report, alert, reply])
  · refine ⟨_, exec_arbitrationWon arbitrating held, rfl, ?_, fun other h => ?_, ?_⟩
    · exact (txFrame_setTxFrame s.bus slot slot none).trans (if_pos rfl)
    · exact (txFrame_setTxFrame s.bus slot other none).trans (if_neg h)
    · rw [setTxFrame_frame]; rfl
  · refine ⟨_, exec_frameBrokenOff sending, rfl, ?_, fun other h => ?_, ?_⟩
    · exact (txFrame_setTxFrame s.bus slot slot _).trans (if_pos rfl)
    · exact (txFrame_setTxFrame s.bus slot other _).trans (if_neg h)
    · rw [putBack, setTxFrame_frame]; rfl

end

section
/-! The recorder's pointer and its alert slots: what a fault, the resets, the start and the requests of tools make of each
(R159 to R165), and the laws that these keep. -/

namespace Sys2Proof.Machine

open Sys2Proof

/-! ### A fault at the pointer (R160, R161) -/

section
variable {r : Recorder} {e : FaultEvent}

/-- A masked fault leaves pointer, record and overflow flag. -/
theorem recordFault_masked (masked : (r.kinds.get (kindIndex e.kind)).masked = true) :
    (recordFault r e).pointer = r.pointer ∧ (recordFault r e).record = r.record ∧
      (recordFault r e).overflow = r.overflow := by
  simp [recordFault, masked]

/-- An unmasked fault that finds the pointer taken sets the overflow flag. -/
theorem recordFault_held {k : FaultKind} (unmasked : (r.kinds.get (kindIndex e.kind)).masked = false)
    (held : r.pointer = some k) : (recordFault r e).pointer = some k ∧ (recordFault r e).record = r.record ∧
      (recordFault r e).overflow = true := by
  simp [recordFault, unmasked, held]

/-- An unmasked fault takes an empty pointer with its whole record. -/
theorem recordFault_empty (unmasked : (r.kinds.get (kindIndex e.kind)).masked = false) (empty : r.pointer = none) :
    (recordFault r e).pointer = some e.kind ∧ (recordFault r e).overflow = r.overflow ∧
      (recordFault r e).record = some ⟨e.kind, (r.kinds.get (kindIndex e.kind)).severity, faultOrigin e, e.item, e.first,
        e.second, e.frame.map captureFrame⟩ := by
  simp [recordFault, unmasked, empty]

end

/-- Beside the slots, a report leaves of the recorder what `recordFault` says. -/
theorem report_pointer (s : State) (e : FaultEvent) :
    (report s e).recorder.pointer = (recordFault s.recorder e).pointer ∧
      (report s e).recorder.record = (recordFault s.recorder e).record ∧
      (report s e).recorder.overflow = (recordFault s.recorder e).overflow := by
  rw [report_recorder]
  split <;> exact ⟨rfl, rfl, rfl⟩

/-! ### A clear (R162) -/

theorem kindIndex_val (k : FaultKind) : (kindIndex k).val + 1 = kindCode k := by cases k <;> rfl

theorem kindOfCode_kindCode (k : FaultKind) : kindOfCode (kindCode k) = some k := by cases k <;> rfl

theorem kindIndex_inj {k l : FaultKind} (h : kindIndex k = kindIndex l) : k = l := by
  have code : kindCode k = kindCode l := by rw [← kindIndex_val, ← kindIndex_val, h]
  exact Option.some.inj (by rw [← kindOfCode_kindCode k, code, kindOfCode_kindCode])

/-- The named statuses clear, and nothing else of the kinds changes. -/
theorem foldl_clearStatus (named : List FaultKind) (k : Fin 16) : ∀ kinds : Tab 16 KindRecord,
    (named.foldl clearStatus kinds).get k =
      { kinds.get k with status := (kinds.get k).status && !named.any (fun x => kindIndex x == k) } := by
  induction named with
  | nil => intro kinds; simp
  | cons x named ih =>
    intro kinds
    have one : (clearStatus kinds x).get k =
        { kinds.get k with status := (kinds.get k).status && !(kindIndex x == k) } := by
      rw [clearStatus, Tab.get_set]
      split
      · rename_i own; subst own; simp
      · rename_i other; simp [beq_false_of_ne other]
    rw [List.foldl_cons, ih, one]
    simp [Bool.and_assoc]

/-- The pointer is emptied with its record and its overflow flag. -/
def withoutPointer (r : Recorder) : Recorder := { r with pointer := none, record := none, overflow := false }

/-- A clear that names the pointer's kind empties the pointer, too; any other leaves it. -/
theorem clearKinds_eq (r : Recorder) (named : List FaultKind) :
    ((∃ k ∈ named, r.pointer = some k) ∧
      clearKinds r named = withoutPointer { r with kinds := named.foldl clearStatus r.kinds }) ∨
    ((∀ k ∈ named, r.pointer ≠ some k) ∧ clearKinds r named = { r with kinds := named.foldl clearStatus r.kinds }) := by
  unfold clearKinds
  cases pointer : r.pointer with
  | none => exact .inr ⟨fun _ _ => nofun, rfl⟩
  | some k =>
    by_cases mem : k ∈ named
    · exact .inl ⟨⟨k, mem, rfl⟩, by simp [mem, withoutPointer]⟩
    · refine .inr ⟨fun l other same => mem (Option.some.inj same ▸ other), by simp [mem]⟩

/-! ### The laws by their parts -/

/-- The pointer is empty with an empty record and a clear overflow flag, or names the kind of its record, whose status is
set. -/
def PointerLaw (r : Recorder) : Prop :=
  (r.pointer = none ∧ r.record = none ∧ r.overflow = false) ∨
    ∃ e, r.pointer = some e.kind ∧ r.record = some e ∧ (r.kinds.get (kindIndex e.kind)).status = true

/-- An alert slot holds a latest pending exactly while it pends, and does not pend while the enable is off. -/
def SlotLaw (enable : Bool) (a : AlertSlot) : Prop :=
  a.latest.isSome = a.pending ∧ (enable = false → a.pending = false)

theorem recorderLaw_iff {r : Recorder} : RecorderLaw r ↔ PointerLaw r ∧ ∀ i, SlotLaw r.enable (r.slots.get i) := by
  have slots : ((∀ i, (r.slots.get i).latest.isSome = (r.slots.get i).pending) ∧
      (r.enable = false → ∀ i, (r.slots.get i).pending = false)) ↔ ∀ i, SlotLaw r.enable (r.slots.get i) :=
    ⟨fun ⟨latest, quiet⟩ i => ⟨latest i, fun off => quiet off i⟩, fun h => ⟨fun i => (h i).1, fun off i => (h i).2 off⟩⟩
  unfold RecorderLaw PointerLaw
  refine and_congr ?_ slots
  cases r.pointer with
  | none => cases r.record <;> simp
  | some k =>
    cases r.record with
    | none => simp
    | some e =>
      constructor
      · rintro ⟨rfl, set⟩; exact .inr ⟨e, rfl, rfl, set⟩
      · rintro (⟨empty, -⟩ | ⟨_, pointer, record, set⟩)
        · cases empty
        · cases record
          cases pointer
          exact ⟨rfl, set⟩

/-! ### The law of the pointer -/

/-- Where pointer, record and overflow flag stand and no status is lost, the law of the pointer stands. -/
theorem PointerLaw.of_status {r t : Recorder} (law : PointerLaw r) (pointer : t.pointer = r.pointer)
    (record : t.record = r.record) (overflow : t.overflow = r.overflow)
    (status : ∀ k, r.pointer = some k → (r.kinds.get (kindIndex k)).status = true →
      (t.kinds.get (kindIndex k)).status = true) : PointerLaw t := by
  rcases law with ⟨none_, noRecord, clear⟩ | ⟨e, some_, held, set⟩
  · exact .inl ⟨pointer.trans none_, record.trans noRecord, overflow.trans clear⟩
  · exact .inr ⟨e, pointer.trans some_, record.trans held, status _ some_ set⟩

theorem pointerLaw_recordFault {r : Recorder} (law : PointerLaw r) (e : FaultEvent) : PointerLaw (recordFault r e) := by
  have kept (k : Fin 16) (set : (r.kinds.get k).status = true) : ((recordFault r e).kinds.get k).status = true := by
    simp [recordFault_kinds, set]
  cases masked : (r.kinds.get (kindIndex e.kind)).masked with
  | true =>
    obtain ⟨pointer, record, overflow⟩ := recordFault_masked masked
    exact law.of_status pointer record overflow fun _ _ => kept _
  | false =>
    rcases law with ⟨empty, -, -⟩ | ⟨held, pointer, record, set⟩
    · obtain ⟨taken, -, record⟩ := recordFault_empty masked empty
      exact .inr ⟨_, taken, record, by simp [recordFault_kinds]⟩
    · obtain ⟨stands, same, -⟩ := recordFault_held masked pointer
      exact .inr ⟨held, stands, same.trans record, kept _ set⟩

/-- A clear that leaves the pointer does not name its kind, whose status stays set. -/
theorem pointerLaw_clearKinds {r : Recorder} (law : PointerLaw r) (named : List FaultKind) :
    PointerLaw (clearKinds r named) := by
  rcases clearKinds_eq r named with ⟨-, e⟩ | ⟨unnamed, e⟩ <;> rw [e]
  · exact .inl ⟨rfl, rfl, rfl⟩
  · refine law.of_status rfl rfl rfl fun k pointer set => ?_
    have other : ∀ x ∈ named, kindIndex x ≠ kindIndex k := fun x mem same =>
      unnamed x mem (by rw [kindIndex_inj same, pointer])
    simp only [foldl_clearStatus, set, Bool.true_and, Bool.not_eq_true', List.any_eq_false, beq_iff_eq]
    exact other

/-! ### The law of the slots -/

section
variable {on : Bool} {a : AlertSlot}

/-- A slot that hears a fault finds the enable on. -/
theorem SlotLaw.pend {r : Recorder} (law : SlotLaw r.enable a) (e : FaultEvent) : SlotLaw r.enable (pendAlert r e a) := by
  unfold pendAlert
  split
  · rename_i heard
    simp only [hears, Bool.and_eq_true] at heard
    obtain ⟨⟨-, enabled⟩, -⟩ := heard
    exact ⟨rfl, fun off => absurd enabled (ne_true_of_eq_false off)⟩
  · exact law

/-- A slot where nothing pends, whatever it listens to. -/
theorem SlotLaw.unpended (quiet : a.pending = false) (none_ : a.latest = none) : SlotLaw on a :=
  ⟨by rw [quiet, none_]; rfl, fun _ => quiet⟩

/-- With the enable on, only the latest pending matters. -/
theorem SlotLaw.enabled (law : SlotLaw on a) : SlotLaw true a := by
  obtain ⟨latest, -⟩ := law
  exact ⟨latest, nofun⟩

/-- What a slot listens to, its tag and its mask are nothing to the law. -/
theorem SlotLaw.retuned {b : AlertSlot} (law : SlotLaw on a) (pending : b.pending = a.pending)
    (latest : b.latest = a.latest) : SlotLaw on b := by
  obtain ⟨held, quiet⟩ := law
  exact ⟨by rw [latest, pending, held], fun off => pending.trans (quiet off)⟩

/-- The start unpends every slot when the image holds the enable off (assumption 28). -/
theorem slotLaw_startSlot (l : Loaded) (warm : Bool) {r : Recorder} {i : Fin 4} (law : SlotLaw on (r.slots.get i)) :
    SlotLaw l.enable (startSlot l warm r i) := by
  obtain ⟨latest, -⟩ := law
  cases off : l.enable with
  | true => exact ⟨by simpa [startSlot, off] using latest, nofun⟩
  | false => exact .unpended (by simp [startSlot, off]) (by simp [startSlot, off])

end

/-! ### The changes of the recorder -/

section
variable {r : Recorder}

theorem recorderLaw_warm (law : RecorderLaw r) : RecorderLaw (warmRecorder r) := by
  rw [recorderLaw_iff] at law ⊢
  obtain ⟨pointer, slots⟩ := law
  refine ⟨pointer.of_status rfl rfl rfl fun k _ set => ?_, fun i => ?_⟩
  · simpa [warmRecorder, warmKind] using set
  · simp only [warmRecorder, Tab.get_map]
    exact (slots i).enabled.retuned rfl rfl

theorem recorderLaw_start (law : RecorderLaw r) (l : Loaded) (warm : Bool) : RecorderLaw (startRecorder l warm r) := by
  rw [recorderLaw_iff] at law ⊢
  obtain ⟨pointer, slots⟩ := law
  refine ⟨pointer.of_status rfl rfl rfl fun k _ set => ?_, fun i => ?_⟩
  · simpa [startRecorder, startKind] using set
  · simp only [startRecorder, Tab.get_tabulate]
    exact slotLaw_startSlot l warm (slots i)

theorem recorderLaw_clearKinds (law : RecorderLaw r) (named : List FaultKind) : RecorderLaw (clearKinds r named) := by
  rw [recorderLaw_iff] at law ⊢
  obtain ⟨pointer, slots⟩ := law
  refine ⟨pointerLaw_clearKinds pointer named, ?_⟩
  rcases clearKinds_eq r named with ⟨-, e⟩ | ⟨-, e⟩ <;> rw [e] <;> exact slots

theorem recorderLaw_enableAlerts (law : RecorderLaw r) (on : Bool) : RecorderLaw (enableAlerts r on) := by
  rw [recorderLaw_iff] at law ⊢
  obtain ⟨pointer, slots⟩ := law
  refine ⟨pointer.of_status rfl rfl rfl fun _ _ => id, fun i => ?_⟩
  cases on with
  | true => exact (slots i).enabled
  | false =>
    have unpended : (enableAlerts r false).slots.get i = unpend (r.slots.get i) := Tab.get_map _ _ i
    rw [unpended]
    exact .unpended rfl rfl

/-- One alert slot is replaced by one that keeps the law. -/
theorem recorderLaw_putSlot {s : State} (law : RecorderLaw s.recorder) {i : Fin 4} {a : AlertSlot}
    (slot : SlotLaw s.recorder.enable (s.recorder.slots.get i) → SlotLaw s.recorder.enable a) :
    RecorderLaw (putSlot s i a).recorder := by
  rw [recorderLaw_iff] at law ⊢
  obtain ⟨pointer, slots⟩ := law
  refine ⟨pointer.of_status rfl rfl rfl fun _ _ => id, fun j => ?_⟩
  simp only [putSlot, Tab.get_set]
  split
  · exact slot (slots i)
  · exact slots j

end

theorem recorderLaw_report {s : State} (law : RecorderLaw s.recorder) (e : FaultEvent) :
    RecorderLaw (report s e).recorder := by
  rw [recorderLaw_iff] at law ⊢
  obtain ⟨pointer, slots⟩ := law
  obtain ⟨sameSlots, enable⟩ := recordFault_slots s.recorder e
  have kept : PointerLaw (recordFault s.recorder e) := pointerLaw_recordFault pointer e
  rw [← sameSlots, ← enable] at slots
  rw [report_recorder]
  split
  · exact ⟨kept, slots⟩
  · refine ⟨kept, fun i => ?_⟩
    rw [Tab.get_map]
    exact (slots i).pend e

end Sys2Proof.Machine
end

section
/-! What the station does keeps the laws of the recorder: faults reach it by `report` alone, and no other operation of the
blocks touches it (R160, R163). -/

namespace Sys2Proof.Machine

open Sys2Proof

/-- The laws of the recorder, where they hold before, hold after. -/
def KeepsRecorder (s t : State) : Prop := RecorderLaw s.recorder → RecorderLaw t.recorder

theorem KeepsRecorder.of_recorder {s t : State} (h : t.recorder = s.recorder) : KeepsRecorder s t := fun law => by rwa [h]

theorem KeepsRecorder.refl (s : State) : KeepsRecorder s s := id

theorem KeepsRecorder.trans {s t u : State} (h : KeepsRecorder s t) (k : KeepsRecorder t u) : KeepsRecorder s u := k ∘ h

theorem KeepsRecorder.ite {c : Prop} [Decidable c] {s t : State} (h : KeepsRecorder s t) :
    KeepsRecorder s (if c then t else s) := by
  split
  · exact h
  · exact .refl s

/-- What follows, or precedes, a change that leaves the recorder as it stands. -/
theorem KeepsRecorder.afterSame {s t u : State} (h : KeepsRecorder t u) (same : t.recorder = s.recorder) :
    KeepsRecorder s u := (KeepsRecorder.of_recorder same).trans h

theorem KeepsRecorder.thenSame {s t u : State} (h : KeepsRecorder s t) (same : u.recorder = t.recorder) :
    KeepsRecorder s u := h.trans (.of_recorder same)

theorem GrantFrame.keepsRecorder {s t : State} (h : GrantFrame s t) : KeepsRecorder s t := .of_recorder h.recorder

theorem report_keepsRecorder (s : State) (e : FaultEvent) : KeepsRecorder s (report s e) :=
  fun law => recorderLaw_report law e

/-- Time that passes before an event, or before nothing. -/
theorem elapsed_keepsRecorder {s u : State} (d : Nat) (h : KeepsRecorder (elapse d s) u) : KeepsRecorder s u :=
  h.afterSame (elapse_recorder s d)

theorem piece_keepsRecorder {step : State → State} (h : ∀ s, KeepsRecorder s (step s)) (k : Nat) (s : State) :
    KeepsRecorder s (piece step k s) := (times_frame .refl .trans h k s).thenSame rfl

/-! ### Chains and mode notices -/

theorem push_keepsRecorder (s : State) (n : Fin 12) (c : Change) (k : Fin 16) (f : Option Frame) :
    KeepsRecorder s (push s n c k f).1 := by
  unfold push
  split
  · exact .refl s
  · split
    · exact report_keepsRecorder s _
    · exact .of_recorder rfl

theorem baseSwitch_keepsRecorder (s : State) (n : Fin 12) (k : Fin 16) (f : Option Frame) :
    KeepsRecorder s (baseSwitch s n k f) := by
  unfold baseSwitch
  split
  · exact .refl s
  · split
    · exact .refl s
    · split
      · exact .refl s
      · split
        · exact report_keepsRecorder s _
        · exact .of_recorder rfl

theorem withdraw_keepsRecorder (s : State) (n : Fin 12) (o : Owner) : KeepsRecorder s (withdraw s n o) := by
  obtain ⟨recorder, -⟩ := withdraw_beside s n o
  exact .of_recorder recorder

theorem noticeStep_keepsRecorder (s : State) : KeepsRecorder s (noticeStep s) := by
  have change (notice : Notice) (x : Fin 12 × NoticeChange) : KeepsRecorder s (noticeChange notice s x) := by
    unfold noticeChange
    split
    · exact .refl s
    · split
      · exact push_keepsRecorder s _ _ _ _
      · exact withdraw_keepsRecorder s _ _
      · exact baseSwitch_keepsRecorder s _ _ _
  unfold noticeStep
  split
  · exact .refl s
  · exact .of_recorder rfl
  · exact (change _ _).thenSame rfl

theorem execModeNotice_keepsRecorder {s t : State} (h : execModeNotice s = .next t) : KeepsRecorder s t := by
  have carried (u : State) (notice : Notice) :
      KeepsRecorder u (freePiece noticeStep (beginNotice (finishNotice u) notice)) :=
    (times_frame .refl .trans noticeStep_keepsRecorder _ u).trans
      ((piece_keepsRecorder noticeStep_keepsRecorder _ _).afterSame rfl)
  obtain rfl := Host.Outcome.next.inj h
  split
  · exact .refl s
  · exact (carried _ _).afterSame rfl

/-! ### The sequencer -/

theorem setInstance_keepsRecorder (s : State) (p : Prog) (i : DryInstance) : KeepsRecorder s (setInstance s p i) :=
  .of_recorder (setInstance_recorder s p i)

theorem pushMember_keepsRecorder (p : Prog) (k : Fin 16) (s : State) (n : Fin 12) :
    KeepsRecorder s (pushMember p k s n) := by
  have pushed := push_keepsRecorder s n (.dryPush p) k none
  unfold pushMember
  dsimp only
  split
  · exact pushed.trans (setInstance_keepsRecorder _ _ _)
  · exact pushed

theorem dryStep_keepsRecorder (s : State) : KeepsRecorder s (dryStep s) := by
  unfold dryStep
  split
  · exact .refl s
  · split
    · exact (pushMember_keepsRecorder _ _ s _).thenSame rfl
    · unfold endStart
      dsimp only
      split
      · exact .of_recorder rfl
      · exact (setInstance_keepsRecorder s _ _).thenSame rfl
    · exact (withdraw_keepsRecorder s _ _).thenSame rfl
    · unfold endWithdrawals
      dsimp only
      split <;> exact (setInstance_keepsRecorder s _ _).thenSame rfl
    · exact (report_keepsRecorder s _).thenSame rfl
    · unfold dryReply
      split <;> exact .of_recorder rfl

theorem finishDry_keepsRecorder (s : State) : KeepsRecorder s (finishDry s) :=
  times_frame .refl .trans dryStep_keepsRecorder _ s

/-- An operation is begun on a program's new record. -/
theorem beginDry_keepsRecorder (s : State) (p : Prog) (i : DryInstance) (o : DryOperation) :
    KeepsRecorder s (beginDry (setInstance s p i) o) :=
  (piece_keepsRecorder dryStep_keepsRecorder _ { setInstance s p i with operation := some o }).afterSame
    (setInstance_recorder s p i)

theorem stepEnd_keepsRecorder (s : State) (p : Prog) : KeepsRecorder s (stepEnd s p) := by
  unfold stepEnd
  dsimp only
  split
  · split
    · exact setInstance_keepsRecorder s _ _
    · exact beginDry_keepsRecorder s _ _ _
  · exact .refl s

theorem resumePrograms_keepsRecorder (s : State) : KeepsRecorder s (resumePrograms s) := by
  have resumed (u : State) (p : Prog) : KeepsRecorder u (resumeProgram u p) := .ite (setInstance_keepsRecorder u _ _)
  have late (paused : Bool) (u : State) (p : Prog) : KeepsRecorder u (lateStepEnd paused u p) :=
    .ite ((finishDry_keepsRecorder u).trans (stepEnd_keepsRecorder _ _))
  exact (((resumed s .one).trans (resumed _ .two)).trans (late _ _ _)).trans (late _ _ _)

theorem startProgram_keepsRecorder (s : State) (p : Prog) (f : Frame) : KeepsRecorder s (startProgram s p f) := by
  unfold startProgram
  dsimp only
  split
  · exact .of_recorder rfl
  · split
    · exact .of_recorder rfl
    · exact beginDry_keepsRecorder s _ _ _

theorem stopProgram_keepsRecorder (s : State) (p : Prog) (f : Frame) : KeepsRecorder s (stopProgram s p f) := by
  unfold stopProgram
  dsimp only
  split
  · exact beginDry_keepsRecorder s _ _ _
  · exact .of_recorder rfl

/-! ### The source record -/

theorem followSource_keepsRecorder (s : State) (before : SourceState) : KeepsRecorder s (followSource s before) := by
  have paused (u : State) (p : Prog) : KeepsRecorder u (pauseProgram u p) := .ite (setInstance_keepsRecorder u _ _)
  have programs (u : State) (after : SourceState) : KeepsRecorder u (followHeating u before after) := by
    unfold followHeating
    split
    · exact (paused u .one).trans (paused _ .two)
    · exact .ite (resumePrograms_keepsRecorder u)
  exact (followView_grantFrame s _).keepsRecorder.trans (programs _ _)

theorem beforeHeating_keepsRecorder (s : State) (after : SourceState) : KeepsRecorder s (beforeHeating s after) :=
  .ite (finishDry_keepsRecorder s)

theorem takeSourceReport_keepsRecorder (s : State) (f : Frame) : KeepsRecorder s (takeSourceReport s f) := by
  unfold takeSourceReport
  split
  · exact .refl s
  · split
    · exact .of_recorder rfl
    · split
      · exact report_keepsRecorder s _
      · rename_i st _
        exact (beforeHeating_keepsRecorder s st).trans ((followSource_keepsRecorder _ _).afterSame rfl)

theorem staleSource_keepsRecorder (s : State) : KeepsRecorder s (staleSource s) := by
  have lost (u : State) (r : SourceRecord) (e : FaultEvent) :
      KeepsRecorder u (report { u with peers := { u.peers with source := r } } e) := (report_keepsRecorder _ e).afterSame rfl
  exact (beforeHeating_keepsRecorder s .heating).trans ((lost _ _ _).trans (followSource_keepsRecorder _ _))

/-! ### The pass, its close and the trim update -/

theorem passStep_keepsRecorder (s : State) : KeepsRecorder s (passStep s) := by
  have short (sh : Share) : KeepsRecorder s (bypassShort s sh) := by
    unfold bypassShort
    split
    · exact .ite (report_keepsRecorder s _)
    · exact .refl s
  unfold passStep
  split
  · exact .refl s
  · rename_i o n _ _ _
    obtain ⟨_, _, read⟩ := stageOne_readingFrame o s n
    rw [read]
    exact .of_recorder rfl
  · exact (short _).thenSame rfl
  · exact .of_recorder rfl
  · rename_i o _ r _ _
    obtain ⟨_, _, served⟩ := targetLoop_servingFrame o s r
    rw [served]
    exact .of_recorder rfl
  · rename_i g _
    obtain ⟨_, ended, -⟩ := endStages_eq s g.work
    rw [ended]
    exact .of_recorder rfl

theorem trimStep_keepsRecorder (s : State) : KeepsRecorder s (trimStep s) := by
  unfold trimStep
  split
  · exact .refl s
  · exact .of_recorder rfl
  · unfold measureTrim
    dsimp only
    split
    · exact (report_keepsRecorder _ _).afterSame rfl
    · exact .of_recorder rfl
  · exact .of_recorder rfl

theorem beginPass_keepsRecorder (s : State) : KeepsRecorder s (beginPass s) := by
  have reading (u : State) : KeepsRecorder u (takeReading u) := by
    unfold takeReading
    dsimp only
    split
    · exact (report_keepsRecorder _ _).afterSame rfl
    · exact .of_recorder rfl
  have opened (u : State) : KeepsRecorder u (openVisit u) := (reading _).afterSame rfl
  exact (times_frame .refl .trans trimStep_keepsRecorder 3 s).trans
    (elapsed_keepsRecorder _ ((opened _).trans (piece_keepsRecorder passStep_keepsRecorder _ _)))

theorem execPassClose_keepsRecorder {s t : State} (h : execPassClose s = .next t) : KeepsRecorder s t := by
  have swapped (u : State) : KeepsRecorder u (closeSwap u) := by
    obtain ⟨_, _, _, _, _, e⟩ := closeSwap_swapFrame u
    exact .of_recorder (by rw [e])
  have compared (u : State) : KeepsRecorder u (extraReport u) := by
    unfold extraReport
    split
    · split
      · exact .of_recorder rfl
      · split <;> exact .of_recorder rfl
    · exact .refl u
  have trims (u : State) : KeepsRecorder u (freePiece trimStep u) := piece_keepsRecorder trimStep_keepsRecorder _ u
  have closed (u : State) (w : PassResult) : KeepsRecorder u (closePass u w) :=
    (swapped u).trans ((((trims _).trans (compared _)).trans (trims _)).afterSame rfl)
  have stages : KeepsRecorder s (passSteps (stepsLeft s) s) := times_frame .refl .trans passStep_keepsRecorder _ s
  obtain rfl := Host.Outcome.next.inj h
  split
  · exact stages.trans (closed _ _)
  · exact stages

/-! ### The events of the channels -/

theorem requestCalibration_keepsRecorder (s : State) (n : Fin 12) (service : Bool) :
    KeepsRecorder s (requestCalibration s n service) := (requestCalibration_grantFrame s n service).keepsRecorder

/-- A channel takes a value, its slot is freed, and the grants follow. -/
theorem putFree_grantFrame (s : State) (n : Fin 12) (c : Channel) : GrantFrame s (freeSlot (putChannel s n c) n) :=
  ((putChannel_grantFrame s n c).trans (arbiter_grantFrame _ _)).trans (grants_grantFrame _)

theorem disable_grantFrame (s : State) (n : Fin 12) : GrantFrame s (disable s n) :=
  (((putChannel_grantFrame s n _).trans (arbiter_grantFrame _ _)).trans (arbiter_grantFrame _ _)).trans (grants_grantFrame _)

theorem compareTarget_grantFrame (s : State) (n : Fin 12) : GrantFrame s (compareTarget s n) := by
  unfold compareTarget
  dsimp only
  split
  · exact requestMove_grantFrame s n
  · exact .refl s

/-- A fault is reported, a move is ended, and a calibration requested (R119, R120). -/
theorem endedByFault_keepsRecorder (s : State) (n : Fin 12) (e : FaultEvent) :
    KeepsRecorder s (requestCalibration (dropMove (report s e) n) n false) :=
  (report_keepsRecorder s e).trans
    ((putFree_grantFrame _ n _).trans (requestCalibration_grantFrame _ n false)).keepsRecorder

theorem failCalibration_keepsRecorder (s : State) (n : Fin 12) (cause : Int) :
    KeepsRecorder s (failCalibration s n cause) :=
  (report_keepsRecorder s _).trans (disable_grantFrame _ n).keepsRecorder

theorem blockedStall_keepsRecorder (s : State) (n : Fin 12) : KeepsRecorder s (blockedStall s n) := by
  have rested (e : FaultEvent) (c : Channel) : KeepsRecorder s (freeSlot (putChannel (report s e) n c) n) :=
    (report_keepsRecorder s e).trans (putFree_grantFrame _ n c).keepsRecorder
  unfold blockedStall
  dsimp only
  split
  · split
    · exact (rested _ _).trans (requestCalibration_keepsRecorder _ n false)
    · exact rested _ _
  · exact (rested _ _).trans (disable_grantFrame _ n).keepsRecorder

theorem stallTaken_keepsRecorder (s : State) (n : Fin 12) : KeepsRecorder s (stallTaken s n) := by
  unfold stallTaken
  dsimp only
  split
  · split
    · exact .of_recorder rfl
    · exact blockedStall_keepsRecorder s n
  · exact blockedStall_keepsRecorder s n
  · exact .of_recorder rfl
  · unfold calibrationStroke
    dsimp only
    split
    · exact .of_recorder rfl
    · exact failCalibration_keepsRecorder s n 3
  all_goals exact .refl s

theorem judgeChannel_keepsRecorder (s : State) (n : Fin 12) : KeepsRecorder s (judgeChannel s n) := by
  have driving (m : MoveRecord) : KeepsRecorder s
      (if 4 ≤ m.illegal then feedbackError s n 1 m.illegal
      else if 9 ≤ m.against then feedbackError s n 3 m.against
      else if arrived (s.channels.get n) then settle s n
      else s) := by
    split
    · exact endedByFault_keepsRecorder s n _
    · split
      · exact endedByFault_keepsRecorder s n _
      · exact .ite (.of_recorder rfl)
  have resting (c : Bool) (e : FaultEvent) :
      KeepsRecorder s (if c then requestCalibration (report s e) n false else s) :=
    .ite ((report_keepsRecorder s e).trans (requestCalibration_keepsRecorder _ n false))
  unfold judgeChannel
  dsimp only
  split
  · split
    · exact driving _
    · exact .refl s
  · split
    · exact driving _
    · exact .refl s
  · exact resting _ _
  · exact resting _ _
  all_goals exact .refl s

theorem feedbackEdge_keepsRecorder (s : State) (n : Fin 12) (a b : Bool) : KeepsRecorder s (feedbackEdge s n a b) := by
  unfold feedbackEdge
  dsimp only
  split
  · exact .refl s
  · exact (judgeChannel_keepsRecorder _ n).afterSame rfl
  · exact (judgeChannel_keepsRecorder _ n).afterSame rfl

theorem moveCompleted_keepsRecorder (s : State) (n : Fin 12) : KeepsRecorder s (moveCompleted s n) := by
  unfold moveCompleted
  dsimp only
  split
  · exact ((putFree_grantFrame s n _).trans (requestCalibration_grantFrame _ n false)).keepsRecorder
  · exact ((putFree_grantFrame s n _).trans (compareTarget_grantFrame _ n)).keepsRecorder

theorem calibrationCompleted_keepsRecorder (s : State) (n : Fin 12) : KeepsRecorder s (calibrationCompleted s n) :=
  ((putFree_grantFrame s n _).trans (compareTarget_grantFrame _ n)).keepsRecorder

theorem reversingEnded_keepsRecorder (s : State) (n : Fin 12) : KeepsRecorder s (reversingEnded s n) := by
  unfold reversingEnded
  dsimp only
  split <;> exact .of_recorder rfl

/-! ### Rooms, stations, samples, and frames on the line -/

theorem ageRoom_keepsRecorder (s : State) (room secs : Nat) (st : RoomState) : KeepsRecorder s (ageRoom s room secs st) := by
  unfold ageRoom
  split <;> exact .of_recorder rfl

theorem orphanRoom_keepsRecorder (s : State) (room : Nat) (never : Bool) : KeepsRecorder s (orphanRoom s room never) :=
  (ageRoom_keepsRecorder s room 901 .orphan).trans (report_keepsRecorder _ _)

theorem takeRoomReport_keepsRecorder (s : State) (f : Frame) : KeepsRecorder s (takeRoomReport s f) := by
  unfold takeRoomReport
  dsimp only
  split
  · exact .of_recorder rfl
  · split
    · exact .of_recorder rfl
    · split
      · exact .of_recorder rfl
      · exact .of_recorder rfl
      · split
        · exact .of_recorder rfl
        · split <;> exact .of_recorder rfl

theorem takeStationReport_keepsRecorder (s : State) (f : Frame) : KeepsRecorder s (takeStationReport s f) := by
  unfold takeStationReport
  dsimp only
  split
  · exact .refl s
  · split
    · split
      · exact report_keepsRecorder s _
      · split <;> exact .of_recorder rfl
    · exact .of_recorder rfl

theorem takeSample_keepsRecorder (s : State) (n : Fin 14) (code : Nat) : KeepsRecorder s (takeSample s n code) := by
  unfold takeSample
  dsimp only
  split
  · exact (report_keepsRecorder _ _).afterSame rfl
  · exact .of_recorder rfl

theorem receive_keepsRecorder (s : State) (f : RxFrame) : KeepsRecorder s (receive s f) := by
  unfold receive
  dsimp only
  split
  · exact (report_keepsRecorder _ _).afterSame rfl
  · split
    · exact .of_recorder rfl
    · exact (report_keepsRecorder _ _).afterSame rfl

/-- The transmitter's events touch the bus only. -/
theorem execTransmit_keepsRecorder {s t : State} (h : execTransmitStart s = .next t ∨ execArbitrationLost s = .next t ∨
    execArbitrationWon s = .next t ∨ execFrameSent s = .next t ∨ execFrameBrokenOff s = .next t) : KeepsRecorder s t := by
  refine .of_recorder ?_
  rcases h with h | h | h | h | h <;> obtain rfl := Host.Outcome.next.inj h
  · split <;> rfl
  · split <;> rfl
  · split
    · split <;> rfl
    · rfl
  · split <;> rfl
  · split <;> rfl

/-! ### The station's start (R170) -/

theorem restartProgram_keepsRecorder (s : State) (p : Prog) : KeepsRecorder s (restartProgram s p) := by
  have aborted (u : State) : KeepsRecorder u (abortAtStart u p) :=
    (setInstance_keepsRecorder u _ _).trans (report_keepsRecorder _ _)
  have pushes (u : State) (d : ProgramDef) : KeepsRecorder u (repush u p d) := by
    have visited (l : List (Fin 12)) (i : DryInstance) :
        KeepsRecorder u (l.foldl (pushMember p d.profile) (setInstance u p i)) :=
      (setInstance_keepsRecorder u p i).trans (foldl_frame .refl .trans (pushMember_keepsRecorder p d.profile) l _)
    unfold repush
    dsimp only
    split
    · exact (visited _ _).trans (aborted _)
    · exact visited _ _
  refine (setInstance_keepsRecorder s p (awake (instanceOf s p))).trans ?_
  unfold restartProgram checkKept
  dsimp only
  split
  · exact .refl _
  · split
    · exact aborted _
    · split
      · exact setInstance_keepsRecorder _ _ _
      · split
        · exact (setInstance_keepsRecorder _ _ _).trans (pushes _ _)
        · exact setInstance_keepsRecorder _ _ _

/-- The start reports what is left of the load's faults, hands masks, severities and alert slots on, and then reports what the
chains and the kept programs refuse. -/
theorem startStation_keepsRecorder (s : State) : KeepsRecorder s (startStation s) := by
  have chain (u : State) (n : Fin 12) : KeepsRecorder u (comfortSwitch u n) := by
    unfold comfortSwitch
    split
    · exact .refl u
    · exact baseSwitch_keepsRecorder u n _ none
  have brought : KeepsRecorder s (broughtUp s) := fun law => by
    rw [broughtUp_recorder]
    exact recorderLaw_start (foldl_frame .refl .trans report_keepsRecorder (loadFaults s) s law) _ _
  have chained_ : KeepsRecorder (broughtUp s) (chained s) := foldl_frame .refl .trans chain _ _
  exact (((brought.trans chained_).trans (restartProgram_keepsRecorder _ .one)).trans
    (restartProgram_keepsRecorder _ .two)).trans (startStation_grantFrame s).keepsRecorder

end Sys2Proof.Machine
end

section
/-! The laws of the recorder along every step (R160 to R165). -/

namespace Sys2Proof.Machine

open Sys2Proof

/-! ### Frames handed on, and requests -/

/-- What takes a head frame keeps the laws when what it does with the frame does. -/
theorem handing_keepsRecorder {taken : Frame → State → State} (h : ∀ f s, KeepsRecorder s (taken f s)) (c : Instr)
    (s : State) : KeepsRecorder s (handing taken c s) := by
  unfold handing
  cases head : takeHead s c with
  | none => exact .refl s
  | some x =>
    obtain ⟨f, t⟩ := x
    obtain ⟨-, -, rfl⟩ := takeHead_eq_some.1 head
    have answered : KeepsRecorder s (answerOpen s) := .ite (finishDry_keepsRecorder s)
    exact answered.trans ((h f _).afterSame rfl)

theorem maskSlot_keepsRecorder (s : State) (i : Fin 4) (on : Bool) : KeepsRecorder s (maskSlot s i on) := by
  have masked (b : Bool) : KeepsRecorder s (putSlot s i { s.recorder.slots.get i with masked := b }) :=
    fun law => recorderLaw_putSlot law fun slot => slot.retuned rfl rfl
  unfold maskSlot
  dsimp only
  split
  · exact masked true
  · split
    · exact KeepsRecorder.thenSame (fun law => recorderLaw_putSlot law fun _ => .unpended rfl rfl)
        (raiseAlerts_recorder _ _)
    · exact masked false

section
variable (args : List Byte) (s : State)

theorem partAnswer_keepsRecorder (parts : List (List Byte)) (asked : Option Byte) :
    KeepsRecorder s (partAnswer parts asked s).1 := by
  unfold partAnswer
  dsimp only
  split
  · split <;> exact .refl s
  · exact .of_recorder rfl

theorem carryReadLoop_keepsRecorder : KeepsRecorder s (carryReadLoop args s).1 := by
  unfold carryReadLoop
  split
  · exact .of_recorder rfl
  · split
    · exact partAnswer_keepsRecorder s _ _
    · exact .of_recorder rfl
    · exact .of_recorder rfl

theorem carryRecalibrate_keepsRecorder : KeepsRecorder s (carryRecalibrate args s).1 := by
  unfold carryRecalibrate
  split
  · exact .refl s
  · split
    · split
      · exact .refl s
      · exact foldl_frame .refl .trans (fun u n => requestCalibration_keepsRecorder u n true) _ s
    · split
      · exact .refl s
      · split
        · exact requestCalibration_keepsRecorder s _ true
        · exact .refl s

theorem carryClearFaults_keepsRecorder : KeepsRecorder s (carryClearFaults args s).1 := by
  unfold carryClearFaults
  split
  · exact .refl s
  · exact fun law => recorderLaw_clearKinds law _

theorem carryAlertMask_keepsRecorder : KeepsRecorder s (carryAlertMask args s).1 := by
  unfold carryAlertMask
  split
  · split
    · exact maskSlot_keepsRecorder s _ _
    · exact .refl s
  · exact .refl s

theorem carryAlertEnable_keepsRecorder : KeepsRecorder s (carryAlertEnable args s).1 := by
  unfold carryAlertEnable
  split
  · exact .refl s
  · exact fun law => recorderLaw_enableAlerts law _

end

theorem requestCarry_keepsRecorder (f : Frame) (n : Nat) (code : Byte) (args : List Byte) (s : State) :
    KeepsRecorder s (requestCarry f n code args s) := by
  have answered {carry : List Byte → State → State × Answer} (h : ∀ args s, KeepsRecorder s (carry args s).1) :
      KeepsRecorder s (answering f carry code args s) := (h args s).thenSame rfl
  have sequenced {operation : State → Prog → Frame → State} (h : ∀ s p f, KeepsRecorder s (operation s p f)) :
      KeepsRecorder s (carryDryout operation f code args s) := by
    unfold carryDryout
    split
    · exact .of_recorder rfl
    · exact (finishDry_keepsRecorder s).trans (h _ _ f)
  unfold requestCarry
  split
  · exact answered carryReadLoop_keepsRecorder
  · exact answered fun _ s => partAnswer_keepsRecorder s _ _
  · exact answered fun _ s => partAnswer_keepsRecorder s _ _
  · exact answered fun _ s => partAnswer_keepsRecorder s _ _
  · exact sequenced startProgram_keepsRecorder
  · exact sequenced stopProgram_keepsRecorder
  · exact answered carryRecalibrate_keepsRecorder
  · exact answered carryClearFaults_keepsRecorder
  · exact answered carryAlertMask_keepsRecorder
  · exact answered carryAlertEnable_keepsRecorder
  · exact answered fun _ => .refl

/-- A request that fails a check of R156 is counted, and any other comes to its block. -/
theorem exec_requestCommand_keepsRecorder (n : Nat) {s t : State} (h : exec (requestCommand n) s = .next t) :
    KeepsRecorder s t := by
  rw [exec_requestCommand] at h
  obtain rfl := Host.Outcome.next.inj h
  refine handing_keepsRecorder (fun f u => ?_) _ s
  rcases takeRequest_cases u f (requestCarry f n) with e | e | e | ⟨code, args, e⟩ <;> rw [e]
  · exact .refl u
  · exact .of_recorder rfl
  · exact .of_recorder rfl
  · exact requestCarry_keepsRecorder f n code args u

/-- A command that hands the head frame on to a block of its own. -/
theorem handedOn_keepsRecorder {take : State → Frame → State} (h : ∀ s f, KeepsRecorder s (take s f)) (c : Instr)
    (s : State) : KeepsRecorder s (match takeHead s c with
      | some (f, s1) => take s1 f
      | none => s) := by
  have handed := handing_keepsRecorder (fun f s => h s f) c s
  unfold handing at handed
  cases head : takeHead s c with
  | none => exact .refl s
  | some x => rwa [head] at handed

/-! ### Every command and the idle step -/

/-- An event at the end of one of the station's timers: time passes, and the event follows. -/
theorem timedEvent_keepsRecorder {c : Prop} [Decidable c] {taken : State → State} (h : ∀ u, KeepsRecorder u (taken u))
    (d : Nat) (s : State) : KeepsRecorder s (if c then taken (elapse d s) else s) := .ite (elapsed_keepsRecorder d (h _))

/-- Every command keeps the laws of the recorder. -/
theorem exec_keepsRecorder {i : Instr} {s t : State} (h : exec i s = .next t) : KeepsRecorder s t := by
  cases i with
  | powerOnReset => obtain rfl := Host.Outcome.next.inj h; exact fun _ => recorderLaw_reset
  | warmReset => obtain rfl := Host.Outcome.next.inj h; exact fun law => recorderLaw_warm law
  | stationStart => obtain rfl := Host.Outcome.next.inj h; exact .ite (startStation_keepsRecorder s)
  | passTimerExpiry => obtain rfl := Host.Outcome.next.inj h; exact .ite (beginPass_keepsRecorder s)
  | probeHoldExpiry => obtain rfl := Host.Outcome.next.inj h; exact .ite (beginPass_keepsRecorder s)
  | passClose => exact execPassClose_keepsRecorder h
  | extraReportDue =>
    obtain rfl := Host.Outcome.next.inj h
    exact timedEvent_keepsRecorder (taken := sendReport) (fun _ => .of_recorder rfl) _ s
  | regularReport => obtain rfl := Host.Outcome.next.inj h; exact .ite (.of_recorder (elapse_recorder s _))
  | scanRound => obtain rfl := Host.Outcome.next.inj h; exact .ite (.of_recorder (elapse_recorder s _))
  | sampleEvent n code =>
    obtain rfl := Host.Outcome.next.inj h
    split
    · exact .ite ((takeSample_keepsRecorder _ n _).afterSame rfl)
    · exact .refl s
  | frameReceived f => obtain rfl := Host.Outcome.next.inj h; exact .ite (receive_keepsRecorder s f)
  | roomReport => obtain rfl := Host.Outcome.next.inj h; exact handedOn_keepsRecorder takeRoomReport_keepsRecorder _ s
  | modeNotice => exact execModeNotice_keepsRecorder h
  | boostTimerExpiry n =>
    obtain rfl := Host.Outcome.next.inj h
    exact timedEvent_keepsRecorder (fun u => withdraw_keepsRecorder u n .boost) _ s
  | roomEntersHeld room =>
    obtain rfl := Host.Outcome.next.inj h
    exact timedEvent_keepsRecorder (fun u => ageRoom_keepsRecorder u room _ _) _ s
  | roomStale room =>
    obtain rfl := Host.Outcome.next.inj h
    split
    · exact elapsed_keepsRecorder _ (orphanRoom_keepsRecorder _ room _)
    · exact elapsed_keepsRecorder _ (orphanRoom_keepsRecorder _ room _)
    · exact .refl s
  | stationReport => obtain rfl := Host.Outcome.next.inj h; exact handedOn_keepsRecorder takeStationReport_keepsRecorder _ s
  | peerStale n => obtain rfl := Host.Outcome.next.inj h; exact .ite (.of_recorder (elapse_recorder s _))
  | peerRemoval n => obtain rfl := Host.Outcome.next.inj h; exact .ite (.of_recorder (elapse_recorder s _))
  | sourceReport => obtain rfl := Host.Outcome.next.inj h; exact handedOn_keepsRecorder takeSourceReport_keepsRecorder _ s
  | sourceStale => obtain rfl := Host.Outcome.next.inj h; exact timedEvent_keepsRecorder staleSource_keepsRecorder _ s
  | unusedFrame =>
    obtain rfl := Host.Outcome.next.inj h
    exact handedOn_keepsRecorder (take := fun u _ => countUnused u) (fun _ _ => .of_recorder rfl) _ s
  | readLoop => exact exec_requestCommand_keepsRecorder 1 h
  | readFaults => exact exec_requestCommand_keepsRecorder 2 h
  | readPeers => exact exec_requestCommand_keepsRecorder 3 h
  | readTrim => exact exec_requestCommand_keepsRecorder 4 h
  | startDryout => exact exec_requestCommand_keepsRecorder 5 h
  | stopDryout => exact exec_requestCommand_keepsRecorder 6 h
  | recalibrate => exact exec_requestCommand_keepsRecorder 7 h
  | clearFaults => exact exec_requestCommand_keepsRecorder 8 h
  | alertMask => exact exec_requestCommand_keepsRecorder 9 h
  | alertEnable => exact exec_requestCommand_keepsRecorder 10 h
  | unknownRequest => exact exec_requestCommand_keepsRecorder 11 h
  | dryoutHour p =>
    obtain rfl := Host.Outcome.next.inj h
    exact .ite ((finishDry_keepsRecorder s).trans (elapsed_keepsRecorder _ (setInstance_keepsRecorder _ p _)))
  | dryoutStepEnd p =>
    obtain rfl := Host.Outcome.next.inj h
    exact .ite ((finishDry_keepsRecorder s).trans (stepEnd_keepsRecorder _ p))
  | meterPulse => obtain rfl := Host.Outcome.next.inj h; exact .ite (.of_recorder rfl)
  | feedbackEdge n a b => obtain rfl := Host.Outcome.next.inj h; exact feedbackEdge_keepsRecorder s n a b
  | stall n =>
    obtain rfl := Host.Outcome.next.inj h
    exact timedEvent_keepsRecorder (fun u => stallTaken_keepsRecorder u n) _ s
  | moveTimeout n =>
    obtain rfl := Host.Outcome.next.inj h
    exact timedEvent_keepsRecorder (taken := fun u => timeoutTaken u n) (fun u => endedByFault_keepsRecorder u n _) _ s
  | phaseLimitExpiry n =>
    obtain rfl := Host.Outcome.next.inj h
    split
    · exact elapsed_keepsRecorder _ (failCalibration_keepsRecorder _ n _)
    · exact .refl s
  | settlingEnd n =>
    obtain rfl := Host.Outcome.next.inj h
    exact timedEvent_keepsRecorder (fun u => moveCompleted_keepsRecorder u n) _ s
  | calibrationSettlingEnd n =>
    obtain rfl := Host.Outcome.next.inj h
    exact timedEvent_keepsRecorder (fun u => calibrationCompleted_keepsRecorder u n) _ s
  | reversingEnd n =>
    obtain rfl := Host.Outcome.next.inj h
    exact timedEvent_keepsRecorder (fun u => reversingEnded_keepsRecorder u n) _ s
  | calOpenDeadIntervalEnd n =>
    obtain rfl := Host.Outcome.next.inj h
    exact timedEvent_keepsRecorder (taken := fun u => calOpenDriven u n) (fun _ => .of_recorder rfl) _ s
  | transmitStart => exact execTransmit_keepsRecorder (.inl h)
  | arbitrationLost => exact execTransmit_keepsRecorder (.inr (.inl h))
  | arbitrationWon => exact execTransmit_keepsRecorder (.inr (.inr (.inl h)))
  | frameSent => exact execTransmit_keepsRecorder (.inr (.inr (.inr (.inl h))))
  | frameBrokenOff => exact execTransmit_keepsRecorder (.inr (.inr (.inr (.inr h))))

theorem workStep_keepsRecorder (w : Work) (s : State) : KeepsRecorder s (workStep w s) := by
  cases w with
  | load =>
    simp only [workStep, loadStep]
    split
    · exact .refl s
    · exact (report_keepsRecorder _ _).afterSame rfl
  | pass => exact passStep_keepsRecorder s
  | trim => exact trimStep_keepsRecorder s
  | notice => exact noticeStep_keepsRecorder s
  | dryout => exact dryStep_keepsRecorder s
  | alerts =>
    simp only [workStep, placeAlert]
    split <;> exact .of_recorder rfl

/-- The idle step keeps the laws of the recorder. -/
theorem tick_keepsRecorder (s : State) : KeepsRecorder s (tick s) := by
  have queue (u : State) : KeepsRecorder u (queueDue u) := by
    rcases queueDue_cases u with ⟨-, e⟩ | ⟨_, -, _, e⟩ <;> rw [e] <;> exact .of_recorder rfl
  rcases tick_cases s with ⟨-, -, e⟩ | ⟨-, e | ⟨-, e⟩⟩ | ⟨busy, k, -, e⟩ <;> rw [e]
  · exact .of_recorder (elapse_recorder s 1)
  · exact queue s
  · exact (queue _).afterSame rfl
  · obtain ⟨w, -, draws, e⟩ := goOn_piece busy k
    rw [e]
    exact (piece_keepsRecorder (workStep_keepsRecorder w) k _).afterSame rfl

end Sys2Proof.Machine

open Sys2Proof Sys2Proof.Machine

/-- Settles O56: a step is a command or the idle step. Faults reach the recorder by `report`, and the resets, the start and the
requests of tools each keep the law of the pointer and the law of the slots. -/
theorem everyStepKeepsTheLawsOfTheRecorder : Obligations.EveryStepKeepsTheLawsOfTheRecorder := by
  unfold Obligations.EveryStepKeepsTheLawsOfTheRecorder
  intro s t law h
  unfold step at h
  split at h
  · rename_i i rest _
    exact exec_keepsRecorder (s := s.withPending rest) h law
  · obtain rfl := Host.Outcome.next.inj h
    exact tick_keepsRecorder s law

end

section
/-! A fault event whole (R160, R161, R163): what pends at the alert slots, and the ALERTs on their way to the alert transmit
slot. -/

namespace Sys2Proof.Machine

open Sys2Proof

/-! ### ALERTs on their way (R163) -/

section
variable {s : State}

theorem placeAlert_none (none_ : s.bus.placing = []) : placeAlert s = s := by simp only [placeAlert, none_]

/-- The oldest ALERT that waits takes the place of what the slot holds, and an idle transmitter waits. -/
theorem placeAlert_first {first : Frame} {more : List Frame} (waiting : s.bus.placing = first :: more) :
    placeAlert s = { s with bus := { s.bus with
      alert := some first, placing := more, tx := if s.bus.tx = .idle then .waiting else s.bus.tx } } := by
  simp only [placeAlert, waiting]
  rfl

/-- ALERTs that follow others wait behind them. -/
theorem raiseAlerts_busy (busy : s.bus.placing ≠ []) (frames : List Frame) :
    raiseAlerts s frames = { s with bus := { s.bus with placing := s.bus.placing ++ frames } } := by
  simp [raiseAlerts, busy]

theorem raiseAlerts_nil : raiseAlerts s [] = s := by
  by_cases idle : s.bus.placing = []
  · have same : { s with bus := { s.bus with placing := s.bus.placing ++ [] } } = s := by rw [List.append_nil]
    simp only [raiseAlerts, same, placeAlert_none idle, ite_self]
  · rw [raiseAlerts_busy idle, List.append_nil]

/-- With none on its way the first is placed at once. -/
theorem raiseAlerts_cons (idle : s.bus.placing = []) (first : Frame) (more : List Frame) :
    raiseAlerts s (first :: more) = { s with bus := { s.bus with
      alert := some first, placing := more, tx := if s.bus.tx = .idle then .waiting else s.bus.tx } } := by
  simp only [raiseAlerts, idle, List.isEmpty_nil, if_true]
  exact placeAlert_first (by simp only [List.nil_append])

end

/-! ### The alert slots at an unmasked fault (R163) -/

/-- What is made of the elements that pass a test. -/
theorem filterMap_ite_some {α β : Type} (p : α → Bool) (g : α → β) (l : List α) :
    (l.filterMap fun x => if p x then some (g x) else none) = (l.filter p).map g := by
  induction l with
  | nil => rfl
  | cons x l ih => cases h : p x <;> simp [h, ih]

/-- The ALERTs of the unmasked slots that listen for the fault's kind, in slot-number order. -/
def alertsFor (s : State) (e : FaultEvent) : List Frame :=
  ((List.finRange 4).filter fun i => listens (s.recorder.slots.get i) e.kind && !(s.recorder.slots.get i).masked).map
    fun i => alertFrame s i (s.recorder.slots.get i).tag e.kind (faultOrigin e) e.item

section
variable (s : State) (e : FaultEvent)

/-- The severity that an ALERT carries is none that the fault has changed. -/
theorem alertFrame_recordFault (i : Fin 4) (tag : Nat) (k : FaultKind) (origin : Origin) (item : Nat) :
    alertFrame { s with recorder := recordFault s.recorder e } i tag k origin item = alertFrame s i tag k origin item := by
  simp only [alertFrame, recordFault_kinds]
  rfl

theorem filterMap_alertFor : (List.finRange 4).filterMap (alertFor { s with recorder := recordFault s.recorder e } e) =
    if s.recorder.enable then alertsFor s e else [] := by
  obtain ⟨slots, enable⟩ := recordFault_slots s.recorder e
  have one (i : Fin 4) : alertFor { s with recorder := recordFault s.recorder e } e i =
      if s.recorder.enable && (listens (s.recorder.slots.get i) e.kind && !(s.recorder.slots.get i).masked) then
        some (alertFrame s i (s.recorder.slots.get i).tag e.kind (faultOrigin e) e.item) else none := by
    simp only [alertFor, hears, slots, enable, alertFrame_recordFault, Bool.and_comm _ s.recorder.enable, Bool.and_assoc]
  simp only [funext one, filterMap_ite_some]
  cases s.recorder.enable with
  | true => simp only [Bool.true_and, if_true]; rfl
  | false => simp

variable {s e}

/-- A masked fault sends nothing and touches no slot (R160). -/
theorem report_masked (masked : (s.recorder.kinds.get (kindIndex e.kind)).masked = true) :
    (report s e).recorder.slots = s.recorder.slots ∧ (report s e).bus = s.bus := by
  obtain ⟨slots, -⟩ := recordFault_slots s.recorder e
  simp only [report, masked, if_true, slots, and_self]

/-- An unmasked fault pends at each masked slot that hears it. -/
theorem report_slots (unmasked : (s.recorder.kinds.get (kindIndex e.kind)).masked = false) (i : Fin 4) :
    (report s e).recorder.slots.get i = pendAlert s.recorder e (s.recorder.slots.get i) := by
  obtain ⟨slots, enable⟩ := recordFault_slots s.recorder e
  rw [report_recorder, if_neg (ne_true_of_eq_false unmasked), Tab.get_map, slots]
  unfold pendAlert hears
  rw [enable]

/-- With the enable on, an unmasked fault has the ALERTs of the slots that listen for it raised; with the enable off, none. -/
theorem report_bus (unmasked : (s.recorder.kinds.get (kindIndex e.kind)).masked = false) :
    (report s e).bus = (raiseAlerts s (if s.recorder.enable then alertsFor s e else [])).bus := by
  simp only [report, unmasked, Bool.false_eq_true, if_false, offerAlerts, filterMap_alertFor]
  exact raiseAlerts_bus (by rfl) _

theorem pendAlert_off {r : Recorder} (off : r.enable = false) (a : AlertSlot) : pendAlert r e a = a := by
  simp [pendAlert, hears, off]

theorem pendAlert_heard {r : Recorder} {a : AlertSlot} (on : r.enable = true) (listening : listens a e.kind = true)
    (masked : a.masked = true) :
    pendAlert r e a = { a with pending := true, latest := some ⟨e.kind, faultOrigin e, e.item⟩ } := by
  simp [pendAlert, hears, on, listening, masked]

theorem pendAlert_unheard {r : Recorder} {a : AlertSlot} (h : listens a e.kind = false ∨ a.masked = false) :
    pendAlert r e a = a := by
  rcases h with h | h <;> simp [pendAlert, hears, h]

end

end Sys2Proof.Machine

open Sys2Proof Sys2Proof.Machine

/-- Settles O50: the pointer by what `recordFault` makes of it, the slots one by one, and the bus by the ALERTs raised. -/
theorem faultEventIsRecordedAndAlerted : Obligations.FaultEventIsRecordedAndAlerted := by
  unfold Obligations.FaultEventIsRecordedAndAlerted
  refine ⟨fun s e => ?_, fun s e unmasked => ?_, fun s => ⟨placeAlert_none, fun first more => placeAlert_first⟩⟩
  · obtain ⟨pointer, record, overflow⟩ := report_pointer s e
    dsimp only
    rw [pointer, record, overflow]
    refine ⟨report_frame s e, by simp [report_kinds], fun k other => ?_, (report_grows s e).enable, fun masked => ?_,
      fun k unmasked held => recordFault_held unmasked held, fun unmasked empty => recordFault_empty unmasked empty⟩
    · simp [report_kinds, other.symm]
    · obtain ⟨pointer, record, overflow⟩ := recordFault_masked masked
      exact ⟨pointer, record, overflow, report_masked masked⟩
  · have slots := report_slots unmasked
    have bus := report_bus unmasked
    intro t origin hears sent
    have sent_eq : alertsFor s e = sent := rfl
    refine ⟨fun off => ⟨Tab.ext_get fun i => (slots i).trans (pendAlert_off off _), ?_⟩, fun on => ⟨fun i listening masked =>
      (slots i).trans (pendAlert_heard on listening masked), fun i unheard => (slots i).trans (pendAlert_unheard unheard),
      ?_⟩⟩
    · rw [bus, off]
      exact congrArg State.bus raiseAlerts_nil
    · rw [on, if_pos rfl, sent_eq] at bus
      refine ⟨fun none_ => ?_, fun busy => ?_, fun first more idle some_ => ?_⟩
      · rw [bus, none_, raiseAlerts_nil]
      · rw [bus, raiseAlerts_busy busy]
      · rw [bus, some_, raiseAlerts_cons idle]

end

section
/-! CLEAR_FAULTS, ALERT_MASK and ALERT_ENABLE (R162, R164): what each makes of the recorder, and what it answers. -/

namespace Sys2Proof.Machine

open Sys2Proof

/-! ### The kinds that a request names (Table 11.1, R173) -/

theorem kindOfCode_eq_none {n : Nat} : kindOfCode n = none ↔ ¬ (1 ≤ n ∧ n ≤ 16) := by
  have length : FaultKind.all.length = 16 := rfl
  unfold kindOfCode
  split
  · simp only [true_iff]; omega
  · rw [List.getElem?_eq_none_iff, length]; omega

/-- The codes name the places of the recorder's table in order. -/
theorem kindIndex_kindOfCode : ∀ k : Fin 16, (kindOfCode (k.val + 1)).map kindIndex = some k := by decide

theorem exists_kindIndex (k : Fin 16) : ∃ kind, kindIndex kind = k := by
  obtain ⟨kind, -, index⟩ := Option.map_eq_some_iff.1 (kindIndex_kindOfCode k)
  exact ⟨kind, index⟩

theorem kindOfCode_eq_some {n : Nat} {kind : FaultKind} : kindOfCode n = some kind ↔ n = kindCode kind := by
  constructor
  · intro named
    have range : 1 ≤ n ∧ n ≤ 16 := by
      by_contra outside
      rw [kindOfCode_eq_none.2 outside] at named
      cases named
    have place := kindIndex_kindOfCode ⟨n - 1, by omega⟩
    rw [show n - 1 + 1 = n by omega, named, Option.map_some, Option.some.injEq] at place
    rw [← kindIndex_val, place]
    exact (Nat.sub_add_cancel range.1).symm
  · rintro rfl
    exact kindOfCode_kindCode kind

/-- A list of which every element has an image has a list of images, and they are these. -/
theorem exists_mapM_eq_some {α β : Type} {f : α → Option β} : ∀ {l : List α}, (∀ x ∈ l, f x ≠ none) →
    ∃ images, l.mapM f = some images ∧ ∀ y, y ∈ images ↔ ∃ x ∈ l, f x = some y
  | [], _ => ⟨[], rfl, by simp⟩
  | x :: l, all => by
    obtain ⟨y, image⟩ := Option.ne_none_iff_exists'.1 (all x List.mem_cons_self)
    obtain ⟨images, rest, mem⟩ := exists_mapM_eq_some fun z later => all z (List.mem_cons_of_mem x later)
    refine ⟨y :: images, by simp [List.mapM_cons, image, rest], fun z => ?_⟩
    simp only [List.mem_cons, mem, exists_eq_or_imp, image, Option.some.injEq, @eq_comm _ z y]

theorem mapM_eq_none {α β : Type} {f : α → Option β} {l : List α} {x : α} (mem : x ∈ l) (none_ : f x = none) :
    l.mapM f = none := by
  induction l with
  | nil => cases mem
  | cons y l ih =>
    rcases List.mem_cons.1 mem with rfl | later
    · simp [List.mapM_cons, none_]
    · cases image : f y <;> simp [List.mapM_cons, image, ih later]

/-- The list of a CLEAR_FAULTS is whole, no longer than 16, and names kinds only (R157, R173). -/
def GoodList (count : Byte) (codes : List Byte) : Prop :=
  count.toNat ≤ 16 ∧ count.toNat ≤ codes.length ∧ ∀ c ∈ codes.take count.toNat, 1 ≤ c.toNat ∧ c.toNat ≤ 16

section
variable {count : Byte} {codes : List Byte}

theorem clearSet_of_good (good : GoodList count codes) : ∃ named, clearSet (count :: codes) = some named ∧
    ∀ kind, kind ∈ named ↔ ∃ c ∈ codes.take count.toNat, c.toNat = kindCode kind := by
  obtain ⟨few, whole, range⟩ := good
  have known : ∀ c ∈ codes.take count.toNat, kindOfCode c.toNat ≠ none := fun c mem none_ =>
    kindOfCode_eq_none.1 none_ (range c mem)
  obtain ⟨named, found, mem⟩ := exists_mapM_eq_some known
  refine ⟨named, by simp only [clearSet, few, whole, and_self, if_true, found], fun kind => ?_⟩
  simp only [mem, kindOfCode_eq_some]

theorem clearSet_of_bad (bad : ¬ GoodList count codes) : clearSet (count :: codes) = none := by
  unfold clearSet
  dsimp only
  split
  · rename_i fits
    obtain ⟨few, whole⟩ := fits
    have outside : ∃ c ∈ codes.take count.toNat, ¬ (1 ≤ c.toNat ∧ c.toNat ≤ 16) := by
      by_contra all
      push Not at all
      exact bad ⟨few, whole, all⟩
    obtain ⟨c, mem, unknown⟩ := outside
    exact mapM_eq_none mem (kindOfCode_eq_none.2 unknown)
  · rfl

end

/-- Beside the pointer a clear changes statuses only. -/
theorem clearKinds_beside (r : Recorder) (named : List FaultKind) :
    (clearKinds r named).kinds = named.foldl clearStatus r.kinds ∧ (clearKinds r named).slots = r.slots ∧
      (clearKinds r named).enable = r.enable := by
  rcases clearKinds_eq r named with ⟨-, e⟩ | ⟨-, e⟩ <;> rw [e] <;> exact ⟨rfl, rfl, rfl⟩

theorem clearKinds_status_named {r : Recorder} {named : List FaultKind} {kind : FaultKind} (mem : kind ∈ named) :
    ((clearKinds r named).kinds.get (kindIndex kind)).status = false := by
  obtain ⟨kinds, -⟩ := clearKinds_beside r named
  have found : named.any (fun x => kindIndex x == kindIndex kind) = true := List.any_eq_true.2 ⟨kind, mem, beq_self_eq_true _⟩
  simp only [kinds, foldl_clearStatus, found, Bool.not_true, Bool.and_false]

theorem clearKinds_status_other {r : Recorder} {named : List FaultKind} {kind : FaultKind} (out : kind ∉ named) :
    ((clearKinds r named).kinds.get (kindIndex kind)).status = (r.kinds.get (kindIndex kind)).status := by
  obtain ⟨kinds, -⟩ := clearKinds_beside r named
  have absent : named.any (fun x => kindIndex x == kindIndex kind) = false :=
    List.any_eq_false.2 fun x mem same => out (kindIndex_inj (beq_iff_eq.1 same) ▸ mem)
  simp only [kinds, foldl_clearStatus, absent, Bool.not_false, Bool.and_true]

/-! ### The alert slot that a request names, and what it is set to (section 13.3) -/

theorem slotOfByte_ofNat (i : Fin 4) : slotOfByte (BitVec.ofNat 8 (i.val + 1)) = some i := by
  have number : (BitVec.ofNat 8 (i.val + 1)).toNat = i.val + 1 := by rw [BitVec.toNat_ofNat]; omega
  unfold slotOfByte
  split
  · simp only [number, Nat.add_sub_cancel]
  · omega

theorem slotOfByte_eq_none {n : Byte} (outside : n.toNat = 0 ∨ 4 < n.toNat) : slotOfByte n = none := by
  rw [slotOfByte, dif_neg (by omega)]

theorem onOff_eq_none {v : Byte} (beyond : 1 < v.toNat) : onOff v = none := by
  unfold onOff
  split
  · omega
  · omega
  · rfl

/-! ### ALERT_MASK (R164) -/

/-- A single ALERT with none before it on the way is placed at once. -/
theorem raiseAlerts_single {s : State} (idle : s.bus.placing = []) (f : Frame) :
    raiseAlerts s [f] = placeFrame s .alert f := by
  rw [raiseAlerts_cons idle, ← idle]
  rfl

section
variable {s : State} {i : Fin 4}

theorem maskSlot_sends {l : LatestPending} (masked : (s.recorder.slots.get i).masked = true)
    (pending : (s.recorder.slots.get i).pending = true) (latest : (s.recorder.slots.get i).latest = some l) :
    maskSlot s i false = raiseAlerts
      (putSlot s i { s.recorder.slots.get i with masked := false, pending := false, latest := none })
      [alertFrame s i (s.recorder.slots.get i).tag l.kind l.origin l.item] := by
  simp only [maskSlot, masked, pending, latest, Bool.and_self, Bool.false_eq_true, if_false]

theorem maskSlot_quiet (quiet : (s.recorder.slots.get i).masked = false ∨ (s.recorder.slots.get i).pending = false) :
    maskSlot s i false = putSlot s i { s.recorder.slots.get i with masked := false } := by
  have closed : ((s.recorder.slots.get i).masked && (s.recorder.slots.get i).pending) = false := by
    rcases quiet with h | h <;> simp [h]
  simp only [maskSlot, closed, Bool.false_eq_true, if_false]

/-- A slot masked or unmasked is answered with what stands after. -/
theorem carryAlertMask_slot {v : Byte} {on : Bool} (value : onOff v = some on) (more : List Byte) {t : State}
    {a : AlertSlot} (made : maskSlot s i on = t) (slot : t.recorder.slots.get i = a) :
    carryAlertMask (BitVec.ofNat 8 (i.val + 1) :: v :: more) s =
      (t, single .ok [flagByte a.masked, flagByte a.pending]) := by
  simp only [carryAlertMask, slotOfByte_ofNat, value, made, slot]

end

theorem carryAlertMask_bad {n v : Byte} (bad : slotOfByte n = none ∨ onOff v = none) (more : List Byte) (s : State) :
    carryAlertMask (n :: v :: more) s = (s, single .badArgument []) := by
  rcases bad with none_ | none_
  · simp only [carryAlertMask, none_]
  · cases slot : slotOfByte n <;> simp only [carryAlertMask, slot, none_]

/-- The answer of a request that one event carries out. -/
theorem exec_answered {s t : State} {f : Frame} {code : Byte} {args : List Byte} {a : Answer}
    {carry : List Byte → State → State × Answer} (request : accepted s f code args)
    (block : requestCarry f code.toNat = answering f carry) (answer : carry args (popped s) = (t, a)) :
    exec (requestCommand code.toNat) s = .next (replied t f code (u8 (resultCode a.result)) a.part a.last a.data) := by
  rw [exec_accepted request, block, answering_eq answer]

end Sys2Proof.Machine

open Sys2Proof Sys2Proof.Machine

/-- Settles O39: a good list names the kinds of its codes, and the clear is read off the recorder kind by kind. -/
theorem clearFaultsClearsTheNamedKinds : Obligations.ClearFaultsClearsTheNamedKinds := by
  unfold Obligations.ClearFaultsClearsTheNamedKinds
  intro s f count codes request
  refine ⟨fun bad => ?_, fun good => ?_⟩
  · have answer : carryClearFaults (count :: codes) (popped s) = (popped s, single .badArgument []) := by
      simp only [carryClearFaults, clearSet_of_bad bad]
    exact exec_answered request rfl answer
  · obtain ⟨named, set, mem⟩ := clearSet_of_good good
    obtain ⟨kinds, slots, enable⟩ := clearKinds_beside s.recorder named
    have answer : carryClearFaults (count :: codes) (popped s) =
        let t : State := { popped s with recorder := clearKinds s.recorder named }
        (t, single .ok (u16 (statusWord t) ++ [pointerByte t.recorder.pointer, flagByte t.recorder.overflow])) := by
      simp only [carryClearFaults, set, popped_recorder]
    refine ⟨_, exec_answered request rfl answer, rfl, slots, enable, fun k => ?_, ?_, ?_⟩
    · obtain ⟨kind, rfl⟩ := exists_kindIndex k
      rw [kindIndex_val]
      refine ⟨by rw [kinds, foldl_clearStatus], by rw [kinds, foldl_clearStatus], fun isNamed => ?_, fun unnamed => ?_⟩
      · exact clearKinds_status_named ((mem kind).2 isNamed)
      · refine clearKinds_status_other fun isNamed => ?_
        obtain ⟨c, listed, code⟩ := (mem kind).1 isNamed
        exact unnamed c listed code
    · rintro ⟨k, pointer, isNamed⟩
      rcases clearKinds_eq s.recorder named with ⟨-, e⟩ | ⟨out, -⟩
      · simp only [e, withoutPointer, and_self]
      · exact absurd pointer (out k ((mem k).2 isNamed))
    · intro unnamed
      rcases clearKinds_eq s.recorder named with ⟨⟨k, isNamed, pointer⟩, -⟩ | ⟨-, e⟩
      · obtain ⟨c, listed, code⟩ := (mem k).1 isNamed
        exact absurd code (unnamed k pointer c listed)
      · simp only [e, and_self]

/-- Settles O40: the slot that is named is masked, or unmasked with or without an ALERT, and the enable is set. -/
theorem alertMaskAndAlertEnable : Obligations.AlertMaskAndAlertEnable := by
  unfold Obligations.AlertMaskAndAlertEnable
  refine ⟨fun s f i v more request => ?_, fun s f i v more request outside => ?_, fun s f v more request => ?_⟩
  · intro a put
    refine ⟨fun beyond => ?_, fun one => ?_, fun l zero masked pending latest => ?_, fun zero quiet => ?_⟩
    · exact exec_answered request rfl (carryAlertMask_bad (.inr (onOff_eq_none beyond)) more _)
    · subst one
      exact exec_answered request rfl (carryAlertMask_slot (t := put { a with masked := true }) rfl more rfl
        (Tab.get_set_self _ _ _))
    · subst zero
      intro freed sent
      have sends : maskSlot (popped s) i false = raiseAlerts freed [sent] := maskSlot_sends masked pending latest
      have answer {t : State} (raised : raiseAlerts freed [sent] = t) :
          exec .alertMask s = .next (replied t f 9 0 0 0 [0, 0]) := by
        have slot : t.recorder.slots.get i = { a with masked := false, pending := false, latest := none } := by
          rw [← raised, raiseAlerts_recorder]
          exact Tab.get_set_self _ _ _
        exact exec_answered request rfl (carryAlertMask_slot rfl more (sends.trans raised) slot)
      exact ⟨fun idle => answer (raiseAlerts_single (s := freed) idle sent),
        fun busy => answer (raiseAlerts_busy (s := freed) busy [sent])⟩
    · subst zero
      exact exec_answered request rfl (carryAlertMask_slot (t := put { a with masked := false }) rfl more
        (maskSlot_quiet (s := popped s) quiet) (Tab.get_set_self _ _ _))
  · exact exec_answered request rfl (carryAlertMask_bad (.inl (slotOfByte_eq_none outside)) more _)
  · refine ⟨fun beyond => ?_, fun one => ?_, fun zero => ?_⟩
    · have answer : carryAlertEnable (v :: more) (popped s) = (popped s, single .badArgument []) := by
        simp only [carryAlertEnable, List.head?_cons, Option.bind_some, onOff_eq_none beyond]
      exact exec_answered request rfl answer
    · subst one
      exact exec_answered request rfl (carry := carryAlertEnable) rfl
    · subst zero
      exact ⟨_, exec_answered request rfl (carry := carryAlertEnable) rfl, fun i => Tab.get_map unpend _ i⟩

end

section
/-! POWER_ON_RESET (R167): the checks of the image as a whole, in the order of R167's table. -/

namespace Sys2Proof.Machine

open Sys2Proof

/-- A memory too short for a header has no length, and its image is MISSING. -/
theorem checkImage_headerless : ∀ words : List Word16, words.length < 2 →
    checkImage (some words) = ⟨.missing, none, []⟩
  | [], _ => rfl
  | [_], _ => rfl
  | _ :: _ :: _, short => by simp at short

section
variable (format length : Word16) (rest : List Word16)

/-- The words that the header's length names, as numbers. -/
def namedWords : List Nat := ((format :: length :: rest).take length.toNat).map BitVec.toNat

/-- The status of an image with a header, by the first check that fails (R167). -/
def headedStatus : ImageStatus :=
  if (format :: length :: rest).length < length.toNat then .missing
  else if (namedWords format length rest).sum % 65536 ≠ 0xFFFF then .badSum
  else if imageSections (namedWords format length rest) = none then .badSum
  else if format.toNat ≠ 1 then .badFormat
  else .ok

/-- What the load finds at a memory with a header: its length, and its words when every check passes. -/
theorem checkImage_headed : checkImage (some (format :: length :: rest)) =
    ⟨headedStatus format length rest, some length.toNat,
      if headedStatus format length rest = .ok then (format :: length :: rest).take length.toNat else []⟩ := by
  have short : ((format :: length :: rest).take length.toNat).length < length.toNat ↔
      (format :: length :: rest).length < length.toNat := by rw [List.length_take]; omega
  have named : ((format :: length :: rest).take length.toNat).map BitVec.toNat = namedWords format length rest := rfl
  simp only [checkImage, headedStatus, short, named, Option.isNone_iff_eq_none, ne_eq]
  by_cases ends : (format :: length :: rest).length < length.toNat
  · simp only [ends, if_true, reduceCtorEq, if_false]
  · by_cases sum : (namedWords format length rest).sum % 65536 = 65535
    · by_cases cut : imageSections (namedWords format length rest) = none
      · simp only [ends, sum, cut, or_true, if_true, ite_self, reduceCtorEq, if_false]
      · by_cases known : format.toNat = 1
        · simp only [ends, sum, cut, known, not_true, or_self, if_true, if_false]
        · simp only [ends, sum, cut, known, not_true, not_false_eq_true, or_self, if_true, reduceCtorEq, if_false]
    · simp only [ends, sum, not_false_eq_true, true_or, if_true, reduceCtorEq, if_false]

end

/-- No word of an image that fails as a whole is kept. -/
theorem checkImage_keeps_nothing : ∀ memory, (checkImage memory).status ≠ .ok → (checkImage memory).image = []
  | none, _ => rfl
  | some [], _ => rfl
  | some [_], _ => rfl
  | some (format :: length :: rest), failed => by
    rw [checkImage_headed] at failed ⊢
    exact if_neg failed

end Sys2Proof.Machine

open Sys2Proof Sys2Proof.Machine

/-- Settles O4: the blocks are those of the reset table, and the image is judged by its header, or has none. -/
theorem powerOnResetBeginsALoad : Obligations.PowerOnResetBeginsALoad := by
  unfold Obligations.PowerOnResetBeginsALoad
  refine ⟨fun straps memory s => ⟨powerOn straps memory s, rfl, rfl, rfl⟩, rfl, rfl, fun words short => ?_,
    fun format length rest => ?_, checkImage_keeps_nothing⟩
  · rw [checkImage_headerless words short]
    exact ⟨rfl, rfl⟩
  · intro words image
    rw [checkImage_headed]
    exact ⟨rfl, rfl, fun ok => if_pos ok⟩

end

section
/-! The start of the station in FALLBACK (R169): what a load without a usable image hands on, and the channels that calibrate. -/

namespace Sys2Proof.Machine

open Sys2Proof

/-! ### The load without a usable image -/

/-- No record of an image that fails as a whole is used. -/
theorem loadImage_of_failed {status : ImageStatus} (failed : status ≠ .ok) (image : List Word16) :
    loadImage status image = fallbackLoad status := by
  cases status with
  | ok => exact absurd rfl failed
  | missing => rfl
  | badSum => rfl
  | badFormat => rfl

/-- What the recorder takes from a load in FALLBACK: the default masks, no kinds and no tags, and the enable. -/
theorem startRecorder_fallback (status : ImageStatus) (warm : Bool) (r : Recorder) :
    let started := startRecorder (fallbackLoad status) warm r
    (∀ k, (started.kinds.get k).masked = decide (k = 10) ∧ (started.kinds.get k).status = (r.kinds.get k).status) ∧
    (∀ i, (started.slots.get i).kinds = 0 ∧ (started.slots.get i).tag = 0) ∧ started.enable = true := by
  refine ⟨fun k => ?_, fun i => ?_, rfl⟩
  · simp only [startRecorder, Tab.get_tabulate, startKind, fallbackLoad, defaultKinds_eq, and_self]
  · simp only [startRecorder, Tab.get_tabulate, startSlot, fallbackLoad, Tab.get_fill, and_self]

section
variable {s : State} (failed : s.loader.imageStatus ≠ .ok)
include failed

/-- The load has one fault to report, once (R167). -/
theorem loadFaults_of_failed :
    loadFaults s = [configFault 0 0 (imageCause s.loader.imageStatus)].drop s.loader.reported := by
  rw [loadFaults, loadImage_of_failed failed]
  rfl

/-- The whole-image fault that the load still has to report. -/
theorem loadStep_of_unreported (first : s.loader.reported = 0) : loadStep s =
    report { s with loader := { s.loader with reported := 1 } } (configFault 0 0 (imageCause s.loader.imageStatus)) := by
  rw [loadStep, loadFaults_of_failed failed, first]
  rfl

theorem loadFaults_of_reported (told : s.loader.reported ≠ 0) : loadFaults s = [] := by
  rw [loadFaults_of_failed failed]
  exact List.drop_eq_nil_of_le (Nat.one_le_iff_ne_zero.2 told)

/-- The blocks come into service with what FALLBACK hands them. -/
theorem broughtUp_of_failed :
    broughtUp s = startBlocks (reportAll s (loadFaults s)) (fallbackLoad s.loader.imageStatus) := by
  rw [broughtUp, loadImage_of_failed failed]

theorem broughtUp_fallback : (broughtUp s).loader.state = .fallback := by
  rw [broughtUp_loader]
  exact if_neg failed

/-- A channel as its block comes into service in FALLBACK: in use, with its flag clear (R127). -/
theorem broughtUp_channel_of_failed (n : Fin 12) : (broughtUp s).channels.get n =
    { s.channels.get n with rest := (s.channels.get n).counter, calibrated := false } := by
  obtain ⟨_, _, _, _, e⟩ := reportAll_frame s (loadFaults s)
  rw [broughtUp, e]
  simp [startBlocks, stateAfterLoad, failed, startChannel]

theorem imageLoops_of_failed (n : Fin 12) : (imageLoops s).get n = none := by
  rw [imageLoops, loadImage_of_failed failed]
  exact Tab.get_fill _ n

/-- Every channel asks to calibrate (R170). -/
theorem asksAtStart_of_failed (n : Fin 12) : asksAtStart (restarted s) n = true := by
  obtain ⟨channels, -, loader⟩ := restarted_drive s
  simp only [asksAtStart, channelInUse, loader, broughtUp_fallback failed, channels, broughtUp_channel_of_failed failed]
  rfl

/-- All channels have asked when the start is complete, in channel order. -/
theorem startStation_asked
    (rests : ∀ n, (s.channels.get n).state = .uncalibrated ∨ (s.channels.get n).state = .idle) :
    AskedSoFar (restarted s) (List.finRange 12) (startStation s) := by
  obtain ⟨channels, arbiter, -⟩ := restarted_drive s
  have all : (List.finRange 12).filter (asksAtStart (restarted s)) = List.finRange 12 :=
    List.filter_eq_self.2 fun n _ => asksAtStart_of_failed failed n
  have asked := askedSoFar_foldl (b := restarted s)
    (fun n _ => by rw [channels, broughtUp_channel_of_failed failed]; exact rests n)
    (List.finRange 12) (askedSoFar_nil arbiter) (List.nodup_finRange 12) fun _ _ => List.not_mem_nil
  rwa [all, ← startStation_eq] at asked

/-- A kept program has no definition to go on with, and is aborted at its step (R144). -/
theorem startStation_instanceOf_of_failed {p : Prog} (under : kept (instanceOf s p)) :
    instanceOf (startStation s) p = { instanceOf s p with state := .aborted, members := [] } := by
  obtain ⟨x, h⟩ := exists_checkedIn s p
  obtain ⟨-, -, -, -, -, -, -, config, -⟩ := startStation_beside s
  have undefined : programDef x p = none := by
    rw [← programDef_congr h.config, programDef_congr config, broughtUp_of_failed failed]
    cases p <;> rfl
  rw [h.own, restartProgram_undefined (by rwa [h.before]) undefined, report_instanceOf, instanceOf_setInstance, h.before]

end

end Sys2Proof.Machine

open Sys2Proof Sys2Proof.Machine

/-- Settles O7: the blocks as FALLBACK brings them up, the one fault of the load, and every channel asking in its turn. -/
theorem startInFallbackCalibratesEveryChannel : Obligations.StartInFallbackCalibratesEveryChannel := by
  unfold Obligations.StartInFallbackCalibratesEveryChannel
  intro s loading failed rests
  have up := broughtUp_of_failed failed
  obtain ⟨loader, rooms, -, engine, -, meter, timer, config, tables⟩ := startStation_beside s
  obtain ⟨grows, status⟩ := startStation_recorder s
  rw [broughtUp_recorder, loadImage_of_failed failed] at grows status
  obtain ⟨kinds, slots, enable⟩ := startRecorder_fallback s.loader.imageStatus s.loader.warm
    (reportAll s (loadFaults s)).recorder
  have asked := startStation_asked failed rests
  have config : (startStation s).config = StationConfig.reset := by rw [config, up]; rfl
  refine ⟨startStation s, by simp only [exec, execStationStart, loading, if_true],
    by rw [loader, broughtUp_fallback failed], by rw [engine]; rfl, by rw [timer, broughtUp_reportTimer, Nat.mul_comm],
    fun n => ?_, by rw [rooms, up]; rfl, fun k => by rw [config]; exact Tab.get_fill _ k, by rw [config]; rfl,
    by rw [config]; rfl, by rw [config]; rfl, by rw [config]; rfl, by rw [config]; rfl,
    fun k => by rw [tables, up]; exact Tab.get_fill _ k, by rw [meter, up]; rfl,
    fun k => by rw [grows.masked, (kinds k).1], fun i => ?_, by rw [grows.enable, enable], fun reported => ?_,
    fun first => ?_, fun told => by rw [loadStep, loadFaults_of_reported failed told],
    fun n => asked.flags n (List.mem_finRange n), fun n => ?_, asked.slots, asked.queue, fun p under => ?_⟩
  · have fresh := (startStation_freshLoops s).isSome n
    rwa [imageLoops_of_failed failed, Option.isSome_none, Option.isSome_eq_false_iff, Option.isNone_iff_eq_none] at fresh
  · obtain ⟨heard, tag, -⟩ := grows.slots i
    rw [heard, tag]
    exact slots i
  · rw [status, (kinds _).2]
    rcases reported with first | before
    · rw [loadFaults_of_failed failed, first]
      exact (reportAll_status _ s fun e he => by rw [List.mem_singleton.1 he]; rfl).2 (.inr (List.cons_ne_nil _ _))
    · exact (reportAll_grows s _).status _ before
  · rw [loadStep_of_unreported failed first, configFault]
    cases cause : s.loader.imageStatus with
    | ok => exact absurd cause failed
    | missing => rfl
    | badSum => rfl
    | badFormat => rfl
  · by_cases early : n.val < 3
    · rw [if_pos early]
      exact (asked.first n (by revert n; decide)).1
    · rw [if_neg early]
      exact asked.later n (by revert n; decide)
  · rw [startStation_instanceOf_of_failed failed under]
    exact ⟨rfl, rfl, rfl⟩

end


section
/-! The step of a queue that is not empty, the other half of `step_of_idle`. -/

namespace Sys2Proof.Machine

/-- Of two replacements of the queue the later one stands. -/
@[simp] theorem State.withPending_withPending (s : State) (q r : List Instr) :
    (s.withPending q).withPending r = s.withPending r := rfl

/-- A command at the front is taken off the queue and carried out. -/
theorem step_of_front {s : State} {c : Instr} {rest : List Instr} (front : s.pending = c :: rest) :
    step s = exec c (s.withPending rest) := by simp only [step, front]

end Sys2Proof.Machine

open Sys2Proof Sys2Proof.Machine

/-- Settles O1: the front of the replaced queue is taken off, and the queue's rest replaces it again. -/
theorem stepRunsFrontCommand : Obligations.StepRunsFrontCommand := by
  unfold Obligations.StepRunsFrontCommand
  intro c rest s
  calc step (s.withPending (c :: rest))
      = exec c ((s.withPending (c :: rest)).withPending rest) := step_of_front (s.withPending_pending (c :: rest))
    _ = exec c (s.withPending rest) := by rw [State.withPending_withPending]

end
